-- ==== Sys2Proof/Word.lean ====
section
/-! DEFINITION. Word types of the Trelka 6310: the bytes of a frame or an image, the words that wrap or that are
carried whole. Quantities the manual only counts are Nat or Int (see State). -/

namespace Sys2Proof

/-- One byte of a payload, a serialized record or the parameter image. -/
abbrev Byte := BitVec 8

/-- A cab clock value: seconds, wrapping after 4,294,967,295 (R14). -/
abbrev Clock := BitVec 32

/-- The window sequence, wrapping from 65,535 to 0 (R13). -/
abbrev Seq := BitVec 16

/-- A 16-bit check value (R168, R189, R192). -/
abbrev Check := BitVec 16

/-- A port sample, signed (R137). -/
abbrev Sample := BitVec 16

/-- A source station number as the header carries it (Table 9-2). -/
abbrev Station := BitVec 5

end Sys2Proof
end

