-- ==== Sys2Proof/Syntax.lean ====
section
/-! DEFINITION. The commands of the block: one constructor per row of spec/opcode_table.json, in the table's order,
with the operands the row's rule reads from outside the part. -/

namespace Sys2Proof

/-- A wheel-sensor line (R1). -/
inductive WheelLine where
  | a
  | b
  deriving DecidableEq, Repr

/-- A complete, intact frame as the receiver read it, less the topic: class, source station, payload (Table 9-2). -/
structure RxFrame where
  cls : BitVec 2
  src : Station
  payload : List Byte
  deriving DecidableEq, Repr

/-- The receive faults of R169. FORMAT has two causes, told apart because the acknowledge slot comes between them. -/
inductive ReceiveFault where
  | coding
  | formatLength
  | formatEndMark
  | check
  deriving DecidableEq, Repr

/-- The faults of a transmit attempt (R170). -/
inductive TransmitFault where
  | bit
  | noAck
  deriving DecidableEq, Repr

/-- The commands. -/
inductive Instr where
  /-- R1: the input level of a line changes to high (true) or low. -/
  | wheelInputChange (line : WheelLine) (level : Bool)
  /-- R1: the pending change of a line has held for the filter width. -/
  | filterWidthElapsed (line : WheelLine)
  /-- R9: a window end; the alarm switch stands closed or open (R160). -/
  | windowEnd (switchClosed : Bool)
  | secondEnd
  | retainedSecondsTick
  | alarmEntry
  | repeatTimerExpiry
  | alarmAck (f : RxFrame)
  | alarmClear (f : RxFrame)
  | hire (f : RxFrame)
  | stop (f : RxFrame)
  | resume (f : RxFrame)
  | settle (f : RxFrame)
  | void (f : RxFrame)
  | bookingAssign (f : RxFrame)
  | bookingCancel (f : RxFrame)
  | tariffSelect (f : RxFrame)
  | extraAdd (f : RxFrame)
  | extraRemove (f : RxFrame)
  | tenderCash (f : RxFrame)
  | tenderCard (f : RxFrame)
  | payCancel (f : RxFrame)
  | settleDefer (f : RxFrame)
  | payAccepted (f : RxFrame)
  | payResult (f : RxFrame)
  | payReference (f : RxFrame)
  | offerTimerExpiry
  | resultTimerExpiry
  | cancelTimerExpiry
  | queryTimerExpiry
  /-- R85: the query timer of the unsettled entry of this trip number expires. -/
  | entryQueryTimerExpiry (trip : BitVec 16)
  | shiftOpen (f : RxFrame)
  | shiftClose (f : RxFrame)
  | terminalTotals (f : RxFrame)
  | totalsTimerExpiry
  | journalRead (f : RxFrame)
  | summaryRead (f : RxFrame)
  | talkPress (f : RxFrame)
  | talkRelease (f : RxFrame)
  | callPress (f : RxFrame)
  | callRelease (f : RxFrame)
  | signTest (f : RxFrame)
  | lampTestEnd
  | signWrite (f : RxFrame)
  | refreshPass
  | scrollStep
  /-- R137: the input samples of FRONT_MIC, REAR_MIC and RADIO_IN at this sample period. -/
  | samplePeriod (frontMic rearMic radioIn : Sample)
  | slotEnd
  | chimeEnd
  | statusRead (f : RxFrame)
  | clockSet (f : RxFrame)
  | vehicleState (f : RxFrame)
  | receiveFault (fault : ReceiveFault)
  /-- R178: a complete frame of any topic. -/
  | unmatchedFrame (topic : BitVec 9) (f : RxFrame)
  /-- R182: an intact frame whose source is the part's own number. -/
  | ownNumberFrame (topic : BitVec 9) (cls : BitVec 2) (payload : List Byte)
  | transmitAttempt
  | attemptSucceeded
  | attemptFailed (fault : TransmitFault)
  | arbitrationLost
  | offlineRecovery
  | listenPhaseEnd
  | dormancyEntry
  | wakeByLine
  | mainSupplyLoss
  | backupSupplyFail
  | mainSupplyReturn
  | resetPin
  /-- R191: the image read is finished; the bytes read from the parameter memory, from byte 0. -/
  | loadCompletion (image : List Byte)
  | lineIdle
  | startMark
  deriving DecidableEq, Repr

end Sys2Proof
end

