-- ==== Sys2Proof/Config.lean ====
section
/-! DEFINITION. The fixed numbers of the part, every one the spec's, and the one free value: what the fare accumulator
holds where a rescale leaves its range (log 35). -/

namespace Sys2Proof.Config

/-- The largest amount, and the fare cap (00 Money, R21). -/
def maxAmount : Nat := 9999999

/-- 16-, 24-, 32-, 48- and 56-bit ranges (R5, Table 5-2, Table 5-8). -/
def max16 : Nat := 65535
def max24 : Nat := 16777215
def max32 : Nat := 4294967295
def max48 : Nat := 281474976710655
def max56 : Nat := 72057594037927935

/-- The largest reverse debt (R4). -/
def maxDebt : Nat := 4095

/-- The speed ceiling in tenths of km/h (R7). -/
def maxSpeed : Nat := 2500

/-- Motion thresholds in tenths of km/h (R8). -/
def movingFrom : Nat := 50
def standingBelow : Nat := 20

/-- Run lengths of the sensor judgement (R11, R12). -/
def implausibleRunMax : Nat := 3
def lossRunMax : Nat := 8
def recoveryRunMax : Nat := 16

/-- Window ends in a second (R9). -/
def windowsPerSecond : Nat := 4

/-- The least value of the accumulator p, a signed integer of 44 bits (R30). -/
def minProgress : Int := -8796093022208

/-- FREE VALUE (log 35): how far below 0 the accumulator stands after a rescale whose exact result is below its range. R29
gives the exact result and R30 a range that does not hold it; no rule says what p becomes. R30's limits stand: p stays a
44-bit integer at or below 0 (so more than 2^43 stands for the least of them). -/
opaque rescaleBelowRange : Int → BitVec 44

/-- Drops a window may bring (R27). -/
def dropsPerWindow : Nat := 4

/-- Places of the extras list, the tariff change list, the tenders list, the unsettled list, the journal and the
chime queue (R34, R29, R70, R85, R101, R155). -/
def maxExtras : Nat := 8
def maxChanges : Nat := 4
def maxTenders : Nat := 3
def maxUnsettled : Nat := 4
def maxJournal : Nat := 48
def maxChimes : Nat := 4

/-- Attempts a session may open, and the range of a query count (R72, Table 4-3). -/
def maxAttempts : Nat := 255
def maxQueryCount : Nat := 255

/-- Queries of one attempt (R79). -/
def queryLimit : Nat := 6

/-- Timers in window ends: offer, result, cancel, query (04), totals (R108), repeat (R161), lamp test (R127). -/
def offerTimer : Nat := 20
def resultTimer : Nat := 480
def cancelTimer : Nat := 120
def queryTimer : Nat := 40
def totalsTimer : Nat := 120
def repeatTimer : Nat := 20
def lampTestTimer : Nat := 12

/-- Window ends of the listen phase (R181), of dormancy (R183), of the alarm switch (R160). -/
def listenWindows : Nat := 8
def dormancyWindows : Nat := 240
def holdWindows : Nat := 8

/-- Recessive bits of an idle line (R169), and the idle gaps of a recovery (R172). -/
def idleBits : Nat := 10
def recoveryGaps : Nat := 128

/-- Recessive bits of the end mark (Table 9-2). -/
def endMarkBits : Nat := 7

/-- Fault counter: rise, ceiling, the bound of LIMITED (R171). -/
def faultRise : Nat := 8
def faultMax : Nat := 256
def limitedFrom : Nat := 96

/-- The sign (R118, R124). -/
def columns : Nat := 80
def rows : Nat := 12
def pixels : Nat := 960
def chainLength : Nat := 1920
def blinkPasses : Nat := 100
def blinkShown : Nat := 50

/-- The audio scan (Table 7-4, R144) and the chime amplitude (R156). -/
def slotSamples : Nat := 320
def hangMax : Nat := 8
def chimeLevel : Int := 8000
def thresholdMax : Nat := 32767

/-- The image (R188, Table 11-6). -/
def imageMin : Nat := 1632
def imageMax : Nat := 4096

end Sys2Proof.Config
end

