-- ==== Sys2Proof/Machine/State.lean ====
section
/-! DEFINITION. The state of the Trelka 6310: one structure per block, following the state table of its chapter, the
reasons a step can stop, and the state right after the release of the reset pin on a part never powered before. -/

namespace Sys2Proof.Machine

/-! ### Odometry Unit (01, Table 1-1) -/

/-- Motion state (R8). -/
inductive Motion where
  | standing
  | moving
  deriving DecidableEq, Repr

/-- Sensor state (R12). -/
inductive SensorState where
  | ok
  | suspect
  | fault
  | lost
  deriving DecidableEq, Repr

/-- Sensor mode of the image (R2, R3). -/
inductive SensorMode where
  | single
  | quadrature
  deriving DecidableEq, Repr

/-- Filter width of the image (R1). -/
inductive FilterWidth where
  | off
  | us10
  | us20
  | us40
  deriving DecidableEq, Repr

/-- A wheel-sensor line: input level, settled level, and whether a pending change is present; the pending change's new
level is the complement of the settled one (R1). `true` is high. -/
structure WheelInput where
  input : Bool
  settled : Bool
  change : Bool
  deriving DecidableEq, Repr

/-- The vehicle report (R10). -/
structure VehicleReport where
  moving : Bool
  ignition : Bool
  rearSeat : Bool
  ambient : Nat
  deriving DecidableEq, Repr

/-- The sensor block of the image (01, introduction). -/
structure SensorSettings where
  k : Nat
  nmax : Nat
  mode : SensorMode
  filter : FilterWidth
  deriving DecidableEq, Repr

/-- ODU state. `settings` is absent while no valid image is loaded (R16). -/
structure Odu where
  lineA : WheelInput
  lineB : WheelInput
  debt : Nat
  forward : Nat
  reverse : Nat
  chargeable : Nat
  sequence : Seq
  history : List Nat
  speed : Nat
  motion : Motion
  sensor : SensorState
  implausibleRun : Nat
  lossRun : Nat
  recoveryRun : Nat
  report : VehicleReport
  phase : Nat
  clock : Clock
  clockSet : Bool
  settings : Option SensorSettings
  deriving DecidableEq, Repr

/-! ### Fare Engine (02, Tables 2-1 to 2-3) -/

/-- Charging method (Table 2-2). -/
inductive Method where
  | single
  | double
  deriving DecidableEq, Repr

/-- Tariff record (Table 2-2). -/
structure Tariff where
  f : Nat
  d0 : Nat
  a : Nat
  dd : Nat
  td : Nat
  method : Method
  deriving DecidableEq, Repr

/-- Working tariff: a tariff's fields and K (Table 2-3). -/
structure WorkingTariff where
  tariff : Tariff
  k : Nat
  deriving DecidableEq, Repr

/-- A kind of the extras catalogue (R20). -/
structure ExtraKind where
  amount : Nat
  limit : Nat
  deriving DecidableEq, Repr

/-- An entry of the extras list (Table 2-3). -/
structure Extra where
  kind : Nat
  amount : Nat
  deriving DecidableEq, Repr

/-- An entry of the tariff change list (Table 2-3). -/
structure TariffChange where
  index : Nat
  sequence : Seq
  deriving DecidableEq, Repr

/-- The four fare flags (R39). -/
structure FareFlags where
  degraded : Bool
  rateLimited : Bool
  capped : Bool
  changesUnlisted : Bool
  deriving DecidableEq, Repr

/-- The fare record (Table 2-3). -/
structure FareRecord where
  trip : Nat
  active : Nat
  working : WorkingTariff
  staged : Option Nat
  atStart : Nat
  p : Int
  drops : Nat
  metered : Nat
  extras : List Extra
  bookingFee : Nat
  total : Nat
  changes : List TariffChange
  flags : FareFlags
  deriving DecidableEq, Repr

/-- FEN state. -/
structure Fen where
  tariffs : List (Option Tariff)
  catalogue : List (Option ExtraKind)
  bookingFee : Nat
  record : FareRecord
  owed : Bool
  deriving DecidableEq, Repr

/-! ### Trip Controller (03, Tables 3-1 to 3-3) -/

/-- The held state (R43). -/
inductive HeldState where
  | offDuty
  | free
  | booked
  | hired
  | stopped
  | settling
  deriving DecidableEq, Repr

/-- The meter state (Table 3-2). -/
inductive MeterState where
  | inoperative
  | offDuty
  | free
  | booked
  | hired
  | stopped
  | settling
  deriving DecidableEq, Repr

/-- The INOPERATIVE reason (R44). -/
inductive InopReason where
  | none
  | imageInvalid
  | duplicateStation
  | noTariff
  deriving DecidableEq, Repr

/-- Tender kind (Table 4-2). -/
inductive TenderKind where
  | cash
  | card
  deriving DecidableEq, Repr

/-- A tender as a trip record holds it (Table 3-3). -/
structure Tender where
  kind : TenderKind
  amount : Nat
  tip : Nat
  reference : Option (List Byte)
  deriving DecidableEq, Repr

/-- Trip outcome (Table 3-3). -/
inductive TripOutcome where
  | paid
  | waived
  | partWaived
  | unsettled
  | unpaid
  deriving DecidableEq, Repr

/-- The trip record (Table 3-3). The outcome is absent until close (R45). -/
structure TripRecord where
  trip : Nat
  shift : Nat
  startTime : Clock
  stopTime : Clock
  reference : Option (List Byte)
  tariffAtStart : Nat
  changes : List TariffChange
  hiredWindows : Nat
  chargeable : Nat
  allPulses : Nat
  drops : Nat
  metered : Nat
  extras : List Extra
  bookingFee : Nat
  total : Nat
  tenders : List Tender
  outcome : Option TripOutcome
  fareFlags : FareFlags
  powerGap : Bool
  alarmDuring : Bool
  clockUnset : Bool
  deriving DecidableEq, Repr

/-- The booking record (Table 3-1). -/
structure Booking where
  reference : List Byte
  tariff : Nat
  deriving DecidableEq, Repr

/-- TRC state. -/
structure Trc where
  held : HeldState
  reason : InopReason
  restricted : Bool
  lastTrip : Nat
  record : Option TripRecord
  booking : Option Booking
  preselected : Nat
  owed : Bool
  deriving DecidableEq, Repr

/-! ### Settlement Unit (04, Tables 4-1 to 4-6) -/

/-- The settlement session (R69). -/
structure Session where
  trip : Nat
  shift : Nat
  total : Nat
  attempts : Nat
  deriving DecidableEq, Repr

/-- A tender as the STU holds it: with the attempt number of a card tender (Table 4-2). -/
structure TenderEntry where
  tender : Tender
  attempt : Option Nat
  deriving DecidableEq, Repr

/-- Card attempt state (Table 4-4). -/
inductive AttemptState where
  | queued
  | offered
  | atTerminal
  | cancelling
  | uncertain
  deriving DecidableEq, Repr

/-- The card attempt record (Table 4-3). `waits` is the model's own: a PAY_CANCEL (in CANCELLING) or a
PAY_STATUS_QUERY (in UNCERTAIN) that met QUEUE_FULL waits to be enqueued again (R78, R79). -/
structure Attempt where
  trip : Nat
  shift : Nat
  number : Nat
  requested : Nat
  state : AttemptState
  placed : Bool
  cancelRequested : Bool
  timer : Option Nat
  queries : Nat
  reference : Option (List Byte)
  waits : Bool
  deriving DecidableEq, Repr

/-- An unsettled entry (Table 4-6). `waits` and `closingWaits` are the model's own: a query of the entry's own cycle
(R85), or of the closing's first stage (R87), waits to be enqueued again. -/
structure UnsettledEntry where
  trip : Nat
  shift : Nat
  attempt : Nat
  requested : Nat
  queries : Nat
  left : Nat
  timer : Option Nat
  reference : Option (List Byte)
  waits : Bool
  closingWaits : Bool
  deriving DecidableEq, Repr

/-- The last ending (Table 4-1). -/
inductive Ending where
  | none
  | approved
  | declined
  | cancelled
  | notTaken
  deriving DecidableEq, Repr

/-- STU state. -/
structure Stu where
  session : Option Session
  tenders : List TenderEntry
  attempt : Option Attempt
  unsettled : List UnsettledEntry
  lastEnding : Ending
  deriving DecidableEq, Repr

/-! ### Shift Accounts Unit (05, Tables 5-1 to 5-8) -/

/-- The shift state (R94). -/
inductive ShiftState where
  | closed
  | opened
  | closing
  deriving DecidableEq, Repr

/-- The shift counters (Table 5-2). -/
structure Counters where
  tripsClosed : Nat
  paid : Nat
  waivedCount : Nat
  partWaivedCount : Nat
  unsettledCount : Nat
  unpaidCount : Nat
  fareTotals : Nat
  meteredSum : Nat
  extrasSum : Nat
  bookingFees : Nat
  cash : Nat
  cashTips : Nat
  card : Nat
  cardTips : Nat
  cardApprovals : Nat
  waived : Nat
  unpaid : Nat
  outstanding : Nat
  hiredPulses : Nat
  allPulses : Nat
  hiredWindows : Nat
  discardedPulses : Nat
  rateLimitedWindows : Nat
  unmeteredWindows : Nat
  alarms : Nat
  powerGaps : Nat
  lateSettled : Nat
  strayFrames : Nat
  terminalExcess : Nat
  deriving DecidableEq, Repr

/-- Reconciliation result (Table 5-5). -/
inductive RecResult where
  | matched
  | mismatch
  | noAnswer
  deriving DecidableEq, Repr

/-- The reconciliation record (Table 5-5). -/
structure Reconciliation where
  partCount : Nat
  partSum : Nat
  terminalCount : Nat
  terminalSum : Nat
  result : RecResult
  difference : Int
  deriving DecidableEq, Repr

/-- The last shift summary (Table 5-6). -/
structure Summary where
  number : Nat
  openTime : Clock
  closeTime : Clock
  counters : Counters
  reconciliation : Option Reconciliation
  deriving DecidableEq, Repr

/-- The lifetime totalizers (Table 5-8). -/
structure Lifetime where
  totalPulses : Nat
  hiredPulses : Nat
  trips : Nat
  fareTotals : Nat
  shifts : Nat
  deriving DecidableEq, Repr

/-- A journal or summary answer in progress (R106): the trip or shift number its parts carry, the serialized copy, and
the part position. `box` is the model's own: the mailbox that holds the part, absent while the part waits to be
enqueued again. -/
structure Answer where
  number : Nat
  bytes : List Byte
  part : Nat
  box : Option Nat
  deriving DecidableEq, Repr

/-- SAU state. `totalsWaits` is the model's own: the TOTALS_OFFER waits to be enqueued again (R108). -/
structure Sau where
  shift : ShiftState
  number : Nat
  openTime : Clock
  closeTime : Clock
  recordedCheck : Check
  retainedLost : Bool
  counters : Counters
  journal : List TripRecord
  stage : Nat
  totalsTimer : Option Nat
  totalsWaits : Bool
  reconciliation : Option Reconciliation
  summary : Summary
  lifetime : Lifetime
  journalAnswer : Option Answer
  summaryAnswer : Option Answer
  owed : Bool
  deriving DecidableEq, Repr

/-! ### Roof Sign Driver (06, Tables 6-1 to 6-3) -/

/-- Legend mode (Table 6-2). -/
inductive LegendMode where
  | steady
  | blink
  | scroll
  deriving DecidableEq, Repr

/-- A legend entry; an absent page is DARK (Table 6-2). -/
structure LegendEntry where
  page : Option Nat
  mode : LegendMode
  level : Nat
  deriving DecidableEq, Repr

/-- The legend map (R119). -/
structure LegendMap where
  offDuty : LegendEntry
  free : LegendEntry
  booked : LegendEntry
  hired : LegendEntry
  stopped : LegendEntry
  settling : LegendEntry
  inoperative : LegendEntry
  alarm : LegendEntry
  deriving DecidableEq, Repr

/-- The source of a legend (R121). -/
inductive LegendSource where
  | alarm
  | lampTest
  | dark
  | meter (m : MeterState)
  deriving DecidableEq, Repr

/-- The open state of a write pointer, with the held column (R133). -/
inductive PointerOpen where
  | closed
  | awaitingColumn
  | awaitingRow (column : Nat)
  deriving DecidableEq, Repr

/-- A write pointer (Table 6-1). -/
structure WritePointer where
  column : Nat
  row : Nat
  state : PointerOpen
  deriving DecidableEq, Repr

/-- RSD state. A page is its 960 pixel levels, rows top to bottom, each row left to right. -/
structure Rsd where
  legendPages : List (List Nat)
  marquee : List Nat
  map : LegendMap
  mirror : Bool
  scrollStep : Nat
  chosen : Option LegendSource
  blink : Nat
  scrollColumn : Nat
  scrollCount : Nat
  lampTest : Option Nat
  freeLamp : Bool
  console : WritePointer
  dispatch : WritePointer
  chain : List Nat
  deriving DecidableEq, Repr

/-! ### Cabin Audio Unit (07, Tables 7-1 to 7-7) -/

/-- Intercom mode (R139). -/
inductive IntercomMode where
  | pttOnly
  | vox
  deriving DecidableEq, Repr

/-- The gains of the four sources to one sink (R140). -/
structure SinkGains where
  frontMic : Nat
  rearMic : Nat
  radioIn : Nat
  chime : Nat
  deriving DecidableEq, Repr

/-- The routing matrix: twelve gains (R140). -/
structure Routing where
  frontSpk : SinkGains
  rearSpk : SinkGains
  radioOut : SinkGains
  deriving DecidableEq, Repr

/-- A slot threshold record (R143). -/
structure Threshold where
  openAt : Nat
  closeAt : Nat
  deriving DecidableEq, Repr

/-- The slot in progress (R142, R143). `discard` is the model's own: a slot 1 whose end is neither stored nor judged
(R145). -/
structure Scan where
  slot : Nat
  samples : Nat
  sum : Nat
  threshold : Threshold
  discard : Bool
  deriving DecidableEq, Repr

/-- A source's level table place, activity state and hang count (R143, R144). -/
structure SourceLevel where
  level : Nat
  active : Bool
  hang : Nat
  deriving DecidableEq, Repr

/-- The floor holder (R146). -/
inductive Floor where
  | none
  | front
  | rear
  deriving DecidableEq, Repr

/-- Chime kinds (Table 7-7). -/
inductive ChimeKind where
  | paid
  | declined
  | callWaiting
  | tariffChanged
  deriving DecidableEq, Repr

/-- The chime in play (Table 7-1). `sign` is true for +. -/
structure ChimePlay where
  kind : ChimeKind
  note : Nat
  samplesLeft : Nat
  halfLeft : Nat
  sign : Bool
  deriving DecidableEq, Repr

/-- CAU state. `scan` is absent while the level scan does not run. -/
structure Cau where
  gIc : Nat
  gRadio : Nat
  gAlarm : Nat
  gChime : Nat
  mode : IntercomMode
  routing : Routing
  thresholds : List Threshold
  scan : Option Scan
  frontMic : SourceLevel
  rearMic : SourceLevel
  radio : SourceLevel
  floor : Floor
  rearWaiting : Bool
  frontHeld : Bool
  rearHeld : Bool
  owed : Bool
  queue : List ChimeKind
  chime : Option ChimePlay
  frontSpk : Int
  rearSpk : Int
  radioOut : Int
  deriving DecidableEq, Repr

/-! ### Alarm Unit (08, Table 8-1) -/

/-- The alarm state (R161). -/
inductive AlarmState where
  | clear
  | active
  deriving DecidableEq, Repr

/-- ALM state. -/
structure Alm where
  state : AlarmState
  acknowledged : Bool
  holdCount : Nat
  repeatTimer : Option Nat
  noticeOwed : Bool
  deriving DecidableEq, Repr

/-! ### Cab Bus Interface (09, Table 9-1) -/

/-- The blocks that own mailboxes and topics (Table 0-1). -/
inductive Block where
  | odu
  | fen
  | trc
  | stu
  | sau
  | rsd
  | cau
  | alm
  | cbi
  deriving DecidableEq, Repr

/-- Mailbox states (Table 9-1). -/
inductive BoxState where
  | empty
  | pending
  | sending
  | aborting
  deriving DecidableEq, Repr

/-- State topics and event topics (09, section 9.4). -/
inductive FrameKind where
  | state
  | event
  deriving DecidableEq, Repr

/-- A frame a block hands to the CBI: class, topic, payload, owner, kind. -/
structure TxFrame where
  cls : Nat
  topic : Nat
  payload : List Byte
  owner : Block
  kind : FrameKind
  deriving DecidableEq, Repr

/-- A transmit mailbox (Table 9-1). -/
structure Mailbox where
  state : BoxState
  frame : TxFrame
  age : Nat
  deriving DecidableEq, Repr

/-- Bus standing (R171). -/
inductive Standing where
  | normal
  | limited
  | offline
  | silenced
  deriving DecidableEq, Repr

/-- Bit rate (R168). -/
inductive BitRate where
  | k125
  | k250
  | k500
  deriving DecidableEq, Repr

/-- An acceptance entry (Table 9-4): the block of topic numbers (topic under mask), the source station, the owning
block, the topics the entry names, and whether it is active (R177). -/
structure AcceptEntry where
  topic : Nat
  mask : Nat
  source : Nat
  owner : Block
  topics : List Nat
  active : Bool
  deriving DecidableEq, Repr

/-- CBI state. `nextAge` (the order in which mailboxes became PENDING) and `inFlight` (the mailbox of the attempt under
way) are the model's own; `line` is the coded frame of that attempt, false for dominant; `ackDriven` says whether the part
drove the last acknowledge slot that passed, and stands until another event sets it (DESIGN CHOICE, log 30). -/
structure Cbi where
  bitRate : Option BitRate
  idleCount : Nat
  inFrame : Bool
  ackDriven : Bool
  boxes : List Mailbox
  nextAge : Nat
  inFlight : Option Nat
  line : List Bool
  faultCounter : Nat
  standing : Standing
  idleGaps : Nat
  receiveFaults : Nat
  droppedAnswers : Nat
  acceptance : List AcceptEntry
  listen : Option Nat
  dormant : Bool
  dormancyTimer : Nat
  deriving DecidableEq, Repr

/-! ### Parameter Loader and Retained Memory (10, Table 10-1) -/

/-- Load phase (R188). -/
inductive LoadPhase where
  | reading
  | complete
  deriving DecidableEq, Repr

/-- Image state (R190). -/
inductive ImageState where
  | valid
  | degraded
  | invalid
  deriving DecidableEq, Repr

/-- Start kind (R194). -/
inductive StartKind where
  | cold
  | warm
  deriving DecidableEq, Repr

/-- The peer table; a role of number 0 is absent (00, Station numbers). -/
structure PeerTable where
  own : Nat
  console : Nat
  terminal : Nat
  rearPanel : Nat
  dispatch : Nat
  gateway : Nat
  deriving DecidableEq, Repr

/-- PLD state. `peers` is absent while no valid image is loaded (R189). -/
structure Pld where
  phase : LoadPhase
  image : ImageState
  imageCheck : Check
  tariffCheck : Check
  peers : Option PeerTable
  kind : StartKind
  deriving DecidableEq, Repr

/-- The integrity marker's parts (R193): the backup-loss latch, and whether the store check agrees with the store. -/
structure Rtm where
  latch : Bool
  checkAgrees : Bool
  deriving DecidableEq, Repr

/-- Whether the main supply is present (R188, R193). -/
structure Supply where
  main : Bool
  deriving DecidableEq, Repr

/-! ### The machine -/

/-- The whole state: the blocks, the main supply, and the queue of commands that wait, first in, first out. -/
structure State where
  odu : Odu
  fen : Fen
  trc : Trc
  stu : Stu
  sau : Sau
  rsd : Rsd
  cau : Cau
  alm : Alm
  cbi : Cbi
  pld : Pld
  rtm : Rtm
  supply : Supply
  pending : List Instr
  deriving DecidableEq, Repr

/-- The part has no event that stops it: no rule gives one, so there is no fault to raise (log 31). -/
inductive Fault where
  deriving DecidableEq, Repr

/-- Reasons for which a command has no meaning. -/
inductive Refusal where
  /-- Raised by `exec` alone, for a command without a meaning (none is left). Safe: the model stops. -/
  | notModelled (mnemonic : String)
  deriving DecidableEq, Repr

/-! ### Values -/

/-- All counters 0 (R95, R115). -/
def Counters.zero : Counters where
  tripsClosed := 0
  paid := 0
  waivedCount := 0
  partWaivedCount := 0
  unsettledCount := 0
  unpaidCount := 0
  fareTotals := 0
  meteredSum := 0
  extrasSum := 0
  bookingFees := 0
  cash := 0
  cashTips := 0
  card := 0
  cardTips := 0
  cardApprovals := 0
  waived := 0
  unpaid := 0
  outstanding := 0
  hiredPulses := 0
  allPulses := 0
  hiredWindows := 0
  discardedPulses := 0
  rateLimitedWindows := 0
  unmeteredWindows := 0
  alarms := 0
  powerGaps := 0
  lateSettled := 0
  strayFrames := 0
  terminalExcess := 0

/-- No fare flag set (R23, R40). -/
def FareFlags.none : FareFlags := ⟨false, false, false, false⟩

/-- The empty fare record of a cold start (R40). -/
def FareRecord.empty : FareRecord where
  trip := 0
  active := 0
  working := ⟨⟨0, 0, 0, 0, 0, .single⟩, 0⟩
  staged := Option.none
  atStart := 0
  p := 0
  drops := 0
  metered := 0
  extras := []
  bookingFee := 0
  total := 0
  changes := []
  flags := FareFlags.none

/-- The vehicle report until the first VEHICLE_STATE after a start (R10). -/
def VehicleReport.start : VehicleReport := ⟨false, true, false, 15⟩

/-- A source at level 0, SILENT, hang count 0 (R158, R159). -/
def SourceLevel.silent : SourceLevel := ⟨0, false, 0⟩

/-- All gains 0. -/
def SinkGains.zero : SinkGains := ⟨0, 0, 0, 0⟩

/-- The routing matrix with every gain 0 (R140). -/
def Routing.zero : Routing := ⟨SinkGains.zero, SinkGains.zero, SinkGains.zero⟩

/-- The entry DARK, STEADY, level 0 (R119). -/
def LegendEntry.dark : LegendEntry := ⟨Option.none, .steady, 0⟩

/-- The legend map of an INVALID image (R119). -/
def LegendMap.dark : LegendMap where
  offDuty := LegendEntry.dark
  free := LegendEntry.dark
  booked := LegendEntry.dark
  hired := LegendEntry.dark
  stopped := LegendEntry.dark
  settling := LegendEntry.dark
  inoperative := LegendEntry.dark
  alarm := LegendEntry.dark

/-- A page of pixels at level 0 (R118, R136). -/
def blankPage : List Nat := List.replicate Config.pixels 0

/-- A chain of 1,920 intensities of 0 (R136, R188). -/
def darkChain : List Nat := List.replicate Config.chainLength 0

/-- The write pointer at (0, 0), CLOSED (R136). -/
def WritePointer.origin : WritePointer := ⟨0, 0, .closed⟩

/-- The content an EMPTY mailbox is kept with. -/
def Mailbox.empty : Mailbox := ⟨.empty, ⟨0, 0, [], .cbi, .event⟩, 0⟩

/-- Eight EMPTY mailboxes (R186). -/
def emptyBoxes : List Mailbox := List.replicate 8 Mailbox.empty

/-- ODU values of Table 1-8, with the wheel inputs low and no settings loaded (log 2). -/
def Odu.initial : Odu where
  lineA := ⟨false, false, false⟩
  lineB := ⟨false, false, false⟩
  debt := 0
  forward := 0
  reverse := 0
  chargeable := 0
  sequence := 0
  history := [0, 0, 0, 0]
  speed := 0
  motion := .standing
  sensor := .ok
  implausibleRun := 0
  lossRun := 0
  recoveryRun := 0
  report := VehicleReport.start
  phase := 0
  clock := 0
  clockSet := false
  settings := none

/-- FEN values of R40, with no tables loaded (log 2). -/
def Fen.initial : Fen where
  tariffs := List.replicate 8 none
  catalogue := List.replicate 8 none
  bookingFee := 0
  record := FareRecord.empty
  owed := false

/-- TRC values of R66. -/
def Trc.initial : Trc where
  held := .offDuty
  reason := .none
  restricted := false
  lastTrip := 0
  record := none
  booking := none
  preselected := 0
  owed := false

/-- STU values of R91. -/
def Stu.initial : Stu where
  session := none
  tenders := []
  attempt := none
  unsettled := []
  lastEnding := .none

/-- SAU values of R115. -/
def Sau.initial : Sau where
  shift := .closed
  number := 0
  openTime := 0
  closeTime := 0
  recordedCheck := 0
  retainedLost := true
  counters := Counters.zero
  journal := []
  stage := 0
  totalsTimer := none
  totalsWaits := false
  reconciliation := none
  summary := ⟨0, 0, 0, Counters.zero, none⟩
  lifetime := ⟨0, 0, 0, 0, 0⟩
  journalAnswer := none
  summaryAnswer := none
  owed := false

/-- RSD values of Table 6-6 for an INVALID image: the sign dark, nothing loaded (R136, R188). -/
def Rsd.initial : Rsd where
  legendPages := List.replicate 3 blankPage
  marquee := blankPage
  map := LegendMap.dark
  mirror := false
  scrollStep := 1
  chosen := none
  blink := 0
  scrollColumn := 0
  scrollCount := 0
  lampTest := none
  freeLamp := false
  console := WritePointer.origin
  dispatch := WritePointer.origin
  chain := darkChain

/-- CAU values of Table 7-9 for an INVALID image: silent, nothing loaded (R159, R188). -/
def Cau.initial : Cau where
  gIc := 0
  gRadio := 0
  gAlarm := 0
  gChime := 0
  mode := .pttOnly
  routing := Routing.zero
  thresholds := List.replicate 3 ⟨0, 0⟩
  scan := none
  frontMic := SourceLevel.silent
  rearMic := SourceLevel.silent
  radio := SourceLevel.silent
  floor := .none
  rearWaiting := false
  frontHeld := false
  rearHeld := false
  owed := false
  queue := []
  chime := none
  frontSpk := 0
  rearSpk := 0
  radioOut := 0

/-- ALM values of a cold start (R167). -/
def Alm.initial : Alm where
  state := .clear
  acknowledged := false
  holdCount := 0
  repeatTimer := none
  noticeOwed := false

/-- CBI values while no image is loaded: nothing sent, received or acknowledged (R187, R188). -/
def Cbi.initial : Cbi where
  bitRate := none
  idleCount := 0
  inFrame := false
  ackDriven := false
  boxes := emptyBoxes
  nextAge := 0
  inFlight := none
  line := []
  faultCounter := 0
  standing := .silenced
  idleGaps := 0
  receiveFaults := 0
  droppedAnswers := 0
  acceptance := []
  listen := none
  dormant := false
  dormancyTimer := 0

/-- PLD values at the beginning of a start, before the image is judged (R188, log 2). -/
def Pld.reading (kind : StartKind) : Pld where
  phase := .reading
  image := .invalid
  imageCheck := 0
  tariffCheck := 0
  peers := none
  kind := kind

/-- The machine right after the reset pin is released on a part never powered before: main supply present, load phase
READING, integrity marker lost by the latch, start kind COLD (R188, R193, R194; log 1), nothing pending. -/
def State.reset : State where
  odu := Odu.initial
  fen := Fen.initial
  trc := Trc.initial
  stu := Stu.initial
  sau := Sau.initial
  rsd := Rsd.initial
  cau := Cau.initial
  alm := Alm.initial
  cbi := Cbi.initial
  pld := Pld.reading .cold
  rtm := ⟨true, false⟩
  supply := ⟨true⟩
  pending := []

/-! ### Block updates: every change of State goes through one of these -/

def State.setOdu (s : State) (x : Odu) : State := { s with odu := x }
def State.setFen (s : State) (x : Fen) : State := { s with fen := x }
def State.setTrc (s : State) (x : Trc) : State := { s with trc := x }
def State.setStu (s : State) (x : Stu) : State := { s with stu := x }
def State.setSau (s : State) (x : Sau) : State := { s with sau := x }
def State.setRsd (s : State) (x : Rsd) : State := { s with rsd := x }
def State.setCau (s : State) (x : Cau) : State := { s with cau := x }
def State.setAlm (s : State) (x : Alm) : State := { s with alm := x }
def State.setCbi (s : State) (x : Cbi) : State := { s with cbi := x }
def State.setPld (s : State) (x : Pld) : State := { s with pld := x }
def State.setRtm (s : State) (x : Rtm) : State := { s with rtm := x }
def State.setSupply (s : State) (x : Supply) : State := { s with supply := x }
def State.setPending (s : State) (x : List Instr) : State := { s with pending := x }

end Sys2Proof.Machine
end

