-- ==== Sys2Proof/Machine/Operands.lean ====
section
/-! DEFINITION. Reading and writing fields of bytes, the cyclic check, and the coded form of a frame. Every field of
more than one byte stands most significant byte first (00, Byte order). -/

namespace Sys2Proof.Machine

/-- The `n` low bytes of `v`, most significant first. -/
def be : Nat → Nat → List Byte
  | 0, _ => []
  | n + 1, v => be n (v / 256) ++ [BitVec.ofNat 8 v]

/-- The number that bytes spell, most significant first. -/
def ofBytes (bs : List Byte) : Nat := bs.foldl (fun acc b => acc * 256 + b.toNat) 0

/-- The `n` bytes from byte `at` on; a byte past the end reads as 0 (log 24; a payload of the topic's length has none). -/
def slice (bs : List Byte) (start n : Nat) : List Byte :=
  let part := (bs.drop start).take n
  part ++ List.replicate (n - part.length) 0

/-- The number in the `n` bytes from byte `start` on. -/
def field (bs : List Byte) (start n : Nat) : Nat := ofBytes (slice bs start n)

/-- A one-byte yes-or-no field: no where it is 0, yes for any other value (R195). -/
def yes (bs : List Byte) (start : Nat) : Bool := field bs start 1 != 0

/-- The part sends 1 for yes (R195). -/
def yesByte (b : Bool) : Byte := if b then 1 else 0

/-- A one-byte field of a coded value. -/
def codeByte (n : Nat) : Byte := BitVec.ofNat 8 n

/-- A signed value in `n` bytes, two's complement (Table 11-5). -/
def beInt (n : Nat) (v : Int) : List Byte := be n (v % (256 ^ n : Nat)).toNat

/-! ### The cyclic check (R168, R189, R192) -/

/-- One bit through the register of the code x^16 + x^12 + x^5 + 1. -/
def checkBit (r : Check) (b : Bool) : Check :=
  if r.msb != b then (r <<< 1) ^^^ 0x1021#16 else r <<< 1

/-- The check over bits in the order they are sent, the register preset to all ones, no inversion of the result. -/
def checkBits (bits : List Bool) : Check := bits.foldl checkBit 0xFFFF#16

/-- The `n` low bits of `v`, most significant first. -/
def bitsOf : Nat → Nat → List Bool
  | 0, _ => []
  | n + 1, v => bitsOf n (v / 2) ++ [v % 2 == 1]

/-- The bits of bytes, each most significant bit first. -/
def byteBits (bs : List Byte) : List Bool := bs.flatMap fun b => bitsOf 8 b.toNat

/-- One byte through the check register. -/
def checkByte (r : Check) (b : Byte) : Check := (bitsOf 8 b.toNat).foldl checkBit r

/-- The check over bytes in address order, each most significant bit first (R189). -/
def checkBytes (bs : List Byte) : Check := bs.foldl checkByte 0xFFFF#16

/-! ### The frame on the line (R168) -/

/-- The header as one number: class, topic, source station (11, section 11.1). -/
def headerOf (cls topic source : Nat) : Nat := cls * 16384 + topic * 32 + source

/-- A sync bit after every fourth bit, the complement of that fourth bit. -/
def insertSync : List Bool → List Bool
  | a :: b :: c :: d :: rest => a :: b :: c :: d :: (!d) :: insertSync rest
  | rest => rest

/-- Header, length and payload: the bits the check is taken over. -/
def checkedBits (header : Nat) (payload : List Byte) : List Bool :=
  bitsOf 16 header ++ bitsOf 4 payload.length ++ byteBits payload

/-- Header, length, payload and check, with sync bits. -/
def codedPart (header : Nat) (payload : List Byte) : List Bool :=
  insertSync (checkedBits header payload ++ bitsOf 16 (checkBits (checkedBits header payload)).toNat)

/-- The frame as its sender puts it on the line, start mark to end mark; false is dominant, true recessive
(Table 9-2). -/
def frameBits (header : Nat) (payload : List Byte) : List Bool :=
  [false] ++ codedPart header payload ++ [true] ++ List.replicate Config.endMarkBits true

/-! ### The image header (R188) -/

/-- The length the image header gives, or none where the format byte is not 1 or the length lies below the smallest
image or above 4,096. -/
def headerLength (image : List Byte) : Option Nat :=
  let n := field image 1 2
  if field image 0 1 = 1 ∧ Config.imageMin ≤ n ∧ n ≤ Config.imageMax then some n else none

/-- A sum that stops at the top of a range (R5, R97, R113). -/
def satAdd (top a b : Nat) : Nat := min (a + b) top

end Sys2Proof.Machine
end

