-- ==== Sys2Proof/Machine/Flags.lean ====
section
/-! DEFINITION. The coded values of frames and records (Table 11-3), the result codes (Table 9-5), the classes and topic
numbers (Table 11-1), and the two flag bytes (Tables 11-2 and 11-4). -/

namespace Sys2Proof.Machine

/-- Result codes (Table 9-5). -/
inductive ResultCode where
  | done
  | refusedState
  | refusedMoving
  | refusedSensor
  | refusedUnsettled
  | refusedParams
  | refusedLimit
  | refusedAmount
  | refusedAbsent
  | refusedClock
  | refusedAlarm
  | refusedBusy
  | refusedFormat
  deriving DecidableEq, Repr

/-- DONE is 0 and REFUSED_FORMAT 12, in the order of Table 9-5. -/
def ResultCode.code : ResultCode → Nat
  | .done => 0
  | .refusedState => 1
  | .refusedMoving => 2
  | .refusedSensor => 3
  | .refusedUnsettled => 4
  | .refusedParams => 5
  | .refusedLimit => 6
  | .refusedAmount => 7
  | .refusedAbsent => 8
  | .refusedClock => 9
  | .refusedAlarm => 10
  | .refusedBusy => 11
  | .refusedFormat => 12

def MeterState.code : MeterState → Nat
  | .inoperative => 0
  | .offDuty => 1
  | .free => 2
  | .booked => 3
  | .hired => 4
  | .stopped => 5
  | .settling => 6

def ShiftState.code : ShiftState → Nat
  | .closed => 0
  | .opened => 1
  | .closing => 2

def InopReason.code : InopReason → Nat
  | .none => 0
  | .imageInvalid => 1
  | .duplicateStation => 2
  | .noTariff => 3

def SensorState.code : SensorState → Nat
  | .ok => 0
  | .suspect => 1
  | .fault => 2
  | .lost => 3

def Motion.code : Motion → Nat
  | .standing => 0
  | .moving => 1

def Standing.code : Standing → Nat
  | .normal => 0
  | .limited => 1
  | .offline => 2
  | .silenced => 3

def ImageState.code : ImageState → Nat
  | .valid => 0
  | .degraded => 1
  | .invalid => 2

def Floor.code : Floor → Nat
  | .none => 0
  | .front => 1
  | .rear => 2

def AttemptState.code : AttemptState → Nat
  | .queued => 1
  | .offered => 2
  | .atTerminal => 3
  | .cancelling => 4
  | .uncertain => 5

def Ending.code : Ending → Nat
  | .none => 0
  | .approved => 1
  | .declined => 2
  | .cancelled => 3
  | .notTaken => 4

def TripOutcome.code : TripOutcome → Nat
  | .paid => 1
  | .waived => 2
  | .partWaived => 3
  | .unsettled => 4
  | .unpaid => 5

def TenderKind.code : TenderKind → Nat
  | .cash => 1
  | .card => 2

/-- NONE (0) stands for an absent reconciliation record. -/
def recCode : Option RecResult → Nat
  | none => 0
  | some .matched => 1
  | some .mismatch => 2
  | some .noAnswer => 3

/-! ### Classes and topic numbers (Tables 9-2 and 11-1) -/

def clsAlarm : Nat := 0
def clsSettle : Nat := 1
def clsControl : Nat := 2
def clsRoutine : Nat := 3

namespace Topic
def alarmNotice : Nat := 1
def alarmAck : Nat := 2
def alarmClear : Nat := 3
def hire : Nat := 32
def stop : Nat := 33
def resume : Nat := 34
def settle : Nat := 35
def void : Nat := 36
def bookingAssign : Nat := 38
def bookingCancel : Nat := 39
def tariffSelect : Nat := 40
def extraAdd : Nat := 41
def extraRemove : Nat := 42
def tenderCash : Nat := 44
def tenderCard : Nat := 45
def payCancel : Nat := 46
def settleDefer : Nat := 47
def shiftOpen : Nat := 48
def shiftClose : Nat := 49
def journalRead : Nat := 50
def summaryRead : Nat := 51
def talkPress : Nat := 52
def talkRelease : Nat := 53
def callPress : Nat := 54
def callRelease : Nat := 55
def signTest : Nat := 56
def signWrite : Nat := 57
def statusRead : Nat := 58
def clockSet : Nat := 59
def payAccepted : Nat := 64
def payResult : Nat := 65
def payReference : Nat := 66
def terminalTotals : Nat := 68
def vehicleState : Nat := 72
def payRequest : Nat := 80
def payStatusQuery : Nat := 81
def totalsOffer : Nat := 82
def settleReport : Nat := 83
def requestResult : Nat := 96
def statusAnswer : Nat := 97
def fareStatus : Nat := 112
def meterState : Nat := 113
def talkState : Nat := 114
def shiftState : Nat := 115
def journalPart : Nat := 116
def summaryPart : Nat := 117
end Topic

/-- What Table 11-1 says of a received topic: class, least and greatest payload length, request or report. -/
structure TopicInfo where
  cls : Nat
  least : Nat
  most : Nat
  report : Bool
  deriving DecidableEq, Repr

/-- The topics the part takes, in Table 11-1. -/
def topicInfo (t : Nat) : Option TopicInfo :=
  if t = 2 ∨ t = 3 then some ⟨clsAlarm, 0, 0, false⟩
  else if 32 ≤ t ∧ t ≤ 36 then some ⟨clsControl, 0, 0, false⟩
  else if t = 38 then some ⟨clsControl, 9, 9, false⟩
  else if t = 39 then some ⟨clsControl, 8, 8, false⟩
  else if 40 ≤ t ∧ t ≤ 42 then some ⟨clsControl, 1, 1, false⟩
  else if t = 44 then some ⟨clsSettle, 6, 6, false⟩
  else if t = 45 then some ⟨clsSettle, 3, 3, false⟩
  else if t = 46 ∨ t = 47 then some ⟨clsSettle, 0, 0, false⟩
  else if t = 48 ∨ t = 49 then some ⟨clsControl, 0, 0, false⟩
  else if t = 50 then some ⟨clsRoutine, 1, 1, false⟩
  else if t = 51 then some ⟨clsRoutine, 0, 0, false⟩
  else if 52 ≤ t ∧ t ≤ 56 then some ⟨clsControl, 0, 0, false⟩
  else if t = 57 then some ⟨clsRoutine, 0, 12, false⟩
  else if t = 58 then some ⟨clsControl, 1, 1, false⟩
  else if t = 59 then some ⟨clsControl, 4, 4, false⟩
  else if t = 64 then some ⟨clsSettle, 3, 3, true⟩
  else if t = 65 then some ⟨clsSettle, 10, 10, true⟩
  else if t = 66 then some ⟨clsSettle, 9, 9, true⟩
  else if t = 68 then some ⟨clsSettle, 9, 9, true⟩
  else if t = 72 then some ⟨clsRoutine, 4, 4, true⟩
  else none

/-- The blocks of numbers that hold reports: entries 7, 8 and 10 (R178; log 12 for a number there that names no
topic). -/
def reportBlock (t : Nat) : Bool := (64 ≤ t && t ≤ 68) || t == 72

/-! ### Flag bytes -/

/-- One flag at a bit place. -/
def flagAt (bit : Nat) (b : Bool) : Nat := if b then 2 ^ bit else 0

/-- STATUS_ANSWER page 0: bit 7 RESTRICTED, 6 alarm ACTIVE, 5 acknowledged, 4 retained-lost (Table 11-2). -/
def statusFlags (restricted active acknowledged retainedLost : Bool) : Byte :=
  codeByte (flagAt 7 restricted + flagAt 6 active + flagAt 5 acknowledged + flagAt 4 retainedLost)

/-- The flags byte of the serialized trip record (Table 11-4). -/
def tripFlags (r : TripRecord) : Byte :=
  codeByte (flagAt 7 r.fareFlags.degraded + flagAt 6 r.fareFlags.rateLimited + flagAt 5 r.fareFlags.capped
    + flagAt 4 r.powerGap + flagAt 3 r.alarmDuring + flagAt 2 r.fareFlags.changesUnlisted
    + flagAt 1 r.clockUnset + flagAt 0 r.reference.isSome)

end Sys2Proof.Machine
end

