-- ==== Sys2Proof/Machine/Ops.lean ====
section
/-! DEFINITION. The operations the blocks share: what the part reads of itself, the mailboxes (R173, R174), the answer to
a request (R179), the routing matrix (R140), the floor (R146), chime requests (R155), the FREE lamp (R126), wake from
dormancy (R184), METER_STATE and TALK_STATE, and a change of the meter state (R43). -/

namespace Sys2Proof.Machine

/-! ### What an event reads -/

/-- Main supply present and the image read finished (R9, R188). -/
def State.running (s : State) : Bool := s.supply.main && s.pld.phase == .complete

/-- The cab bus interface sends and receives: running, and the image is not INVALID (R187, R188). -/
def State.busOn (s : State) : Bool := s.running && s.pld.image != .invalid

def HeldState.meter : HeldState → MeterState
  | .offDuty => .offDuty
  | .free => .free
  | .booked => .booked
  | .hired => .hired
  | .stopped => .stopped
  | .settling => .settling

/-- The meter state: INOPERATIVE while a reason is present, the held state otherwise (R43). -/
def Trc.meter (t : Trc) : MeterState :=
  if t.reason = .none then t.held.meter else .inoperative

def State.meter (s : State) : MeterState := s.trc.meter

/-- The hired states HIRED, STOPPED and SETTLING (03, section 3.1). -/
def MeterState.inTrip : MeterState → Bool
  | .hired | .stopped | .settling => true
  | .inoperative | .offDuty | .free | .booked => false

/-- A role of the peer table is configured (00, Station numbers; R189: an INVALID image configures none). -/
def State.hasTerminal (s : State) : Bool := s.pld.peers.any (·.terminal != 0)
def State.hasGateway (s : State) : Bool := s.pld.peers.any (·.gateway != 0)
def State.hasDispatch (s : State) : Bool := s.pld.peers.any (·.dispatch != 0)

/-- K of the ODU (R22); 0 without a valid image. -/
def Odu.k (o : Odu) : Nat := (o.settings.map (·.k)).getD 0

/-! ### Mailboxes (R173, R174) -/

def Cbi.box (c : Cbi) (i : Nat) : Mailbox := c.boxes.getD i Mailbox.empty

def Cbi.setBox (c : Cbi) (i : Nat) (m : Mailbox) : Cbi := { c with boxes := c.boxes.set i m }

/-- The mailboxes that take frames of the classes other than ALARM. -/
def routineBoxes : List Nat := [1, 2, 3, 4, 5, 6, 7]

/-- An EMPTY mailbox of 1 to 7 (the lowest: log 11). -/
def Cbi.firstEmpty (c : Cbi) : Option Nat :=
  routineBoxes.find? fun i => (c.box i).state == .empty

/-- The mailbox of 1 to 7 that holds the topic PENDING. -/
def Cbi.pendingOf (c : Cbi) (topic : Nat) : Option Nat :=
  routineBoxes.find? fun i => (c.box i).state == .pending && (c.box i).frame.topic == topic

/-- A frame written into a mailbox, which becomes PENDING and records its age. -/
def Cbi.write (c : Cbi) (i : Nat) (f : TxFrame) : Cbi :=
  { c.setBox i ⟨.pending, f, c.nextAge⟩ with nextAge := c.nextAge + 1 }

/-- The payload of a PENDING mailbox replaced; its age stays. -/
def Cbi.refresh (c : Cbi) (i : Nat) (f : TxFrame) : Cbi :=
  c.setBox i { c.box i with frame := { (c.box i).frame with payload := f.payload } }

/-- An enqueue (R173): the mailbox that took the frame, or none for QUEUE_FULL. -/
def Cbi.enqueue (c : Cbi) (f : TxFrame) : Cbi × Option Nat :=
  if f.cls = clsAlarm then
    match (c.box 0).state with
    | .empty => (c.write 0 f, some 0)
    | .pending => (c.refresh 0 f, some 0)
    | .sending | .aborting => (c, none)
  else
    match (if f.kind = .state then c.pendingOf f.topic else none) with
    | some i => (c.refresh i f, some i)
    | none =>
      match c.firstEmpty with
      | some i => (c.write i f, some i)
      | none => (c, none)

/-- The effect of an abort on one mailbox (R174). -/
def Mailbox.abort (m : Mailbox) : Mailbox :=
  match m.state with
  | .pending => Mailbox.empty
  | .sending => { m with state := .aborting }
  | .empty | .aborting => m

/-- An owner aborts each of its mailboxes that holds a frame of the kind named. -/
def Cbi.abortWhere (c : Cbi) (p : TxFrame → Bool) : Cbi :=
  { c with boxes := c.boxes.map fun m => if p m.frame then m.abort else m }

/-- An owner aborts one mailbox, where it holds the owner's frame. -/
def Cbi.abortBox (c : Cbi) (i : Nat) (p : TxFrame → Bool) : Cbi :=
  if p (c.box i).frame then c.setBox i (c.box i).abort else c

def State.abortWhere (s : State) (p : TxFrame → Bool) : State := s.setCbi (s.cbi.abortWhere p)

/-! ### FREE lamp, routing, scan -/

/-- The condition of the FREE lamp (R126). -/
def State.freeLampOf (s : State) : Bool :=
  s.meter == .free && !s.cbi.dormant && s.rsd.lampTest.isNone

def updateLamp (s : State) : State := s.setRsd { s.rsd with freeLamp := s.freeLampOf }

/-- The routing matrix by condition (Table 7-3). -/
def routingOf (c : Cau) (dormant : Bool) (alarm : AlarmState) : Routing :=
  if dormant then Routing.zero
  else
    match alarm with
    | .active =>
      { Routing.zero with radioOut := { SinkGains.zero with frontMic := c.gAlarm, rearMic := c.gAlarm } }
    | .clear =>
      { frontSpk :=
          { SinkGains.zero with
            radioIn := c.gRadio
            chime := c.gChime
            rearMic := if c.floor = .rear then (if c.radio.active then c.gIc / 4 else c.gIc) else 0 }
        rearSpk :=
          { SinkGains.zero with
            chime := c.gChime
            frontMic := if c.floor = .front then c.gIc else 0 }
        radioOut := SinkGains.zero }

/-- The CAU sets the routing matrix again (R141). -/
def setRouting (s : State) : State :=
  s.setCau { s.cau with routing := routingOf s.cau s.cbi.dormant s.alm.state }

/-- A slot begins: its threshold record loaded, sum and count 0 (R143). -/
def Cau.beginSlot (c : Cau) (slot : Nat) : Cau :=
  { c with scan := some ⟨slot, 0, 0, c.thresholds.getD slot ⟨0, 0⟩, false⟩ }

/-! ### Wake and enqueue -/

/-- A dormant part wakes: AWAKE, dormancy timer 0, the wake delivered to the RSD (R135) and the CAU (R158). DESIGN CHOICE (log
40): the receiver's idle count is the one dormancy found; only a dominant edge, which `wakeOnEdge` adds, sets it to 0. -/
def wake (s : State) : State :=
  if s.cbi.dormant then
    let s1 := updateLamp (s.setCbi { s.cbi with dormant := false, dormancyTimer := 0 })
    setRouting (s1.setCau (s1.cau.beginSlot 0))
  else s

/-- A block enqueues a frame; an enqueue taken while DORMANT wakes the part (R173, R184). -/
def enqueue (s : State) (f : TxFrame) : State × Option Nat :=
  let r := s.cbi.enqueue f
  let s1 := s.setCbi r.1
  (if r.2.isSome then wake s1 else s1, r.2)

/-- An enqueue that, at QUEUE_FULL, is dropped and counted in the dropped-answer statistic (R179, R89). -/
def enqueueCounted (s : State) (f : TxFrame) : State :=
  let r := enqueue s f
  if r.2.isSome then r.1
  else r.1.setCbi { r.1.cbi with droppedAnswers := satAdd Config.max16 r.1.cbi.droppedAnswers 1 }

/-- The REQUEST_RESULT of a request (R179): its class is the request's, and SETTLE for a request of class ALARM. -/
def answerFrame (f : RxFrame) (topic : Nat) (code : ResultCode) : TxFrame where
  cls := if f.cls = 0 then clsSettle else f.cls.toNat
  topic := Topic.requestResult
  payload := [codeByte f.src.toNat] ++ be 2 topic ++ [codeByte code.code]
  owner := .cbi
  kind := .event

/-- The owner gives the code of a request, and the CBI enqueues its REQUEST_RESULT (R179). -/
def answer (topic : Nat) (f : RxFrame) (code : ResultCode) (s : State) : State :=
  enqueueCounted s (answerFrame f topic code)

/-! ### State topics of the TRC and the CAU -/

/-- METER_STATE as it stands (R64, Table 11-2). -/
def State.meterFrame (s : State) : TxFrame where
  cls := clsRoutine
  topic := Topic.meterState
  payload := [codeByte s.meter.code] ++ be 2 s.trc.lastTrip
    ++ [yesByte s.trc.restricted, codeByte s.sau.shift.code]
  owner := .trc
  kind := .state

/-- The TRC enqueues METER_STATE at an event (R64); QUEUE_FULL sets the owed flag (R65). -/
def enqueueMeterState (s : State) : State :=
  let r := enqueue s s.meterFrame
  if r.2.isSome then r.1 else r.1.setTrc { r.1.trc with owed := true }

/-- TALK_STATE as it stands (R154). -/
def State.talkFrame (s : State) : TxFrame where
  cls := clsRoutine
  topic := Topic.talkState
  payload := [codeByte s.cau.floor.code, yesByte s.cau.rearWaiting]
  owner := .cau
  kind := .state

/-- The CAU enqueues TALK_STATE; the owed flag is set at QUEUE_FULL and clear after an enqueue taken (R154). -/
def enqueueTalkState (s : State) : State :=
  let r := enqueue s s.talkFrame
  r.1.setCau { r.1.cau with owed := r.2.isNone }

/-! ### Floor and chimes -/

/-- The floor holder and the rear-waiting flag take new values: the routing follows (R141), and one TALK_STATE is
enqueued where either changed (R154). -/
def changeFloor (floor : Floor) (waiting : Bool) (s : State) : State :=
  if s.cau.floor = floor ∧ s.cau.rearWaiting = waiting then s
  else enqueueTalkState (setRouting (s.setCau { s.cau with floor := floor, rearWaiting := waiting }))

/-- Floor NONE, the rear-waiting flag and both button held flags clear (R152). -/
def clearFloor (s : State) : State :=
  changeFloor .none false (s.setCau { s.cau with frontHeld := false, rearHeld := false })

/-- Slot 1 becomes skipped: level 0, REAR_MIC SILENT, a slot 1 in progress to be discarded (R145). -/
def resetRearSlot (s : State) : State :=
  s.setCau { s.cau with
    rearMic := SourceLevel.silent
    scan := s.cau.scan.map fun k => if k.slot = 1 then { k with discard := true } else k }

/-- A note of a chime: frequency in Hz (0 for a rest) and duration in ms (Table 7-7). -/
structure Note where
  hz : Nat
  ms : Nat
  deriving DecidableEq, Repr

def ChimeKind.notes : ChimeKind → List Note
  | .paid => [⟨1000, 100⟩, ⟨1600, 150⟩]
  | .declined => [⟨500, 200⟩, ⟨0, 50⟩, ⟨500, 200⟩]
  | .callWaiting => [⟨1600, 80⟩, ⟨0, 80⟩, ⟨1600, 80⟩]
  | .tariffChanged => [⟨1000, 60⟩, ⟨750, 60⟩]

/-- Half period in samples: 8,000 / f rounded down (R156); a rest has none. -/
def Note.half (n : Note) : Nat := 8000 / n.hz

/-- Length in samples: 16 in a millisecond (R156). -/
def Note.samples (n : Note) : Nat := n.ms * 16

def ChimeKind.note (k : ChimeKind) (i : Nat) : Note := k.notes.getD i ⟨0, 0⟩

/-- The chime at the beginning of one of its notes, the sign + (R156). -/
def ChimePlay.atNote (k : ChimeKind) (i : Nat) : ChimePlay :=
  ⟨k, i, (k.note i).samples, (k.note i).half, true⟩

/-- With the generator idle, the oldest queued kind begins to play (R155). -/
def Cau.nextChime (c : Cau) : Cau :=
  match c.chime, c.queue with
  | none, k :: rest => { c with chime := some (ChimePlay.atNote k 0), queue := rest }
  | _, _ => c

/-- A chime request (R155): discarded while the alarm is ACTIVE (R157) or the part dormant (R158), dropped where the
queue is full. -/
def requestChime (k : ChimeKind) (s : State) : State :=
  if s.alm.state = .active ∨ s.cbi.dormant then s
  else if s.cau.queue.length < Config.maxChimes then
    s.setCau ({ s.cau with queue := s.cau.queue ++ [k] }).nextChime
  else s

/-! ### A change of the meter state (R43) -/

/-- The blocks take a change of the meter state from `old`: METER_STATE (R64), the FREE lamp (R126), and where the meter
left the hired states the floor (R152) and, with the alarm CLEAR, slot 1 (R145). -/
def meterChanged (old : MeterState) (s : State) : State :=
  let s1 := updateLamp (enqueueMeterState s)
  if old.inTrip && !s1.meter.inTrip then
    let s2 := clearFloor s1
    if s2.alm.state = .clear then resetRearSlot s2 else s2
  else s1

/-- The TRC gives the held state a new value. -/
def setHeld (h : HeldState) (s : State) : State :=
  meterChanged s.meter (s.setTrc { s.trc with held := h })

/-- The SAU takes a report that raises a counter, where the shift is OPEN or CLOSING (R99). -/
def report (g : Counters → Counters) (s : State) : State :=
  if s.sau.shift = .closed then s else s.setSau { s.sau with counters := g s.sau.counters }

end Sys2Proof.Machine
end

