-- ==== Sys2Proof/Machine/Reception.lean ====
section
/-! DEFINITION. Reception: the acceptance table (R177), a complete frame (R169, R178), the part's own number on the line
(R182), and the events of the line that begin or end a reception. -/

namespace Sys2Proof.Machine

/-! ### The acceptance table (Table 9-4, with the aligned blocks of 11, section 11.1) -/

/-- Masks over the nine topic bits: an aligned block of 8, 4 or 2 numbers, or one number alone. -/
def mask8 : Nat := 504
def mask4 : Nat := 508
def mask2 : Nat := 510
def mask1 : Nat := 511

/-- An entry is active when its role has a station number other than 0 (R177). -/
def acceptEntry (topic mask source : Nat) (owner : Block) (topics : List Nat) : AcceptEntry :=
  ⟨topic, mask, source, owner, topics, source != 0⟩

/-- Entries 0 to 15; where DISPATCH is absent, entries 12 and 13 take their second form (R177). -/
def acceptanceOf (p : PeerTable) : List AcceptEntry :=
  [ acceptEntry 32 mask8 p.console .trc [32, 33, 34, 35, 36, 39],
    acceptEntry 40 mask4 p.console .fen [40, 41, 42],
    acceptEntry 44 mask4 p.console .stu [44, 45, 46, 47],
    acceptEntry 48 mask4 p.console .sau [48, 49, 50, 51],
    acceptEntry 52 mask2 p.console .cau [52, 53],
    acceptEntry 56 mask2 p.console .rsd [56, 57],
    acceptEntry 58 mask1 p.console .cbi [58],
    acceptEntry 64 mask4 p.terminal .stu [64, 65, 66],
    acceptEntry 68 mask1 p.terminal .sau [68],
    acceptEntry 54 mask2 p.rearPanel .cau [54, 55],
    acceptEntry 72 mask1 p.gateway .odu [72],
    acceptEntry 38 mask2 p.dispatch .trc [38, 39],
    acceptEntry 59 mask1 (if p.dispatch = 0 then p.console else p.dispatch) .odu [59],
    (if p.dispatch = 0 then acceptEntry 2 mask2 p.console .alm [3]
      else acceptEntry 2 mask2 p.dispatch .alm [2, 3]),
    acceptEntry 57 mask1 p.dispatch .rsd [57],
    acceptEntry 58 mask1 p.dispatch .cbi [58] ]

/-- The frame's source equals the entry's, and its topic agrees in every bit the mask covers (R178). -/
def AcceptEntry.accepts (e : AcceptEntry) (topic source : Nat) : Bool :=
  e.active && e.source == source && (topic &&& e.mask) == (e.topic &&& e.mask)

/-- How a matched frame is judged (R178). -/
inductive Verdict where
  | delivered
  | malformedRequest
  | malformedReport
  deriving DecidableEq, Repr

/-- The topic is one the entry names, of its class, with a payload of its length (R178, R195). -/
def wellFormedFor (e : AcceptEntry) (topic : Nat) (f : RxFrame) : Bool :=
  e.topics.contains topic &&
    (topicInfo topic).any fun i =>
      i.cls == f.cls.toNat && i.least ≤ f.payload.length && f.payload.length ≤ i.most

def verdict (e : AcceptEntry) (topic : Nat) (f : RxFrame) : Verdict :=
  if wellFormedFor e topic f then .delivered
  else if reportBlock topic then .malformedReport
  else .malformedRequest

/-- The active entry a frame matches; active entries never overlap (R177). -/
def State.entryFor (s : State) (topic : Nat) (f : RxFrame) : Option AcceptEntry :=
  s.cbi.acceptance.find? (·.accepts topic f.src.toNat)

/-! ### The receiver -/

/-- A dominant edge wakes a dormant part; the frame it begins is lost, and the receiver waits for an idle line (R184). -/
def wakeOnEdge (s : State) : State :=
  if s.busOn && s.cbi.dormant then
    let s1 := wake s
    s1.setCbi { s1.cbi with idleCount := 0, inFrame := false, ackDriven := false }
  else s

/-- The receiver has its footing: a frame is in reception, or no more than the idle gap after an end mark is wanting
before the start mark of the frame that the command reports (log 7), or the part's own attempt is under way (R185). -/
def State.receptive (s : State) : Bool :=
  s.cbi.inFrame || Config.endMarkBits ≤ s.cbi.idleCount || s.cbi.inFlight.isSome

/-- Recovery from OFFLINE at the 128th observed idle gap: counter 0, NORMAL, gap count 0 (R172). -/
def offlineRecovery (s : State) : State :=
  if s.busOn && s.cbi.standing == .offline && Config.recoveryGaps ≤ s.cbi.idleGaps then
    s.setCbi { s.cbi with faultCounter := 0, standing := .normal, idleGaps := 0 }
  else s

/-- Ten consecutive recessive bits: the line is idle (R169); in OFFLINE one more idle gap is observed (R172). A recovery
that is due is taken first (log 5). With an attempt of the part under way the line is not idle. DESIGN CHOICE: with a frame in
reception, which R169 precludes, the reception ends uncounted (log 43); `ackDriven` stands (log 30). -/
def lineIdle (s : State) : State :=
  if s.busOn && !s.cbi.dormant && s.cbi.inFlight.isNone then
    let s1 := offlineRecovery s
    s1.setCbi { s1.cbi with
      idleCount := Config.idleBits
      inFrame := false
      idleGaps := if s1.cbi.standing = .offline then s1.cbi.idleGaps + 1 else s1.cbi.idleGaps }
  else s

/-- A frame that begins with no frame in reception and no idle line commanded implies the idle line before its start mark
(log 7), with the idle gap that OFFLINE counts and the recovery at the 128th (R172). -/
def impliedIdle (s : State) : State :=
  if !s.cbi.inFrame && s.cbi.idleCount != Config.idleBits then offlineRecovery (lineIdle s) else s

/-- The end of a reception: no frame in reception, the idle count given, the acknowledge slot driven or not. Where the frame's
start mark had no command of its own, the idle line before it is implied, and the dormancy timer is 0 (R183, log 7). -/
def endReception (idle : Nat) (ack : Bool) (s : State) : State :=
  let s1 := impliedIdle s
  s1.setCbi { s1.cbi with
    inFrame := false
    idleCount := idle
    ackDriven := ack
    dormancyTimer := if s.cbi.inFrame then s.cbi.dormancyTimer else 0 }

/-- An intact frame has passed: acknowledged unless SILENCED (R169, R182), its end mark counted as recessive bits. -/
def received (s : State) : State :=
  endReception Config.endMarkBits (s.cbi.standing != .silenced) s

/-- Every timer of the attempt and of the unsettled entries stops (R90). -/
def stopSettlementTimers (s : State) : State :=
  s.setStu { s.stu with
    attempt := s.stu.attempt.map fun a => { a with timer := none }
    unsettled := s.stu.unsettled.map fun e => { e with timer := none } }

/-- The part's own number is heard on the line: SILENCED, and the INOPERATIVE reason DUPLICATE_STATION (R182, R44). DESIGN
CHOICE (log 37): while that reason stands, a further one is no new appearance and enqueues no METER_STATE. -/
def duplicateStation (s : State) : State :=
  let s1 := s.setCbi { s.cbi with standing := .silenced }
  if s1.trc.reason = .duplicateStation then s1
  else
    meterChanged s.meter
      (stopSettlementTimers (s1.setTrc { s1.trc with reason := .duplicateStation }))

/-- The source of the frame is the part's own number (R182). -/
def State.ownSource (s : State) (f : RxFrame) : Bool := s.pld.peers.any (·.own == f.src.toNat)

/-- A frame is complete on the line (R169, R178, R182). `deliver` is what the owning block does with a frame of this
topic; it is called for a taken, well-formed frame. -/
def frameComplete (topic : Nat) (f : RxFrame) (deliver : State → State) (s : State) : State :=
  if !s.busOn then s
  else if s.cbi.dormant then wakeOnEdge s
  else if !s.receptive then s
  else
    let s1 := received s
    if s1.ownSource f then duplicateStation s1
    else
      match s1.entryFor topic f with
      | none => s1
      | some e =>
        match verdict e topic f with
        | .delivered => deliver s1
        | .malformedRequest => answer topic f .refusedFormat s1
        | .malformedReport => s1

/-- A frame in this state reaches the owning block (the condition of `frameComplete`'s delivery). -/
def State.delivers (s : State) (topic : Nat) (f : RxFrame) : Bool :=
  s.busOn && !s.cbi.dormant && s.receptive && !s.ownSource f &&
    (s.entryFor topic f).any (verdict · topic f == .delivered)

/-- A receive fault discards the frame in reception and is counted; the receiver waits for an idle line (R169). A fault
in the end mark comes after the acknowledge slot. DEDUCED (log 44): such a frame is discarded whatever its source, so an
own-number one leaves the standing as it was (R182, R185). -/
def receiveFault (fault : ReceiveFault) (s : State) : State :=
  if !s.busOn then s
  else if s.cbi.dormant then wakeOnEdge s
  else if s.cbi.inFrame || Config.endMarkBits ≤ s.cbi.idleCount then
    let s1 := endReception 0 (fault == .formatEndMark && s.cbi.standing != .silenced) s
    s1.setCbi { s1.cbi with receiveFaults := satAdd Config.max16 s1.cbi.receiveFaults 1 }
  else s

/-- A dominant bit from another station: on an idle line a start mark, which begins a reception and sets the dormancy
timer to 0 (R169, R183); in DORMANT the edge that wakes (R184); otherwise the idle count begins again. -/
def startMark (s : State) : State :=
  if !s.busOn then s
  else if s.cbi.dormant then wakeOnEdge s
  else if s.cbi.inFrame || s.cbi.inFlight.isSome then s
  else if s.cbi.idleCount = Config.idleBits then
    s.setCbi { s.cbi with inFrame := true, idleCount := 0, dormancyTimer := 0 }
  else s.setCbi { s.cbi with idleCount := 0 }

end Sys2Proof.Machine
end

