-- ==== Sys2Proof/Machine/Audio.lean ====
section
/-! DEFINITION. Cabin Audio Unit (07): the mixer, the level scan, floor requests, the chime generator, dormancy. -/

namespace Sys2Proof.Machine

/-! ### Mixer (R138) -/

/-- One source's term at a sink: the product shifted right by six places, rounding toward minus infinity. -/
def mixTerm (sample : Int) (gain : Nat) : Int := (sample * gain) / 64

/-- The sum limited to a 16-bit sample. -/
def saturate (x : Int) : Int := max (-32768) (min 32767 x)

/-- The output sample of a sink. -/
def mix (g : SinkGains) (front rear radio chime : Int) : Int :=
  saturate (mixTerm front g.frontMic + mixTerm rear g.rearMic + mixTerm radio g.radioIn
    + mixTerm chime g.chime)

/-! ### Chime generator (R155, R156) -/

/-- The CHIME sample of the period: 0 when idle, at a rest, or once the last sample is played. -/
def ChimePlay.sample (c : ChimePlay) : Int :=
  if c.samplesLeft = 0 ∨ (c.kind.note c.note).hz = 0 then 0
  else if c.sign then Config.chimeLevel else -Config.chimeLevel

/-- The generator after one sample: within a note the sign changes at the end of each half period; after a note's last sample
the next note begins; after the last note's, samplesLeft stays 0 and the end of the chime is due (log 5). DESIGN CHOICE (log
39): a rest has no half period; it is held as 0, and the sign, which a rest does not sound, changes at each of its samples. -/
def ChimePlay.advance (c : ChimePlay) : ChimePlay :=
  if c.samplesLeft = 0 then c
  else if c.samplesLeft = 1 then
    if c.note + 1 < c.kind.notes.length then ChimePlay.atNote c.kind (c.note + 1)
    else { c with samplesLeft := 0 }
  else if c.halfLeft ≤ 1 then
    { c with samplesLeft := c.samplesLeft - 1, halfLeft := (c.kind.note c.note).half, sign := !c.sign }
  else { c with samplesLeft := c.samplesLeft - 1, halfLeft := c.halfLeft - 1 }

/-- The last note has ended: the generator becomes idle and the next queued chime begins (R155, R156). -/
def chimeEnd (s : State) : State :=
  match s.cau.chime with
  | some c =>
    if s.running && c.samplesLeft == 0 then
      s.setCau ({ s.cau with chime := none }).nextChime
    else s
  | none => s

/-! ### Level scan (R142 to R145, R151) -/

/-- A source after a measurement (R144). -/
def SourceLevel.judge (x : SourceLevel) (level : Nat) (t : Threshold) : SourceLevel :=
  if t.openAt ≤ level then ⟨level, true, 0⟩
  else if level < t.closeAt then
    let hang := min (x.hang + 1) Config.hangMax
    ⟨level, x.active && hang != Config.hangMax, hang⟩
  else { x with level := level }

def Cau.source (c : Cau) (slot : Nat) : SourceLevel :=
  if slot = 0 then c.frontMic else if slot = 1 then c.rearMic else c.radio

def Cau.setSource (c : Cau) (slot : Nat) (x : SourceLevel) : Cau :=
  if slot = 0 then { c with frontMic := x }
  else if slot = 1 then { c with rearMic := x }
  else { c with radio := x }

/-- Slot 1 is taken where the meter is in the hired states or the alarm is ACTIVE (R142). -/
def State.rearSlotTaken (s : State) : Bool := s.meter.inTrip || s.alm.state == .active

/-- The slot after a slot (R142). -/
def State.slotAfter (s : State) (slot : Nat) : Nat :=
  if slot = 0 then (if s.rearSlotTaken then 1 else 2) else if slot = 1 then 2 else 0

/-- The side whose source a slot measures. -/
def slotSide (slot : Nat) : Floor := if slot = 0 then .front else if slot = 1 then .rear else .none

/-- The holder's button. -/
def Cau.held (c : Cau) (f : Floor) : Bool :=
  match f with
  | .front => c.frontHeld
  | .rear => c.rearHeld
  | .none => false

/-- The front gives up the floor, to a waiting rear or to no one; the rear gives it up to no one (R148, R151). -/
def giveUpFloor (s : State) : State :=
  if s.cau.floor = .front ∧ s.cau.rearWaiting then changeFloor .rear false s
  else changeFloor .none s.cau.rearWaiting s

/-- The end of slot 0 or 1 acts on the floor in VOX mode, in the hired states with the alarm CLEAR (R151); `before` is
the source as the slot end found it. -/
def voxAction (slot : Nat) (before : SourceLevel) (s : State) : State :=
  let side := slotSide slot
  let after := s.cau.source slot
  if s.cau.mode = .vox ∧ s.meter.inTrip ∧ s.alm.state = .clear ∧ side ≠ .none then
    if s.cau.floor = .none then
      if !before.active && after.active then changeFloor side s.cau.rearWaiting s else s
    else if s.cau.floor = side ∧ before.active ∧ !after.active ∧ !s.cau.held side then giveUpFloor s
    else s
  else s

/-- A slot's end at its 320th sample: the level stored and judged, unless the slot is discarded (R145); the routing
follows the radio's activity (R141); VOX may move the floor; the next slot begins (R142). -/
def slotEnd (s : State) : State :=
  match s.cau.scan with
  | some k =>
    if s.running && !s.cbi.dormant && k.samples == Config.slotSamples then
      let next := s.slotAfter k.slot
      let s1 :=
        if k.discard then s
        else
          let before := s.cau.source k.slot
          let s2 := s.setCau (s.cau.setSource k.slot (before.judge (k.sum / Config.slotSamples) k.threshold))
          voxAction k.slot before (setRouting s2)
      s1.setCau (s1.cau.beginSlot next)
    else s
  | none => s

/-- The magnitude of a sample; that of -32,768 is 32,768 (R143). -/
def magnitude (x : Sample) : Nat := x.toInt.natAbs

/-- The scan takes the slot's source sample (R143). -/
def Scan.take (k : Scan) (front rear radio : Sample) : Scan :=
  if k.samples < Config.slotSamples then
    { k with
      samples := k.samples + 1
      sum := k.sum + magnitude (if k.slot = 0 then front else if k.slot = 1 then rear else radio) }
  else k

/-- A sample period (R137): the outputs are mixed from this period's samples and the matrix as it stands, the chime
generator and the level scan take their sample. Ends that are due from the period before are taken first (log 5). -/
def samplePeriod (front rear radio : Sample) (s0 : State) : State :=
  if s0.running && !s0.cbi.dormant then
    let s := chimeEnd (slotEnd s0)
    let chime := (s.cau.chime.map ChimePlay.sample).getD 0
    let out := fun g : SinkGains => mix g front.toInt rear.toInt radio.toInt chime
    s.setCau { s.cau with
      frontSpk := out s.cau.routing.frontSpk
      rearSpk := out s.cau.routing.rearSpk
      radioOut := out s.cau.routing.radioOut
      chime := s.cau.chime.map ChimePlay.advance
      scan := s.cau.scan.map fun k => k.take front rear radio }
  else s0

/-! ### Floor requests (R146 to R150) -/

/-- The checks of R146, then the request's effect, then DONE. -/
def floorRequest (topic : Nat) (f : RxFrame) (act : State → State) (s : State) : State :=
  if !s.meter.inTrip then answer topic f .refusedState s
  else if s.alm.state = .active then answer topic f .refusedAlarm s
  else answer topic f .done (act s)

/-- TALK_PRESS carried out (R147). -/
def talkPressed (s : State) : State :=
  let s1 := s.setCau { s.cau with frontHeld := true }
  match s1.cau.floor with
  | .none => changeFloor .front s1.cau.rearWaiting s1
  | .rear => changeFloor .front s1.cau.rearHeld s1
  | .front => s1

/-- TALK_RELEASE carried out (R148). -/
def talkReleased (s : State) : State :=
  let s1 := s.setCau { s.cau with frontHeld := false }
  if s1.cau.floor = .front then giveUpFloor s1 else s1

/-- CALL_PRESS carried out (R149). -/
def callPressed (s : State) : State :=
  let s1 := s.setCau { s.cau with rearHeld := true }
  match s1.cau.floor with
  | .none => changeFloor .rear s1.cau.rearWaiting s1
  | .front => if s1.cau.rearWaiting then s1 else requestChime .callWaiting (changeFloor .front true s1)
  | .rear => s1

/-- CALL_RELEASE carried out (R150). -/
def callReleased (s : State) : State :=
  let s1 := s.setCau { s.cau with rearHeld := false }
  match s1.cau.floor with
  | .front => changeFloor .front false s1
  | .rear =>
    if s1.cau.mode = .vox ∧ s1.cau.rearMic.active then s1 else changeFloor .none s1.cau.rearWaiting s1
  | .none => s1

def talkPress (f : RxFrame) (s : State) : State := floorRequest Topic.talkPress f talkPressed s
def talkRelease (f : RxFrame) (s : State) : State := floorRequest Topic.talkRelease f talkReleased s
def callPress (f : RxFrame) (s : State) : State := floorRequest Topic.callPress f callPressed s
def callRelease (f : RxFrame) (s : State) : State := floorRequest Topic.callRelease f callReleased s

/-! ### Alarm and dormancy at the CAU -/

/-- The alarm enters ACTIVE: floor cleared (R152), chime ended and queue emptied (R157), the alarm scene routed (R140). -/
def audioAlarmEntry (s : State) : State :=
  setRouting (clearFloor (s.setCau { s.cau with chime := none, queue := [] }))

/-- The alarm returns to CLEAR: routing set (R140); slot 1 skipped where the meter is outside the hired states
(R145). -/
def audioAlarmCleared (s : State) : State :=
  let s1 := setRouting s
  if s1.meter.inTrip then s1 else resetRearSlot s1

/-- Entry into dormancy: routing and outputs 0, chimes and scan ended, levels 0 and sources SILENT (R158). -/
def audioDormant (s : State) : State :=
  setRouting (s.setCau { s.cau with
    chime := none
    queue := []
    scan := none
    frontMic := SourceLevel.silent
    rearMic := SourceLevel.silent
    radio := SourceLevel.silent
    frontSpk := 0
    rearSpk := 0
    radioOut := 0 })

/-! ### The commands -/

/-- TALK_PRESS (R146, R147). -/
def execTalkPress (f : RxFrame) (s : State) : Host.Outcome State Fault Refusal :=
  .next (frameComplete Topic.talkPress f (talkPress f) s)

/-- TALK_RELEASE (R146, R148). -/
def execTalkRelease (f : RxFrame) (s : State) : Host.Outcome State Fault Refusal :=
  .next (frameComplete Topic.talkRelease f (talkRelease f) s)

/-- CALL_PRESS (R146, R149). -/
def execCallPress (f : RxFrame) (s : State) : Host.Outcome State Fault Refusal :=
  .next (frameComplete Topic.callPress f (callPress f) s)

/-- CALL_RELEASE (R146, R150). -/
def execCallRelease (f : RxFrame) (s : State) : Host.Outcome State Fault Refusal :=
  .next (frameComplete Topic.callRelease f (callRelease f) s)

/-- SAMPLE_PERIOD (R137). -/
def execSamplePeriod (front rear radio : Sample) (s : State) : Host.Outcome State Fault Refusal :=
  .next (samplePeriod front rear radio s)

/-- SLOT_END (R144). -/
def execSlotEnd (s : State) : Host.Outcome State Fault Refusal := .next (slotEnd s)

/-- CHIME_END (R156). -/
def execChimeEnd (s : State) : Host.Outcome State Fault Refusal := .next (chimeEnd s)

end Sys2Proof.Machine
end

