-- ==== Sys2Proof/Machine/Records.lean ====
section
/-! DEFINITION. Serialized records and answer parts (11, section 11.2; R196). -/

namespace Sys2Proof.Machine

/-- List places beyond a list's count are zero bytes (R196). -/
def padded (n : Nat) (bs : List Byte) : List Byte := bs ++ List.replicate (n - bs.length) 0

/-- A reference of `n` bytes; zero bytes where absent (Table 11-4, R195). -/
def referenceBytes (n : Nat) (r : Option (List Byte)) : List Byte := padded n (r.getD [])

def TariffChange.bytes (c : TariffChange) : List Byte := [codeByte c.index] ++ be 2 c.sequence.toNat

def Extra.bytes (e : Extra) : List Byte := [codeByte e.kind] ++ be 3 e.amount

def Tender.bytes (t : Tender) : List Byte :=
  [codeByte t.kind.code] ++ be 3 t.amount ++ be 3 t.tip ++ referenceBytes 6 t.reference

/-- The serialized trip record, 131 bytes (Table 11-4). -/
def TripRecord.bytes (r : TripRecord) : List Byte :=
  be 2 r.trip ++ be 2 r.shift ++ be 4 r.startTime.toNat ++ be 4 r.stopTime.toNat
    ++ referenceBytes 8 r.reference
    ++ [codeByte r.tariffAtStart, codeByte r.changes.length]
    ++ padded 12 (r.changes.flatMap TariffChange.bytes)
    ++ be 3 r.hiredWindows ++ be 4 r.chargeable ++ be 4 r.allPulses
    ++ be 2 r.drops ++ be 3 r.metered
    ++ [codeByte r.extras.length] ++ padded 32 (r.extras.flatMap Extra.bytes)
    ++ be 3 r.bookingFee ++ be 3 r.total
    ++ [codeByte r.tenders.length] ++ padded 39 (r.tenders.flatMap Tender.bytes)
    ++ [codeByte ((r.outcome.map TripOutcome.code).getD 0), tripFlags r]

/-- The counters in the order of Table 11-5. -/
def Counters.bytes (c : Counters) : List Byte :=
  be 2 c.tripsClosed ++ be 2 c.paid ++ be 2 c.waivedCount ++ be 2 c.partWaivedCount
    ++ be 2 c.unsettledCount ++ be 2 c.unpaidCount
    ++ be 6 c.fareTotals ++ be 6 c.meteredSum ++ be 6 c.extrasSum ++ be 6 c.bookingFees
    ++ be 6 c.cash ++ be 6 c.cashTips ++ be 6 c.card ++ be 6 c.cardTips
    ++ be 3 c.cardApprovals ++ be 6 c.waived ++ be 6 c.unpaid ++ be 6 c.outstanding
    ++ be 4 c.hiredPulses ++ be 4 c.allPulses ++ be 4 c.hiredWindows ++ be 4 c.discardedPulses
    ++ be 4 c.rateLimitedWindows ++ be 4 c.unmeteredWindows
    ++ be 2 c.alarms ++ be 2 c.powerGaps ++ be 2 c.lateSettled ++ be 2 c.strayFrames
    ++ be 6 c.terminalExcess

/-- The reconciliation fields; result NONE and zeros where absent (R196). -/
def reconciliationBytes : Option Reconciliation → List Byte
  | none => List.replicate 26 0
  | some r =>
    [codeByte (recCode (some r.result))] ++ be 3 r.partCount ++ be 6 r.partSum
      ++ be 3 r.terminalCount ++ be 6 r.terminalSum ++ beInt 7 r.difference

def Lifetime.bytes (l : Lifetime) : List Byte :=
  be 6 l.totalPulses ++ be 6 l.hiredPulses ++ be 4 l.trips ++ be 7 l.fareTotals ++ be 4 l.shifts

/-- The serialized shift summary, 182 bytes (Table 11-5). -/
def summaryBytes (x : Summary) (l : Lifetime) : List Byte :=
  be 2 x.number ++ be 4 x.openTime.toNat ++ be 4 x.closeTime.toNat ++ x.counters.bytes
    ++ reconciliationBytes x.reconciliation ++ l.bytes

/-- Data bytes of one part (R196). -/
def partBytes : Nat := 8

/-- The number of parts of a stream: parts of 8 bytes, the last with what remains (R196). -/
def partCount (bs : List Byte) : Nat := (bs.length + partBytes - 1) / partBytes

/-- The payload of the part an answer stands at: number, part number, part count, data (Table 11-2). -/
def Answer.payload (a : Answer) : List Byte :=
  be 2 a.number ++ [codeByte a.part, codeByte (partCount a.bytes)]
    ++ (a.bytes.drop ((a.part - 1) * partBytes)).take partBytes

end Sys2Proof.Machine
end

