-- ==== Sys2Proof/Machine/Accounts.lean ====
section
/-! DEFINITION. Shift Accounts Unit (05): the counters (R97 to R103), the journal (R101), SHIFT_STATE (R114). The requests,
answers and closing are in Shift. -/

namespace Sys2Proof.Machine

/-- SHIFT_STATE as it stands (R114, Table 11-2). -/
def State.shiftFrame (s : State) : TxFrame where
  cls := clsRoutine
  topic := Topic.shiftState
  payload := [codeByte s.sau.shift.code, codeByte s.sau.stage] ++ be 2 s.sau.number
    ++ be 4 s.sau.openTime.toNat
    ++ [codeByte (recCode (s.sau.summary.reconciliation.map (·.result))), yesByte s.sau.retainedLost]
  owner := .sau
  kind := .state

/-- The SAU enqueues SHIFT_STATE; the owed flag is set at QUEUE_FULL and clear after an enqueue taken (R114). -/
def enqueueShiftState (s : State) : State :=
  let r := enqueue s s.shiftFrame
  r.1.setSau { r.1.sau with owed := r.2.isNone }

/-! ### Closed trips (R100, R101) -/

/-- The sum of a figure over the tenders of one kind. -/
def tenderSum (k : TenderKind) (g : Tender → Nat) (ts : List Tender) : Nat :=
  ((ts.filter (·.kind == k)).map g).sum

def TripRecord.tendered (r : TripRecord) : Nat := (r.tenders.map (·.amount)).sum

/-- A rise of a 16-bit count, where the record has the outcome. -/
def countOutcome (r : TripRecord) (o : TripOutcome) (n : Nat) : Nat :=
  if r.outcome = some o then satAdd Config.max16 n 1 else n

/-- The counters after a trip close arrival (R100). -/
def Counters.addTrip (c : Counters) (r : TripRecord) (waived : Nat) : Counters :=
  { c with
    tripsClosed := satAdd Config.max16 c.tripsClosed 1
    paid := countOutcome r .paid c.paid
    waivedCount := countOutcome r .waived c.waivedCount
    partWaivedCount := countOutcome r .partWaived c.partWaivedCount
    unsettledCount := countOutcome r .unsettled c.unsettledCount
    fareTotals := satAdd Config.max48 c.fareTotals r.total
    meteredSum := satAdd Config.max48 c.meteredSum r.metered
    extrasSum := satAdd Config.max48 c.extrasSum (r.extras.map (·.amount)).sum
    bookingFees := satAdd Config.max48 c.bookingFees r.bookingFee
    cash := satAdd Config.max48 c.cash (tenderSum .cash (·.amount) r.tenders)
    cashTips := satAdd Config.max48 c.cashTips (tenderSum .cash (·.tip) r.tenders)
    card := satAdd Config.max48 c.card (tenderSum .card (·.amount) r.tenders)
    cardTips := satAdd Config.max48 c.cardTips (tenderSum .card (·.tip) r.tenders)
    cardApprovals := satAdd Config.max24 c.cardApprovals (r.tenders.filter (·.kind == .card)).length
    waived := satAdd Config.max48 c.waived waived
    outstanding :=
      if r.outcome = some .unsettled then
        satAdd Config.max48 c.outstanding (r.total - r.tendered - waived)
      else c.outstanding }

/-- The journal with a closed record at its newest end; a full journal first loses its oldest record whose outcome is
not UNSETTLED (R101). -/
def journalAppend (j : List TripRecord) (r : TripRecord) : List TripRecord :=
  (if j.length < Config.maxJournal then j else j.eraseP fun x => x.outcome != some .unsettled) ++ [r]

/-- A trip close arrival (R100, R101). -/
def tripCloseArrival (r : TripRecord) (waived : Nat) (s : State) : State :=
  s.setSau { s.sau with
    counters := s.sau.counters.addTrip r waived
    journal := journalAppend s.sau.journal r }

/-! ### Resolution reports (R102, R103) -/

/-- A resolution report of the Settlement Unit (R86, R87). -/
structure Resolution where
  trip : Nat
  requested : Nat
  approved : Bool
  recorded : Nat
  tip : Nat
  excess : Nat
  reference : Option (List Byte)
  deriving DecidableEq, Repr

/-- The journal record a report names, changed (R102, R103). -/
def TripRecord.resolve (r : TripRecord) (x : Resolution) : TripRecord :=
  if x.approved then
    { r with
      tenders := r.tenders ++ [⟨.card, x.recorded, x.tip, x.reference⟩]
      outcome := some .paid }
  else { r with outcome := some .unpaid }

/-- The counters after a resolution report (R102, R103). -/
def Counters.resolve (c : Counters) (x : Resolution) : Counters :=
  if x.approved then
    { c with
      outstanding := c.outstanding - x.requested
      card := satAdd Config.max48 c.card x.recorded
      cardTips := satAdd Config.max48 c.cardTips x.tip
      cardApprovals := satAdd Config.max24 c.cardApprovals 1
      unpaid := satAdd Config.max48 c.unpaid (x.requested - x.recorded)
      terminalExcess := satAdd Config.max48 c.terminalExcess x.excess
      unsettledCount := c.unsettledCount - 1
      paid := satAdd Config.max16 c.paid 1
      lateSettled := satAdd Config.max16 c.lateSettled 1 }
  else
    { c with
      outstanding := c.outstanding - x.requested
      unpaid := satAdd Config.max48 c.unpaid x.requested
      unsettledCount := c.unsettledCount - 1
      unpaidCount := satAdd Config.max16 c.unpaidCount 1 }

/-- The SAU takes a resolution report (R102, R103). -/
def resolution (x : Resolution) (s : State) : State :=
  s.setSau { s.sau with
    counters := s.sau.counters.resolve x
    journal := s.sau.journal.map fun r => if r.trip = x.trip then r.resolve x else r }

/-! ### Single reports (R99) -/

def Counters.addRateLimited (c : Counters) : Counters :=
  { c with rateLimitedWindows := satAdd Config.max32 c.rateLimitedWindows 1 }
def Counters.addUnmetered (c : Counters) : Counters :=
  { c with unmeteredWindows := satAdd Config.max32 c.unmeteredWindows 1 }
def Counters.addAlarm (c : Counters) : Counters :=
  { c with alarms := satAdd Config.max16 c.alarms 1 }
def Counters.addPowerGap (c : Counters) : Counters :=
  { c with powerGaps := satAdd Config.max16 c.powerGaps 1 }
def Counters.addStray (c : Counters) : Counters :=
  { c with strayFrames := satAdd Config.max16 c.strayFrames 1 }
def Counters.addExcess (n : Nat) (c : Counters) : Counters :=
  { c with terminalExcess := satAdd Config.max48 c.terminalExcess n }

/-! ### Window records (R98) -/

/-- A window record at the SAU: `total` its forward + reverse pulses, `hired` whether the meter is HIRED. -/
def Counters.addWindow (c : Counters) (total discarded : Nat) (hired : Bool) : Counters :=
  let c1 := { c with
    allPulses := satAdd Config.max32 c.allPulses total
    discardedPulses := satAdd Config.max32 c.discardedPulses discarded }
  if hired then
    { c1 with
      hiredWindows := satAdd Config.max32 c1.hiredWindows 1
      hiredPulses := satAdd Config.max32 c1.hiredPulses total }
  else c1

end Sys2Proof.Machine
end

