-- ==== Sys2Proof/Machine/Fare.lean ====
section
/-! DEFINITION. Fare Engine (02): hire start, the charge of a window, tariff selection, extras, FARE_STATUS. -/

namespace Sys2Proof.Machine

/-- The window record (Table 1-7). -/
structure WindowRecord where
  sequence : Seq
  forward : Nat
  reverse : Nat
  chargeable : Nat
  discarded : Nat
  sensor : SensorState
  motion : Motion
  speed : Nat
  deriving DecidableEq, Repr

/-! ### FARE_STATUS (R37, R38) -/

def State.fareFrame (s : State) : TxFrame where
  cls := clsRoutine
  topic := Topic.fareStatus
  payload := be 2 s.fen.record.trip ++ [codeByte s.meter.code, codeByte s.fen.record.active]
    ++ be 3 s.fen.record.total ++ be 2 s.fen.record.drops
  owner := .fen
  kind := .state

/-- The FEN enqueues FARE_STATUS at an event; QUEUE_FULL sets the owed flag (R38). -/
def enqueueFareStatus (s : State) : State :=
  let r := enqueue s s.fareFrame
  if r.2.isSome then r.1 else r.1.setFen { r.1.fen with owed := true }

/-- The enqueue of a window end: taken, it clears the owed flag (R38). -/
def windowFareStatus (s : State) : State :=
  let r := enqueue s s.fareFrame
  r.1.setFen { r.1.fen with owed := r.2.isNone }

/-! ### Tables and derived quantities (R19, R22) -/

/-- The tariff record of an index 1 to 8, where present (R19). -/
def Fen.tariff (f : Fen) (i : Nat) : Option Tariff :=
  if i = 0 then none else (f.tariffs.getD (i - 1) none)

/-- The catalogue kind 1 to 8, where present (R20). -/
def Fen.kind (f : Fen) (i : Nat) : Option ExtraKind :=
  if i = 0 then none else (f.catalogue.getD (i - 1) none)

/-- The lowest-numbered present tariff (R23). -/
def Fen.lowestTariff (f : Fen) : Nat :=
  (([1, 2, 3, 4, 5, 6, 7, 8] : List Nat).find? fun i => (f.tariff i).isSome).getD 0

/-- Q = 4 × K × Dd × Td. -/
def WorkingTariff.q (w : WorkingTariff) : Int := 4 * w.k * w.tariff.dd * w.tariff.td

/-- Q0 = 4 × K × Td × D0. -/
def WorkingTariff.q0 (w : WorkingTariff) : Int := 4 * w.k * w.tariff.td * w.tariff.d0

/-- Cd = 4,000 × n × Td. -/
def WorkingTariff.cd (w : WorkingTariff) (n : Nat) : Int := 4000 * n * w.tariff.td

/-- Ct = K × Dd. -/
def WorkingTariff.ct (w : WorkingTariff) : Int := w.k * w.tariff.dd

/-! ### Hire start (R23) -/

/-- The fare record of a new trip. -/
def Fen.hireStart (f : Fen) (k trip index : Nat) (booked : Bool) : FareRecord :=
  let active := if (f.tariff index).isSome then index else f.lowestTariff
  let t := (f.tariff active).getD ⟨0, 0, 0, 0, 0, .single⟩
  let w : WorkingTariff := ⟨t, k⟩
  let fee := if booked then f.bookingFee else 0
  { trip := trip
    active := active
    working := w
    staged := none
    atStart := active
    p := -w.q0
    drops := 0
    metered := t.f
    extras := []
    bookingFee := fee
    total := t.f + fee
    changes := []
    flags := FareFlags.none }

/-- The FEN takes a hire start and enqueues FARE_STATUS (R23, R37). -/
def hireStart (trip index : Nat) (booked : Bool) (s : State) : State :=
  enqueueFareStatus (s.setFen { s.fen with record := s.fen.hireStart s.odu.k trip index booked })

/-! ### The charge of a window (R24 to R29) -/

/-- The contribution c (R25). -/
def contribution (w : WorkingTariff) (n : Nat) (trusted : Bool) : Int :=
  let cd := if trusted then w.cd n else 0
  match w.tariff.method with
  | .single => max cd w.ct
  | .double => cd + w.ct

/-- The sensor states whose distance is trusted (R12). -/
def SensorState.trusted : SensorState → Bool
  | .ok | .suspect => true
  | .fault | .lost => false

/-- Contribution and advance (R25, R26). -/
def FareRecord.advance (r : FareRecord) (w : WindowRecord) : FareRecord :=
  { r with
    p := r.p + contribution r.working w.chargeable w.sensor.trusted
    flags := { r.flags with degraded := r.flags.degraded || !w.sensor.trusted } }

/-- The drops of a window, at most `n` more, and whether the window is rate-limited (R27, R28). -/
def FareRecord.drop : Nat → FareRecord → FareRecord × Bool
  | 0, r =>
    if r.working.q ≤ r.p then
      ({ r with p := r.working.q - 1, flags := { r.flags with rateLimited := true } }, true)
    else (r, false)
  | n + 1, r =>
    if r.working.q ≤ r.p then
      if Config.maxAmount < r.total + r.working.tariff.a then
        ({ r with p := r.working.q - 1, flags := { r.flags with capped := true } }, false)
      else
        FareRecord.drop n { r with
          p := r.p - r.working.q
          drops := satAdd Config.max16 r.drops 1
          metered := r.metered + r.working.tariff.a
          total := r.total + r.working.tariff.a }
    else (r, false)

/-- An exact rescale as the 44-bit accumulator holds it. DESIGN CHOICE (log 35): where the exact result is below the range
of R30, the value is free within R30's limits. -/
def progressOf (exact : Int) : Int :=
  if exact < Config.minProgress then
    max Config.minProgress (-((Config.rescaleBelowRange exact).toNat : Int))
  else exact

/-- A present staged tariff takes effect (R29): the working tariff becomes the staged record with the ODU's K, copied again;
p is rescaled by Qnew / Qold, truncated toward zero; the change is listed where there is room. Qnew is taken at the K copied
again, which is the old K unless a warm start has intervened (DEDUCED, log 34), so p stays below the new Q (R30). -/
def FareRecord.changeTariff (r : FareRecord) (i : Nat) (t : Tariff) (k : Nat) (sequence : Seq) : FareRecord :=
  let room := r.changes.length < Config.maxChanges
  { r with
    p := progressOf ((r.p * WorkingTariff.q ⟨t, k⟩).tdiv r.working.q)
    working := ⟨t, k⟩
    active := i
    staged := none
    changes := if room then r.changes ++ [⟨i, sequence⟩] else r.changes
    flags := { r.flags with changesUnlisted := r.flags.changesUnlisted || !room } }

/-- The staged tariff after the drops, and whether a change took effect (R29). -/
def FareRecord.takeStaged (r : FareRecord) (f : Fen) (k : Nat) (sequence : Seq) : FareRecord × Bool :=
  match r.staged with
  | none => (r, false)
  | some i =>
    match f.tariff i with
    | some t => (r.changeTariff i t k sequence, true)
    | none => ({ r with staged := none }, false)

/-- A window record at the FEN: charged where the meter is HIRED (R24), with the report of a rate-limited window (R28),
the chime of a tariff change (R29), and at most one FARE_STATUS (R37). -/
def fareWindow (w : WindowRecord) (s : State) : State :=
  if s.meter = .hired then
    let before := s.fen.record
    let d := (before.advance w).drop Config.dropsPerWindow
    let c := d.1.takeStaged s.fen s.odu.k w.sequence
    let s1 := s.setFen { s.fen with record := c.1 }
    let s2 := if d.2 then report Counters.addRateLimited s1 else s1
    let s3 := if c.2 then requestChime .tariffChanged s2 else s2
    if c.1.total ≠ before.total ∨ c.2 ∨ s3.fen.owed then windowFareStatus s3 else s3
  else if s.fen.owed then windowFareStatus s
  else s

/-! ### Tariff selection (R31, R32) -/

/-- TARIFF_SELECT at the FEN. -/
def tariffSelect (f : RxFrame) (s : State) : State :=
  let i := field f.payload 0 1
  let selectable :=
    match s.meter with
    | .free | .booked | .hired | .stopped => true
    | .settling | .offDuty | .inoperative => false
  if !selectable then answer Topic.tariffSelect f .refusedState s
  else if s.trc.restricted then answer Topic.tariffSelect f .refusedParams s
  else if (s.fen.tariff i).isNone then answer Topic.tariffSelect f .refusedAbsent s
  else
    let s1 :=
      if s.meter = .free ∨ s.meter = .booked then s.setTrc { s.trc with preselected := i }
      else
        s.setFen { s.fen with
          record := { s.fen.record with staged := if i = s.fen.record.active then none else some i } }
    answer Topic.tariffSelect f .done s1

/-! ### Extras (R34, R35) -/

def State.extrasOpen (s : State) : Bool := s.meter == .hired || s.meter == .stopped

/-- EXTRA_ADD at the FEN (R34). -/
def extraAdd (f : RxFrame) (s : State) : State :=
  let i := field f.payload 0 1
  if !s.extrasOpen then answer Topic.extraAdd f .refusedState s
  else
    match s.fen.kind i with
    | none => answer Topic.extraAdd f .refusedAbsent s
    | some k =>
      let r := s.fen.record
      if Config.maxExtras ≤ r.extras.length ∨ k.limit ≤ (r.extras.filter (·.kind == i)).length
          ∨ Config.maxAmount < r.total + k.amount then
        answer Topic.extraAdd f .refusedLimit s
      else
        answer Topic.extraAdd f .done
          (enqueueFareStatus (s.setFen { s.fen with
            record := { r with extras := r.extras ++ [⟨i, k.amount⟩], total := r.total + k.amount } }))

/-- The list without its most recent entry of a kind (R35). -/
def removeLast (i : Nat) (l : List Extra) : List Extra := (l.reverse.eraseP (·.kind == i)).reverse

/-- EXTRA_REMOVE at the FEN (R35). -/
def extraRemove (f : RxFrame) (s : State) : State :=
  let i := field f.payload 0 1
  if !s.extrasOpen then answer Topic.extraRemove f .refusedState s
  else
    let r := s.fen.record
    match r.extras.reverse.find? (·.kind == i) with
    | none => answer Topic.extraRemove f .refusedAbsent s
    | some e =>
      answer Topic.extraRemove f .done
        (enqueueFareStatus (s.setFen { s.fen with
          record := { r with extras := removeLast i r.extras, total := r.total - e.amount } }))

/-! ### The commands -/

/-- TARIFF_SELECT (R31, R32). -/
def execTariffSelect (f : RxFrame) (s : State) : Host.Outcome State Fault Refusal :=
  .next (frameComplete Topic.tariffSelect f (tariffSelect f) s)

/-- EXTRA_ADD (R34). -/
def execExtraAdd (f : RxFrame) (s : State) : Host.Outcome State Fault Refusal :=
  .next (frameComplete Topic.extraAdd f (extraAdd f) s)

/-- EXTRA_REMOVE (R35). -/
def execExtraRemove (f : RxFrame) (s : State) : Host.Outcome State Fault Refusal :=
  .next (frameComplete Topic.extraRemove f (extraRemove f) s)

end Sys2Proof.Machine
end

