-- ==== Sys2Proof/Machine/Trips.lean ====
section
/-! DEFINITION. Trip Controller (03): time stamps, trip close, the trip requests, bookings, window records. VOID and SETTLE,
which the Settlement Unit takes part in, are in Settlement. -/

namespace Sys2Proof.Machine

/-! ### Stamps (R46) -/

/-- The value a time stamp writes: the clock where it is set, 0 otherwise. -/
def Odu.stamp (o : Odu) : Clock := if o.clockSet then o.clock else 0

/-- The stop time stamped; CLOCK_UNSET noted where the clock is not set. -/
def TripRecord.stampStop (r : TripRecord) (o : Odu) : TripRecord :=
  { r with stopTime := o.stamp, clockUnset := r.clockUnset || !o.clockSet }

/-! ### Trip close (R59, R60) -/

/-- The record completed at close: the fare fields and the tenders copied, the outcome written (R59). -/
def TripRecord.complete (r : TripRecord) (fare : FareRecord) (tenders : List TenderEntry)
    (outcome : TripOutcome) : TripRecord :=
  { r with
    tariffAtStart := fare.atStart
    changes := fare.changes
    drops := fare.drops
    metered := fare.metered
    extras := fare.extras
    bookingFee := fare.bookingFee
    total := fare.total
    fareFlags := fare.flags
    tenders := tenders.map (·.tender)
    outcome := some outcome }

/-- A trip closes: the completed record is handed to the SAU with the amount waived, the record in progress is cleared,
the meter becomes FREE, and the settlement session ends (R59, R60, R70). -/
def closeTrip (outcome : TripOutcome) (waived : Nat) (s : State) : State :=
  match s.trc.record with
  | none => s
  | some r =>
    let s1 := tripCloseArrival (r.complete s.fen.record s.stu.tenders outcome) waived s
    let s2 := setHeld .free (s1.setTrc { s1.trc with record := none })
    s2.setStu { s2.stu with session := none, tenders := [] }

/-! ### HIRE (R47, R48) -/

/-- The trip record a HIRE creates (R45, R46, R58). DESIGN CHOICE (log 36): the stop time is 0 until its first stamp. -/
def State.newRecord (s : State) : TripRecord where
  trip := s.trc.lastTrip + 1
  shift := s.sau.number
  startTime := s.odu.stamp
  stopTime := 0
  reference := s.trc.booking.map (·.reference)
  tariffAtStart := 0
  changes := []
  hiredWindows := 0
  chargeable := 0
  allPulses := 0
  drops := 0
  metered := 0
  extras := []
  bookingFee := 0
  total := 0
  tenders := []
  outcome := none
  fareFlags := FareFlags.none
  powerGap := false
  alarmDuring := s.alm.state == .active
  clockUnset := !s.odu.clockSet

/-- The tariff index a HIRE chooses: the booking's where it names a present tariff, else the preselected one (R48). -/
def State.chosenTariff (s : State) : Nat :=
  match s.trc.booking with
  | some b => if (s.fen.tariff b.tariff).isSome then b.tariff else s.trc.preselected
  | none => s.trc.preselected

/-- A HIRE carried out (R48). -/
def hired (s : State) : State :=
  let index := s.chosenTariff
  let booked := s.trc.booking.isSome
  let s1 := s.setTrc { s.trc with
    lastTrip := s.trc.lastTrip + 1
    record := some s.newRecord
    booking := none }
  let s2 := setHeld .hired s1
  hireStart (s.trc.lastTrip + 1) index booked s2

/-- HIRE at the TRC (R44, R47). -/
def hire (f : RxFrame) (s : State) : State :=
  if s.meter = .inoperative then answer Topic.hire f .refusedParams s
  else if ¬(s.meter = .free ∨ s.meter = .booked) then answer Topic.hire f .refusedState s
  else if s.trc.restricted then answer Topic.hire f .refusedParams s
  else if !s.odu.sensor.trusted then answer Topic.hire f .refusedSensor s
  else if Config.maxUnsettled ≤ s.stu.unsettled.length then answer Topic.hire f .refusedUnsettled s
  else if Config.max16 ≤ s.trc.lastTrip then answer Topic.hire f .refusedLimit s
  else answer Topic.hire f .done (hired s)

/-! ### STOP and RESUME (R49, R50) -/

/-- A STOP carried out: the stop time stamped, the meter STOPPED. -/
def stopped (s : State) : State :=
  setHeld .stopped (s.setTrc { s.trc with record := s.trc.record.map (·.stampStop s.odu) })

/-- STOP at the TRC. -/
def stop (f : RxFrame) (s : State) : State :=
  if s.meter = .inoperative then answer Topic.stop f .refusedParams s
  else if s.meter ≠ .hired then answer Topic.stop f .refusedState s
  else if s.odu.motion = .moving then answer Topic.stop f .refusedMoving s
  else answer Topic.stop f .done (stopped s)

/-- RESUME at the TRC. -/
def resume (f : RxFrame) (s : State) : State :=
  if s.meter = .inoperative then answer Topic.resume f .refusedParams s
  else if s.meter ≠ .stopped then answer Topic.resume f .refusedState s
  else if s.trc.restricted then answer Topic.resume f .refusedParams s
  else answer Topic.resume f .done (setHeld .hired s)

/-! ### Bookings (R53, R54) -/

/-- BOOKING_ASSIGN at the TRC. -/
def bookingAssign (f : RxFrame) (s : State) : State :=
  let i := field f.payload 8 1
  if s.meter = .inoperative then answer Topic.bookingAssign f .refusedParams s
  else if 8 < i then answer Topic.bookingAssign f .refusedFormat s
  else if s.meter ≠ .free then answer Topic.bookingAssign f .refusedState s
  else if s.trc.restricted then answer Topic.bookingAssign f .refusedParams s
  else
    answer Topic.bookingAssign f .done
      (setHeld .booked (s.setTrc { s.trc with booking := some ⟨slice f.payload 0 8, i⟩ }))

/-- A reference of eight zero bytes names whatever booking is held (R54). -/
def namesBooking (reference : List Byte) (b : Booking) : Bool :=
  reference == List.replicate 8 0 || reference == b.reference

/-- BOOKING_CANCEL at the TRC. -/
def bookingCancel (f : RxFrame) (s : State) : State :=
  if s.meter = .inoperative then answer Topic.bookingCancel f .refusedParams s
  else if s.meter ≠ .booked then answer Topic.bookingCancel f .refusedState s
  else if s.trc.booking.any (namesBooking (slice f.payload 0 8)) then
    answer Topic.bookingCancel f .done (setHeld .free (s.setTrc { s.trc with booking := none }))
  else answer Topic.bookingCancel f .refusedAbsent s

/-! ### Window records (R56, R57) and the alarm (R58) -/

/-- A window counted into the trip record (R56). -/
def TripRecord.count (r : TripRecord) (w : WindowRecord) : TripRecord :=
  { r with
    hiredWindows := satAdd Config.max24 r.hiredWindows 1
    chargeable := satAdd Config.max32 r.chargeable w.chargeable
    allPulses := satAdd Config.max32 r.allPulses (w.forward + w.reverse) }

/-- A window record at the TRC: counted in HIRED (R56); unmetered-occupied travel reported in FREE or BOOKED (R57). -/
def tripWindow (w : WindowRecord) (s : State) : State :=
  if s.meter = .hired then
    s.setTrc { s.trc with record := s.trc.record.map (·.count w) }
  else if (s.meter = .free ∨ s.meter = .booked) ∧ w.motion = .moving ∧ s.odu.report.rearSeat then
    report Counters.addUnmetered s
  else s

/-- The window end while METER_STATE is owed (R65). -/
def windowMeterState (s : State) : State :=
  if s.trc.owed then
    let r := enqueue s s.meterFrame
    r.1.setTrc { r.1.trc with owed := r.2.isNone }
  else s

/-- The alarm enters ACTIVE with a trip in progress (R58). -/
def markAlarm (s : State) : State :=
  s.setTrc { s.trc with record := s.trc.record.map fun r => { r with alarmDuring := true } }

/-! ### The commands -/

/-- HIRE (R47, R48). -/
def execHire (f : RxFrame) (s : State) : Host.Outcome State Fault Refusal :=
  .next (frameComplete Topic.hire f (hire f) s)

/-- STOP (R49). -/
def execStop (f : RxFrame) (s : State) : Host.Outcome State Fault Refusal :=
  .next (frameComplete Topic.stop f (stop f) s)

/-- RESUME (R50). -/
def execResume (f : RxFrame) (s : State) : Host.Outcome State Fault Refusal :=
  .next (frameComplete Topic.resume f (resume f) s)

/-- BOOKING_ASSIGN (R53). -/
def execBookingAssign (f : RxFrame) (s : State) : Host.Outcome State Fault Refusal :=
  .next (frameComplete Topic.bookingAssign f (bookingAssign f) s)

/-- BOOKING_CANCEL (R54). -/
def execBookingCancel (f : RxFrame) (s : State) : Host.Outcome State Fault Refusal :=
  .next (frameComplete Topic.bookingCancel f (bookingCancel f) s)

end Sys2Proof.Machine
end

