-- ==== Sys2Proof/Machine/Settlement.lean ====
section
/-! DEFINITION. Settlement Unit (04): the session, tenders, the card attempt, terminal frames, the unsettled list; and the
TRC's SETTLE and VOID. -/

namespace Sys2Proof.Machine

/-! ### Session, due and SETTLE_REPORT (R69, R70, R89) -/

/-- The sum of the tender amounts. -/
def Stu.tendered (u : Stu) : Nat := (u.tenders.map (·.tender.amount)).sum

/-- The due remaining; 0 with no session (R70, R89). -/
def Stu.due (u : Stu) : Nat := (u.session.map fun x => x.total - u.tendered).getD 0

def State.settleFrame (s : State) : TxFrame where
  cls := clsSettle
  topic := Topic.settleReport
  payload := be 2 ((s.stu.session.map (·.trip)).getD 0) ++ be 3 s.stu.due
    ++ [codeByte s.stu.tenders.length, codeByte ((s.stu.attempt.map (·.number)).getD 0),
        codeByte ((s.stu.attempt.map (·.state.code)).getD 0), codeByte s.stu.lastEnding.code,
        codeByte s.stu.unsettled.length]
  owner := .stu
  kind := .event

/-- SETTLE_REPORT; at QUEUE_FULL it is dropped and counted (R89). -/
def settleReport (s : State) : State := enqueueCounted s s.settleFrame

/-- A settlement session opens (R69). -/
def openSession (r : TripRecord) (s : State) : State :=
  settleReport (s.setStu { s.stu with
    session := some ⟨r.trip, r.shift, s.fen.record.total, 0⟩
    tenders := []
    lastEnding := .none })

/-- Where the due remaining is 0, the STU reports due = 0 and the trip closes PAID (R70). -/
def closeIfPaid (s : State) : State :=
  if s.stu.session.isSome ∧ s.stu.due = 0 then closeTrip .paid 0 s else s

/-! ### SETTLE and VOID at the TRC (R51, R52) -/

/-- A SETTLE carried out: a session for a fare total above 0, or the trip closed PAID. DESIGN CHOICE (log 9): METER_STATE is
enqueued before SETTLE_REPORT. -/
def settled (s : State) : State :=
  if s.fen.record.total = 0 then closeTrip .paid 0 s
  else
    match s.trc.record with
    | none => s
    | some r => openSession r (setHeld .settling s)

def settle (f : RxFrame) (s : State) : State :=
  if s.meter = .inoperative then answer Topic.settle f .refusedParams s
  else if s.meter ≠ .stopped then answer Topic.settle f .refusedState s
  else if s.odu.motion = .moving then answer Topic.settle f .refusedMoving s
  else answer Topic.settle f .done (settled s)

/-- A VOID carried out: the amount waived is the fare total less the tender amounts (R52). -/
def voided (s : State) : State :=
  closeTrip (if s.stu.tenders = [] then .waived else .partWaived) (s.fen.record.total - s.stu.tendered) s

def void (f : RxFrame) (s : State) : State :=
  if s.meter = .inoperative then answer Topic.void f .refusedParams s
  else if ¬(s.meter = .stopped ∨ s.meter = .settling) then answer Topic.void f .refusedState s
  else if s.meter = .settling ∧ s.stu.attempt.isSome then answer Topic.void f .refusedBusy s
  else answer Topic.void f .done (voided s)

/-! ### Cash (R71) -/

def tenderCash (f : RxFrame) (s : State) : State :=
  let amount := field f.payload 0 3
  let tip := field f.payload 3 3
  if s.meter = .inoperative then answer Topic.tenderCash f .refusedParams s
  else if s.meter ≠ .settling then answer Topic.tenderCash f .refusedState s
  else if s.stu.attempt.isSome then answer Topic.tenderCash f .refusedBusy s
  else if Config.maxTenders ≤ s.stu.tenders.length then answer Topic.tenderCash f .refusedLimit s
  else if amount = 0 ∨ Config.maxAmount < amount ∨ Config.maxAmount < tip then
    answer Topic.tenderCash f .refusedAmount s
  else
    let entry : TenderEntry := ⟨⟨.cash, min amount s.stu.due, tip, none⟩, none⟩
    answer Topic.tenderCash f .done
      (closeIfPaid (settleReport (s.setStu { s.stu with tenders := s.stu.tenders ++ [entry] })))

/-! ### The attempt's frames -/

/-- The trip and attempt number that open the payload of every frame of an attempt (Table 11-2). -/
def attemptTag (trip number : Nat) : List Byte := be 2 trip ++ be 1 number

def payRequestFrame (a : Attempt) : TxFrame :=
  ⟨clsSettle, Topic.payRequest, attemptTag a.trip a.number ++ be 3 a.requested, .stu, .event⟩

def payCancelFrame (a : Attempt) : TxFrame :=
  ⟨clsSettle, Topic.payCancel, attemptTag a.trip a.number, .stu, .event⟩

def queryFrame (trip number : Nat) : TxFrame :=
  ⟨clsSettle, Topic.payStatusQuery, attemptTag trip number, .stu, .event⟩

/-- A frame of the STU of one topic for one attempt. -/
def isAttemptFrame (topic trip number : Nat) (f : TxFrame) : Bool :=
  f.owner == .stu && f.topic == topic && f.payload.take 3 == attemptTag trip number

def State.setAttempt (s : State) (a : Attempt) : State := s.setStu { s.stu with attempt := some a }

/-- The PAY_REQUEST is enqueued; taken, `placed` is set (R73). -/
def placeRequest (s : State) : State :=
  match s.stu.attempt with
  | none => s
  | some a =>
    let r := enqueue s (payRequestFrame a)
    r.1.setAttempt { a with placed := r.2.isSome }

/-- The PAY_CANCEL is enqueued; at QUEUE_FULL it waits (R78). -/
def placeCancel (s : State) : State :=
  match s.stu.attempt with
  | none => s
  | some a =>
    let r := enqueue s (payCancelFrame a)
    r.1.setAttempt { a with waits := r.2.isNone }

/-- A PAY_STATUS_QUERY of the attempt is enqueued: taken, it is counted and the query timer starts; at QUEUE_FULL it waits
with the timer stopped (R79). -/
def placeQuery (s : State) : State :=
  match s.stu.attempt with
  | none => s
  | some a =>
    let r := enqueue s (queryFrame a.trip a.number)
    if r.2.isSome then
      r.1.setAttempt { a with
        queries := satAdd Config.maxQueryCount a.queries 1
        timer := some Config.queryTimer
        waits := false }
    else r.1.setAttempt { a with timer := none, waits := true }

/-! ### Attempt states (R74 to R79) -/

/-- An attempt enters CANCELLING (R78). Table 4-3 gives placed and cancel requested a meaning in QUEUED only. DESIGN CHOICE
(log 42): here cancel requested is cleared and placed stays as it was; no other change of state touches either. -/
def enterCancelling (a : Attempt) (s : State) : State :=
  placeCancel (s.setAttempt { a with
    state := .cancelling
    cancelRequested := false
    timer := some Config.cancelTimer
    waits := false })

/-- An attempt enters UNCERTAIN: any PAY_CANCEL of it is aborted, and a query is enqueued (R79). -/
def enterUncertain (a : Attempt) (s : State) : State :=
  let s1 := s.setAttempt { a with state := .uncertain, timer := none, waits := false }
  placeQuery (s1.abortWhere (isAttemptFrame Topic.payCancel a.trip a.number))

/-- The frames of an attempt that an ending aborts (R74, R81). -/
def abortAttemptFrames (a : Attempt) (s : State) : State :=
  s.abortWhere fun f =>
    isAttemptFrame Topic.payRequest a.trip a.number f || isAttemptFrame Topic.payCancel a.trip a.number f
      || isAttemptFrame Topic.payStatusQuery a.trip a.number f

/-- Every ending: the record absent, the last ending named, the attempt's frames aborted (R81). -/
def dropAttempt (e : Ending) (a : Attempt) (s : State) : State :=
  abortAttemptFrames a (s.setStu { s.stu with attempt := none, lastEnding := e })

/-- An ending that changes no tender and no due (R81). DESIGN CHOICE (log 38): the frames are aborted before SETTLE_REPORT is
enqueued. -/
def endAttempt (e : Ending) (a : Attempt) (s : State) : State := settleReport (dropAttempt e a s)

/-- The amounts of an approval: recorded, and the excess above the requested amount (R80, R86). -/
def recordedAmount (requested approved : Nat) : Nat := min approved requested

/-- An attempt ends APPROVED (R80). -/
def approveAttempt (a : Attempt) (approved tip : Nat) (s : State) : State :=
  let entry : TenderEntry :=
    ⟨⟨.card, recordedAmount a.requested approved, tip, a.reference⟩, some a.number⟩
  let s1 := if a.requested < approved then report (Counters.addExcess (approved - a.requested)) s else s
  let s2 := dropAttempt .approved a (s1.setStu { s1.stu with tenders := s1.stu.tenders ++ [entry] })
  let s3 := settleReport s2
  if s3.stu.due = 0 then closeIfPaid (requestChime .paid s3) else s3

/-! ### Card tender and cancel (R72, R73, R77) -/

/-- An attempt opens (R73). -/
def openAttempt (x : Session) (requested : Nat) (s : State) : State :=
  let a : Attempt :=
    ⟨x.trip, x.shift, x.attempts + 1, requested, .queued, false, false, none, 0, none, false⟩
  settleReport (placeRequest (s.setStu { s.stu with
    session := some { x with attempts := x.attempts + 1 }
    attempt := some a }))

def tenderCard (f : RxFrame) (s : State) : State :=
  let amount := field f.payload 0 3
  if s.meter = .inoperative then answer Topic.tenderCard f .refusedParams s
  else if s.meter ≠ .settling then answer Topic.tenderCard f .refusedState s
  else if !s.hasTerminal then answer Topic.tenderCard f .refusedState s
  else if s.stu.attempt.isSome then answer Topic.tenderCard f .refusedBusy s
  else if Config.maxTenders ≤ s.stu.tenders.length then answer Topic.tenderCard f .refusedLimit s
  else
    match s.stu.session with
    | none => answer Topic.tenderCard f .refusedState s
    | some x =>
      if Config.maxAttempts ≤ x.attempts then answer Topic.tenderCard f .refusedLimit s
      else if s.stu.due < amount then answer Topic.tenderCard f .refusedAmount s
      else
        answer Topic.tenderCard f .done
          (openAttempt x (if amount = 0 then s.stu.due else amount) s)

/-- The PAY_REQUEST of the attempt stands PENDING in a mailbox. -/
def State.requestPending (s : State) (a : Attempt) : Bool :=
  s.cbi.boxes.any fun m =>
    m.state == .pending && isAttemptFrame Topic.payRequest a.trip a.number m.frame

/-- A cancel in QUEUED: with nothing placed the attempt ends CANCELLED; otherwise the PAY_REQUEST is aborted, and the abort
settles the matter: a PENDING mailbox is emptied and reported ABORTED, which ends the attempt (R74, R77). -/
def cancelQueued (a : Attempt) (s : State) : State :=
  if !a.placed then endAttempt .cancelled a s
  else
    let s1 := (s.setAttempt { a with cancelRequested := true }).abortWhere
      (isAttemptFrame Topic.payRequest a.trip a.number)
    if s.requestPending a then endAttempt .cancelled a s1 else s1

/-- PAY_CANCEL from CONSOLE (R77). -/
def payCancel (f : RxFrame) (s : State) : State :=
  if s.meter = .inoperative then answer Topic.payCancel f .refusedParams s
  else if s.meter ≠ .settling then answer Topic.payCancel f .refusedState s
  else
    match s.stu.attempt with
    | none => answer Topic.payCancel f .refusedState s
    | some a =>
      match a.state with
      | .queued =>
        if a.cancelRequested then answer Topic.payCancel f .refusedState s
        else answer Topic.payCancel f .done (cancelQueued a s)
      | .offered | .atTerminal =>
        answer Topic.payCancel f .done (settleReport (enterCancelling a s))
      | .cancelling | .uncertain => answer Topic.payCancel f .refusedState s

/-- The outcome of the attempt's own PAY_REQUEST mailbox, while QUEUED with the frame placed (R74). -/
inductive BoxOutcome where
  | sent
  | aborted
  | failed
  deriving DecidableEq, Repr

def payRequestOutcome (payload : List Byte) (o : BoxOutcome) (s : State) : State :=
  match s.stu.attempt with
  | none => s
  | some a =>
    if a.state = .queued ∧ a.placed ∧ payload.take 3 = attemptTag a.trip a.number then
      match o with
      | .sent =>
        if a.cancelRequested then settleReport (enterCancelling a s)
        else settleReport (s.setAttempt { a with state := .offered, timer := some Config.offerTimer })
      | .aborted => endAttempt .cancelled a s
      | .failed => endAttempt .notTaken a s
    else s

/-! ### Deferral (R84) -/

/-- The unsettled entry an attempt becomes. -/
def Attempt.entry (a : Attempt) : UnsettledEntry where
  trip := a.trip
  shift := a.shift
  attempt := a.number
  requested := a.requested
  queries := a.queries
  left := Config.queryLimit - a.queries
  timer := a.timer
  reference := a.reference
  waits := a.waits
  closingWaits := false

/-- A SETTLE_DEFER carried out: the entry joins the list, the attempt record becomes absent, and the trip closes UNSETTLED
with what neither a tender nor the attempt covers waived. -/
def deferred (a : Attempt) (s : State) : State :=
  let s1 := settleReport (s.setStu { s.stu with
    attempt := none
    unsettled := s.stu.unsettled ++ [a.entry] })
  closeTrip .unsettled (s.stu.due - a.requested) s1

def settleDefer (f : RxFrame) (s : State) : State :=
  if s.meter = .inoperative then answer Topic.settleDefer f .refusedParams s
  else
    match s.stu.attempt with
    | none => answer Topic.settleDefer f .refusedState s
    | some a =>
      if s.meter = .settling ∧ a.state = .uncertain then
        answer Topic.settleDefer f .done (deferred a s)
      else answer Topic.settleDefer f .refusedState s

/-! ### The unsettled list (R85 to R87) -/

/-- The entry a pair of numbers names (R82). -/
def State.entryOf (s : State) (trip number : Nat) : Option UnsettledEntry :=
  s.stu.unsettled.find? fun e => e.trip == trip && e.attempt == number

def State.mapEntry (s : State) (trip : Nat) (g : UnsettledEntry → UnsettledEntry) : State :=
  s.setStu { s.stu with unsettled := s.stu.unsettled.map fun e => if e.trip = trip then g e else e }

/-- An entry leaves the list, the entries after it keeping their order; SETTLE_REPORT follows (R85, R89). -/
def dropEntry (e : UnsettledEntry) (s : State) : State :=
  s.setStu { s.stu with unsettled := s.stu.unsettled.eraseP fun x => x.trip == e.trip }

/-- A result resolves an entry (R86). -/
def resolveEntry (e : UnsettledEntry) (approvedOutcome : Bool) (approved tip : Nat) (s : State) : State :=
  let ok := approvedOutcome && approved != 0
  let x : Resolution :=
    if ok then
      ⟨e.trip, e.requested, true, recordedAmount e.requested approved, tip, approved - e.requested, e.reference⟩
    else ⟨e.trip, e.requested, false, 0, 0, 0, e.reference⟩
  settleReport (resolution x (dropEntry e s))

/-- The query of an entry's own cycle: taken, count up, queries left down, timer restarted; else it waits (R85). -/
def placeEntryQuery (e : UnsettledEntry) (s : State) : State :=
  let r := enqueue s (queryFrame e.trip e.attempt)
  if r.2.isSome then
    r.1.mapEntry e.trip fun x =>
      { x with
        queries := satAdd Config.maxQueryCount x.queries 1
        left := x.left - 1
        timer := some Config.queryTimer
        waits := false }
  else r.1.mapEntry e.trip fun x => { x with timer := none, waits := true }

/-- The query of the closing's first stage: the count rises when it is taken, the queries left stay (R87). -/
def placeClosingQuery (e : UnsettledEntry) (s : State) : State :=
  let r := enqueue s (queryFrame e.trip e.attempt)
  r.1.mapEntry e.trip fun x =>
    { x with
      queries := if r.2.isSome then satAdd Config.maxQueryCount x.queries 1 else x.queries
      closingWaits := r.2.isNone }

/-- Stage 1: one query for each entry on the list (R87, R107). DESIGN CHOICE (log 9): the oldest entry's first. -/
def queryAllEntries (s : State) : State :=
  s.stu.unsettled.foldl (fun t e => placeClosingQuery e t) s

/-- The conversion of one entry: removed, reported UNPAID, its queries aborted (R87). DESIGN CHOICE (log 38): entry by entry,
the queries are aborted before SETTLE_REPORT is enqueued. -/
def convertEntry (e : UnsettledEntry) (s : State) : State :=
  let s1 := resolution ⟨e.trip, e.requested, false, 0, 0, 0, none⟩ (dropEntry e s)
  settleReport (s1.abortWhere (isAttemptFrame Topic.payStatusQuery e.trip e.attempt))

/-- Stage 4: every entry is converted, oldest first (R87, R110). -/
def convertAll (s : State) : State := s.stu.unsettled.foldl (fun t e => convertEntry e t) s

/-! ### Terminal frames (R75, R76, R80 to R83, R90) -/

/-- The open attempt, where the numbers match it (R82). -/
def State.openAttemptOf (s : State) (trip number : Nat) : Option Attempt :=
  s.stu.attempt.filter fun a => a.trip == trip && a.number == number

def stray (s : State) : State := report Counters.addStray s

/-- PAY_ACCEPTED for the open attempt (R74 to R76). DESIGN CHOICE (log 38): in QUEUED the PAY_CANCEL, where one is due, is
enqueued first, then the PAY_REQUEST is aborted, then SETTLE_REPORT is enqueued. -/
def accepted (a : Attempt) (s : State) : State :=
  match a.state with
  | .queued =>
    let s1 :=
      if a.cancelRequested then enterCancelling a s
      else s.setAttempt { a with state := .atTerminal, timer := some Config.resultTimer }
    settleReport (s1.abortWhere (isAttemptFrame Topic.payRequest a.trip a.number))
  | .offered => settleReport (s.setAttempt { a with state := .atTerminal, timer := some Config.resultTimer })
  | .atTerminal | .cancelling | .uncertain => s

def payAccepted (f : RxFrame) (s : State) : State :=
  let trip := field f.payload 0 2
  let number := field f.payload 2 1
  match s.openAttemptOf trip number with
  | some a => if s.meter = .inoperative then s else accepted a s
  | none => if (s.entryOf trip number).isSome then s else stray s

/-- PAY_RESULT outcomes (Table 11-3). -/
def outcomeApproved : Nat := 1
def outcomeDeclined : Nat := 2
def outcomeCancelled : Nat := 3

/-- PAY_RESULT for the open attempt (R80, R81). -/
def attemptResult (a : Attempt) (outcome approved tip : Nat) (s : State) : State :=
  if outcome = outcomeApproved ∧ approved ≠ 0 then approveAttempt a approved tip s
  else if outcome = outcomeCancelled then endAttempt .cancelled a s
  else requestChime .declined (endAttempt .declined a s)

def payResult (f : RxFrame) (s : State) : State :=
  let trip := field f.payload 0 2
  let number := field f.payload 2 1
  let outcome := field f.payload 3 1
  let approved := field f.payload 4 3
  let tip := field f.payload 7 3
  if outcome = 0 ∨ outcomeCancelled < outcome ∨ Config.maxAmount < approved ∨ Config.maxAmount < tip then
    stray s
  else
    match s.openAttemptOf trip number with
    | some a => if s.meter = .inoperative then s else attemptResult a outcome approved tip s
    | none =>
      match s.entryOf trip number with
      | some e => resolveEntry e (outcome == outcomeApproved) approved tip s
      | none => stray s

/-- A reference written into the card tender of an attempt number (R83). -/
def TenderEntry.refer (number : Nat) (reference : List Byte) (e : TenderEntry) : TenderEntry :=
  if e.attempt = some number then { e with tender := { e.tender with reference := some reference } } else e

def payReference (f : RxFrame) (s : State) : State :=
  let trip := field f.payload 0 2
  let number := field f.payload 2 1
  let reference := slice f.payload 3 6
  match s.openAttemptOf trip number with
  | some a => s.setAttempt { a with reference := some reference }
  | none =>
    if s.stu.session.any (·.trip == trip) ∧ s.stu.tenders.any (·.attempt == some number) then
      s.setStu { s.stu with tenders := s.stu.tenders.map (·.refer number reference) }
    else if (s.entryOf trip number).isSome then
      s.mapEntry trip fun e => { e with reference := some reference }
    else s

/-! ### Timers (R75, R76, R78, R79, R85, R90) -/

/-- The attempt in a state with its timer expired, the meter not INOPERATIVE (R90, log 5). -/
def State.expired (s : State) (st : AttemptState) : Option Attempt :=
  if s.running ∧ s.meter ≠ .inoperative then
    s.stu.attempt.filter fun a => a.state == st && a.timer == some 0
  else none

/-- The offer timer expires: NOT_TAKEN (R75). -/
def offerExpiry (s : State) : State :=
  match s.expired .offered with
  | some a => endAttempt .notTaken a s
  | none => s

/-- The result timer expires: UNCERTAIN (R76). -/
def resultExpiry (s : State) : State :=
  match s.expired .atTerminal with
  | some a => settleReport (enterUncertain a s)
  | none => s

/-- The cancel timer expires: UNCERTAIN (R78). -/
def cancelExpiry (s : State) : State :=
  match s.expired .cancelling with
  | some a => settleReport (enterUncertain a s)
  | none => s

/-- The query timer expires: the next query while the count is below 6, else the timer stays stopped (R79). -/
def queryExpiry (s : State) : State :=
  match s.expired .uncertain with
  | some a =>
    if a.queries < Config.queryLimit then placeQuery (s.setAttempt { a with timer := none })
    else s.setAttempt { a with timer := none }
  | none => s

/-- An entry's query timer expires: a query while queries are left, else the timer stays stopped (R85). -/
def entryExpiry (trip : Nat) (s : State) : State :=
  if s.running ∧ s.meter ≠ .inoperative then
    match s.stu.unsettled.find? fun e => e.trip == trip && e.timer == some 0 with
    | some e =>
      let s1 := s.mapEntry trip fun x => { x with timer := none }
      if e.left = 0 then s1 else placeEntryQuery e s1
    | none => s
  else s

/-- A timer one window end on; a timer at 0 is due and waits for its expiry (log 5). -/
def tick (t : Option Nat) : Option Nat := t.map (· - 1)

/-- A window end at the STU: its timers count (04, introduction). -/
def settlementTimers (s : State) : State :=
  if s.meter = .inoperative then s
  else
    s.setStu { s.stu with
      attempt := s.stu.attempt.map fun a => { a with timer := tick a.timer }
      unsettled := s.stu.unsettled.map fun e => { e with timer := tick e.timer } }

/-- An entry's waiting queries are enqueued again (R85, R87). DESIGN CHOICE (log 10): the one of its own cycle first. -/
def retryEntry (e : UnsettledEntry) (s : State) : State :=
  let s1 := if e.waits then placeEntryQuery e s else s
  if e.closingWaits then placeClosingQuery e s1 else s1

/-- A window end at the STU: frames that met QUEUE_FULL are enqueued again (R73, R78, R79, R85, R87). DESIGN CHOICE (log 10):
the attempt's frame first, then those of the entries, oldest first. -/
def settlementRetries (s : State) : State :=
  if s.meter = .inoperative then s
  else
    let s1 : State :=
      match s.stu.attempt with
      | some a =>
        if a.state = .queued ∧ !a.placed then placeRequest s
        else if a.state = .cancelling ∧ a.waits then placeCancel s
        else if a.state = .uncertain ∧ a.waits then placeQuery s
        else s
      | none => s
    s1.stu.unsettled.foldl (fun t e => retryEntry e t) s1

/-! ### The commands -/

/-- SETTLE (R51). -/
def execSettle (f : RxFrame) (s : State) : Host.Outcome State Fault Refusal :=
  .next (frameComplete Topic.settle f (settle f) s)

/-- VOID (R52). -/
def execVoid (f : RxFrame) (s : State) : Host.Outcome State Fault Refusal :=
  .next (frameComplete Topic.void f (void f) s)

/-- TENDER_CASH (R71). -/
def execTenderCash (f : RxFrame) (s : State) : Host.Outcome State Fault Refusal :=
  .next (frameComplete Topic.tenderCash f (tenderCash f) s)

/-- TENDER_CARD (R72). -/
def execTenderCard (f : RxFrame) (s : State) : Host.Outcome State Fault Refusal :=
  .next (frameComplete Topic.tenderCard f (tenderCard f) s)

/-- PAY_CANCEL from CONSOLE (R77). -/
def execPayCancel (f : RxFrame) (s : State) : Host.Outcome State Fault Refusal :=
  .next (frameComplete Topic.payCancel f (payCancel f) s)

/-- SETTLE_DEFER (R84). -/
def execSettleDefer (f : RxFrame) (s : State) : Host.Outcome State Fault Refusal :=
  .next (frameComplete Topic.settleDefer f (settleDefer f) s)

/-- PAY_ACCEPTED (R74 to R76, R82). -/
def execPayAccepted (f : RxFrame) (s : State) : Host.Outcome State Fault Refusal :=
  .next (frameComplete Topic.payAccepted f (payAccepted f) s)

/-- PAY_RESULT (R80 to R82, R86). -/
def execPayResult (f : RxFrame) (s : State) : Host.Outcome State Fault Refusal :=
  .next (frameComplete Topic.payResult f (payResult f) s)

/-- PAY_REFERENCE (R83). -/
def execPayReference (f : RxFrame) (s : State) : Host.Outcome State Fault Refusal :=
  .next (frameComplete Topic.payReference f (payReference f) s)

/-- OFFER_TIMER_EXPIRY (R75). -/
def execOfferTimerExpiry (s : State) : Host.Outcome State Fault Refusal := .next (offerExpiry s)

/-- RESULT_TIMER_EXPIRY (R76). -/
def execResultTimerExpiry (s : State) : Host.Outcome State Fault Refusal := .next (resultExpiry s)

/-- CANCEL_TIMER_EXPIRY (R78). -/
def execCancelTimerExpiry (s : State) : Host.Outcome State Fault Refusal := .next (cancelExpiry s)

/-- QUERY_TIMER_EXPIRY (R79). -/
def execQueryTimerExpiry (s : State) : Host.Outcome State Fault Refusal := .next (queryExpiry s)

/-- ENTRY_QUERY_TIMER_EXPIRY (R85). -/
def execEntryQueryTimerExpiry (trip : BitVec 16) (s : State) : Host.Outcome State Fault Refusal :=
  .next (entryExpiry trip.toNat s)

end Sys2Proof.Machine
end

