-- ==== Sys2Proof/Machine/Shift.lean ====
section
/-! DEFINITION. Shift Accounts Unit (05): SHIFT_OPEN and SHIFT_CLOSE, the five stages of the closing, the journal and
summary answers. -/

namespace Sys2Proof.Machine

/-! ### SHIFT_OPEN (R55, R94, R95) -/

/-- The shift number rises by one, from 65,535 to 1. -/
def nextShift (n : Nat) : Nat := if n = Config.max16 then 1 else n + 1

/-- A SHIFT_OPEN carried out. -/
def shiftOpened (s : State) : State :=
  let s1 := s.setSau { s.sau with
    shift := .opened
    number := nextShift s.sau.number
    counters := Counters.zero
    journal := []
    reconciliation := none
    recordedCheck := s.pld.tariffCheck
    openTime := s.odu.clock
    closeTime := 0
    retainedLost := false }
  enqueueShiftState (setHeld .free (s1.setTrc { s1.trc with lastTrip := 0 }))

def shiftOpen (f : RxFrame) (s : State) : State :=
  if s.meter = .inoperative then answer Topic.shiftOpen f .refusedParams s
  else if s.sau.shift ≠ .closed then answer Topic.shiftOpen f .refusedState s
  else if !s.odu.clockSet then answer Topic.shiftOpen f .refusedClock s
  else answer Topic.shiftOpen f .done (shiftOpened s)

/-! ### The closing (R107 to R111, R113) -/

/-- The TOTALS_OFFER as it stands (R108; log 32). -/
def State.totalsFrame (s : State) : TxFrame where
  cls := clsSettle
  topic := Topic.totalsOffer
  payload := be 2 s.sau.number ++ be 3 s.sau.counters.cardApprovals
    ++ be 6 (s.sau.counters.card + s.sau.counters.cardTips)
  owner := .sau
  kind := .event

/-- The TOTALS_OFFER is enqueued; at QUEUE_FULL it waits (R108). -/
def placeTotals (s : State) : State :=
  let r := enqueue s s.totalsFrame
  r.1.setSau { r.1.sau with totalsWaits := r.2.isNone }

/-- Stage 2 lasts: the closing waits for the terminal or the timer (R108). -/
def State.stage2Lasts (s : State) : Bool :=
  s.sau.shift == .closing && s.sau.stage == 2 && s.sau.totalsTimer.isSome

def isTotalsOffer (f : TxFrame) : Bool := f.owner == .sau && f.topic == Topic.totalsOffer

/-- The end of stage 2: the timer stopped, a TOTALS_OFFER still in a mailbox aborted (R108). -/
def endStage2 (s : State) : State :=
  (s.setSau { s.sau with totalsTimer := none, totalsWaits := false }).abortWhere isTotalsOffer

/-- The reconciliation record of stage 3, from the terminal's count and sum where it answered (Table 5-5, R109). -/
def reconcile (c : Counters) (terminal : Option (Nat × Nat)) : Reconciliation :=
  let count := c.cardApprovals
  let sum := c.card + c.cardTips
  match terminal with
  | some (tc, ts) =>
    ⟨count, sum, tc, ts, if tc = count ∧ ts = sum then .matched else .mismatch, (ts : Int) - sum⟩
  | none => ⟨count, sum, 0, 0, .noAnswer, 0⟩

/-- The lifetime totalizers with the closing shift added (Table 5-8, R113). -/
def Lifetime.add (l : Lifetime) (c : Counters) : Lifetime where
  totalPulses := satAdd Config.max48 l.totalPulses c.allPulses
  hiredPulses := satAdd Config.max48 l.hiredPulses c.hiredPulses
  trips := satAdd Config.max32 l.trips c.tripsClosed
  fareTotals := satAdd Config.max56 l.fareTotals c.fareTotals
  shifts := satAdd Config.max32 l.shifts 1

/-- Stage 5 at the SAU: the close time stamped, the summary frozen, the totalizers added, the shift CLOSED (R111). -/
def Sau.freeze (x : Sau) (clock : Clock) : Sau :=
  { x with
    shift := .closed
    closeTime := clock
    stage := 0
    summary := ⟨x.number, x.openTime, clock, x.counters, x.reconciliation⟩
    lifetime := x.lifetime.add x.counters }

/-- Stages 3, 4 and 5, taken at one event (R109 to R111). DESIGN CHOICE (log 9): METER_STATE is enqueued before SHIFT_STATE. -/
def finishClosing (terminal : Option (Nat × Nat)) (s : State) : State :=
  let s2 := endStage2 s
  let s3 := s2.setSau { s2.sau with reconciliation := some (reconcile s2.sau.counters terminal) }
  let s4 := convertAll s3
  let s5 := s4.setSau (s4.sau.freeze s4.odu.clock)
  enqueueShiftState (enqueueMeterState (s5.setTrc { s5.trc with restricted := false }))

/-- Stages 1 and 2 with a TERMINAL (R107, R108). -/
def awaitTotals (s : State) : State :=
  let s1 := queryAllEntries s
  let s2 := placeTotals (s1.setSau { s1.sau with stage := 2 })
  s2.setSau { s2.sau with totalsTimer := some Config.totalsTimer }

/-- The closing from its first stage; with no TERMINAL it goes straight through (R107). -/
def runClosing (s : State) : State :=
  if s.hasTerminal then awaitTotals s else finishClosing none s

/-- The SHIFT_STATE of the change to CLOSING carries stage 1 (log 19). -/
def enterClosing (s : State) : State :=
  s.setSau { s.sau with shift := .closing, stage := 1 }

/-- A SHIFT_CLOSE carried out (R55, R64, R96). With no TERMINAL the event enqueues one METER_STATE, at stage 5. -/
def shiftClosed (s : State) : State :=
  let s1 := enterClosing s
  if s.hasTerminal then runClosing (enqueueShiftState (setHeld .offDuty s1))
  else runClosing (enqueueShiftState (updateLamp (s1.setTrc { s1.trc with held := .offDuty })))

def shiftClose (f : RxFrame) (s : State) : State :=
  if s.meter = .inoperative then answer Topic.shiftClose f .refusedParams s
  else if s.sau.shift ≠ .opened then answer Topic.shiftClose f .refusedState s
  else if s.meter ≠ .free then answer Topic.shiftClose f .refusedState s
  else answer Topic.shiftClose f .done (shiftClosed s)

/-- TERMINAL_TOTALS: while stage 2 lasts it ends it; at any other time it is ignored (R109). -/
def terminalTotals (f : RxFrame) (s : State) : State :=
  if s.stage2Lasts then finishClosing (some (field f.payload 0 3, field f.payload 3 6)) s else s

/-- The totals timer expires (R108). -/
def totalsExpiry (s : State) : State :=
  if s.running ∧ s.stage2Lasts ∧ s.sau.totalsTimer = some 0 then finishClosing none s else s

/-- A window end at the totals timer (R108). -/
def totalsTick (s : State) : State :=
  s.setSau { s.sau with totalsTimer := tick s.sau.totalsTimer }

/-- A window end at the TOTALS_OFFER that waits (R108). -/
def totalsRetry (s : State) : State :=
  if s.stage2Lasts && s.sau.totalsWaits then placeTotals s else s

/-! ### Answers (R104 to R106) -/

/-- The two kinds of answer. -/
inductive AnswerKind where
  | journal
  | summary
  deriving DecidableEq, Repr

def AnswerKind.topic : AnswerKind → Nat
  | .journal => Topic.journalPart
  | .summary => Topic.summaryPart

def Sau.answerOf (x : Sau) : AnswerKind → Option Answer
  | .journal => x.journalAnswer
  | .summary => x.summaryAnswer

def Sau.setAnswer (x : Sau) (k : AnswerKind) (a : Option Answer) : Sau :=
  match k with
  | .journal => { x with journalAnswer := a }
  | .summary => { x with summaryAnswer := a }

def isPart (k : AnswerKind) (f : TxFrame) : Bool := f.owner == .sau && f.topic == k.topic

/-- The part an answer stands at is enqueued; at QUEUE_FULL it waits (R106). -/
def placePart (k : AnswerKind) (s : State) : State :=
  match s.sau.answerOf k with
  | none => s
  | some a =>
    let r := enqueue s ⟨clsRoutine, k.topic, a.payload, .sau, .event⟩
    r.1.setSau (r.1.sau.setAnswer k (some { a with box := r.2 }))

/-- The mailbox that holds the part of a discarded answer is aborted, where one does (R106). -/
def abortPart (k : AnswerKind) (s : State) : State :=
  match (s.sau.answerOf k).bind (·.box) with
  | some i => s.setCbi (s.cbi.abortBox i (isPart k))
  | none => s

/-- A new answer takes the place of any in progress, and its first part is enqueued. -/
def startAnswer (k : AnswerKind) (number : Nat) (bytes : List Byte) (s : State) : State :=
  let s1 := abortPart k s
  placePart k (s1.setSau (s1.sau.setAnswer k (some ⟨number, bytes, 1, none⟩)))

/-- A window end at an answer whose part waits (R106). -/
def partRetry (k : AnswerKind) (s : State) : State :=
  if (s.sau.answerOf k).any (·.box == none) then placePart k s else s

/-- The outcome of a mailbox moves the answer whose part it held (R106). -/
def partOutcome (k : AnswerKind) (box : Nat) (o : BoxOutcome) (s : State) : State :=
  match s.sau.answerOf k with
  | none => s
  | some a =>
    if a.box = some box then
      match o with
      | .sent =>
        if a.part < partCount a.bytes then
          placePart k (s.setSau (s.sau.setAnswer k (some { a with part := a.part + 1, box := none })))
        else s.setSau (s.sau.setAnswer k none)
      | .failed => s.setSau (s.sau.setAnswer k none)
      | .aborted => s
    else s

/-- JOURNAL_READ at the SAU: index 0 is the newest record (R104). -/
def journalRead (f : RxFrame) (s : State) : State :=
  match s.sau.journal.reverse[field f.payload 0 1]? with
  | none => answer Topic.journalRead f .refusedAbsent s
  | some r => startAnswer .journal r.trip r.bytes (answer Topic.journalRead f .done s)

/-- The figures a SUMMARY_READ copies (R105). -/
def Sau.liveSummary (x : Sau) : Summary :=
  if x.shift = .closed then x.summary else ⟨x.number, x.openTime, 0, x.counters, x.reconciliation⟩

/-- SUMMARY_READ at the SAU (R105). -/
def summaryRead (f : RxFrame) (s : State) : State :=
  let x := s.sau.liveSummary
  startAnswer .summary x.number (summaryBytes x s.sau.lifetime) (answer Topic.summaryRead f .done s)

/-- A window end while SHIFT_STATE is owed (R114). -/
def windowShiftState (s : State) : State := if s.sau.owed then enqueueShiftState s else s

/-! ### The commands -/

/-- SHIFT_OPEN (R95). -/
def execShiftOpen (f : RxFrame) (s : State) : Host.Outcome State Fault Refusal :=
  .next (frameComplete Topic.shiftOpen f (shiftOpen f) s)

/-- SHIFT_CLOSE (R96). -/
def execShiftClose (f : RxFrame) (s : State) : Host.Outcome State Fault Refusal :=
  .next (frameComplete Topic.shiftClose f (shiftClose f) s)

/-- TERMINAL_TOTALS (R109). -/
def execTerminalTotals (f : RxFrame) (s : State) : Host.Outcome State Fault Refusal :=
  .next (frameComplete Topic.terminalTotals f (terminalTotals f) s)

/-- TOTALS_TIMER_EXPIRY (R108). -/
def execTotalsTimerExpiry (s : State) : Host.Outcome State Fault Refusal := .next (totalsExpiry s)

/-- JOURNAL_READ (R104). -/
def execJournalRead (f : RxFrame) (s : State) : Host.Outcome State Fault Refusal :=
  .next (frameComplete Topic.journalRead f (journalRead f) s)

/-- SUMMARY_READ (R105). -/
def execSummaryRead (f : RxFrame) (s : State) : Host.Outcome State Fault Refusal :=
  .next (frameComplete Topic.summaryRead f (summaryRead f) s)

end Sys2Proof.Machine
end

