-- ==== Sys2Proof/Machine/Alarm.lean ====
section
/-! DEFINITION. Alarm Unit (08): the switch, entry into ACTIVE, the notice and its repeats, acknowledgement and clearing. -/

namespace Sys2Proof.Machine

/-! ### The notice (R162) -/

/-- The ALARM_NOTICE as it stands. -/
def State.noticeFrame (s : State) : TxFrame where
  cls := clsAlarm
  topic := Topic.alarmNotice
  payload := be 2 ((s.trc.record.map (·.trip)).getD 0) ++ [codeByte s.meter.code]
    ++ be 3 (if s.trc.record.isSome then s.fen.record.total else 0)
    ++ be 4 s.odu.clock.toNat ++ [yesByte s.odu.clockSet]
  owner := .alm
  kind := .state

/-- The ALM places a notice; a busy mailbox 0 leaves it owed. -/
def placeNotice (s : State) : State :=
  let r := enqueue s s.noticeFrame
  if r.2.isSome then r.1 else r.1.setAlm { r.1.alm with noticeOwed := true }

/-- An outcome of mailbox 0 with a notice owed. -/
def noticeOutcome (s : State) : State :=
  if s.alm.noticeOwed then
    let s1 := s.setAlm { s.alm with noticeOwed := false }
    if s1.alm.state = .active then placeNotice s1 else s1
  else s

/-! ### The switch and the repeat timer at a window end (R160, R163) -/

/-- The switch as a window end finds it; not read with an INVALID image. -/
def switchSample (closed : Bool) (s : State) : State :=
  if s.pld.image = .invalid then s
  else
    s.setAlm { s.alm with
      holdCount := if s.alm.state = .clear ∧ closed then s.alm.holdCount + 1 else 0 }

def repeatTick (s : State) : State :=
  if s.alm.state = .active ∧ !s.alm.acknowledged then
    s.setAlm { s.alm with repeatTimer := tick s.alm.repeatTimer }
  else s

/-! ### Entry, repeat, acknowledgement, clearing (R161, R163 to R165) -/

/-- The lamp test ends, and with it the FREE lamp's bar (R128). -/
def endLampTest (s : State) : State := updateLamp (s.setRsd { s.rsd with lampTest := none })

/-- The alarm enters ACTIVE, and the entry is handed to the blocks that act on it. -/
def alarmEntered (s : State) : State :=
  let s1 := wake (s.setAlm { s.alm with
    state := .active
    acknowledged := false
    holdCount := 0
    repeatTimer := some Config.repeatTimer })
  audioAlarmEntry (endLampTest (report Counters.addAlarm (markAlarm (placeNotice s1))))

/-- The entry is due: eight closed window ends in a row with the alarm CLEAR. -/
def State.alarmDue (s : State) : Bool :=
  s.running && s.alm.state == .clear && Config.holdWindows ≤ s.alm.holdCount

def alarmEntry (s : State) : State := if s.alarmDue then alarmEntered s else s

/-- The repeat timer has reached 0. -/
def State.repeatDue (s : State) : Bool :=
  s.running && s.alm.state == .active && !s.alm.acknowledged && s.alm.repeatTimer == some 0

def repeatExpiry (s : State) : State :=
  if s.repeatDue then
    let s1 := placeNotice s
    s1.setAlm { s1.alm with repeatTimer := some Config.repeatTimer }
  else s

/-- ALARM_ACK at the ALM (R164). -/
def alarmAck (f : RxFrame) (s : State) : State :=
  if s.alm.state = .clear then answer Topic.alarmAck f .refusedState s
  else
    answer Topic.alarmAck f .done
      (s.setAlm { s.alm with acknowledged := true, repeatTimer := none })

def isNotice (f : TxFrame) : Bool := f.owner == .alm && f.topic == Topic.alarmNotice

/-- An ALARM_CLEAR carried out. -/
def alarmCleared (s : State) : State :=
  let s1 := s.setAlm { s.alm with state := .clear, repeatTimer := none, noticeOwed := false }
  audioAlarmCleared (s1.abortWhere isNotice)

/-- ALARM_CLEAR at the ALM (R165). -/
def alarmClear (f : RxFrame) (s : State) : State :=
  if s.alm.state = .clear then answer Topic.alarmClear f .refusedState s
  else answer Topic.alarmClear f .done (alarmCleared s)

/-! ### The commands -/

/-- ALARM_ENTRY (R161). -/
def execAlarmEntry (s : State) : Host.Outcome State Fault Refusal := .next (alarmEntry s)

/-- REPEAT_TIMER_EXPIRY (R163). -/
def execRepeatTimerExpiry (s : State) : Host.Outcome State Fault Refusal := .next (repeatExpiry s)

/-- ALARM_ACK (R164). -/
def execAlarmAck (f : RxFrame) (s : State) : Host.Outcome State Fault Refusal :=
  .next (frameComplete Topic.alarmAck f (alarmAck f) s)

/-- ALARM_CLEAR (R165). -/
def execAlarmClear (f : RxFrame) (s : State) : Host.Outcome State Fault Refusal :=
  .next (frameComplete Topic.alarmClear f (alarmClear f) s)

end Sys2Proof.Machine
end

