-- ==== Sys2Proof/Machine/Sign.lean ====
section
/-! DEFINITION. Roof Sign Driver (06): the refresh pass, the scroll step, the lamp test, marquee writes. -/

namespace Sys2Proof.Machine

/-! ### The refresh pass (R120 to R125) -/

/-- The legend choice of a pass (Table 6-3). -/
def State.legendSource (s : State) : LegendSource :=
  if s.alm.state = .active then .alarm
  else if s.rsd.lampTest.isSome then .lampTest
  else if s.cbi.dormant ∨ s.meter = .inoperative then .dark
  else .meter s.meter

def LegendMap.entry (m : LegendMap) : MeterState → LegendEntry
  | .inoperative => m.inoperative
  | .offDuty => m.offDuty
  | .free => m.free
  | .booked => m.booked
  | .hired => m.hired
  | .stopped => m.stopped
  | .settling => m.settling

/-- A page by its number. -/
def Rsd.page (x : Rsd) (i : Nat) : List Nat :=
  if i = 3 then x.marquee else x.legendPages.getD i blankPage

/-- The page of the lamp test: every pixel at level 15 (Table 6-3). -/
def lampTestPage : List Nat := List.replicate Config.pixels 15

/-- What a source shows: a page, or none for DARK, with mode and level. -/
def Rsd.legend (x : Rsd) (src : LegendSource) : Option (List Nat) × LegendMode × Nat :=
  match src with
  | .alarm => (x.map.alarm.page.map x.page, x.map.alarm.mode, x.map.alarm.level)
  | .lampTest => (some lampTestPage, .steady, 255)
  | .dark => (none, .steady, 0)
  | .meter m => ((x.map.entry m).page.map x.page, (x.map.entry m).mode, (x.map.entry m).level)

/-- The effective level of a legend level at an ambient level (R122). DESIGN CHOICE (log 46): a level of 1 to 7 is raised to 8
at ambient level 15 too, where R122 also says that with no GATEWAY the effective level is L. -/
def effectiveLevel (level ambient : Nat) : Nat :=
  if level = 0 then 0 else max 8 (level * (ambient + 1) / 16)

/-- A face column: the 12 pixels of a page column, top to bottom, as intensities (R122, R123). -/
def faceColumn (page : List Nat) (eff column : Nat) : List Nat :=
  (List.range Config.rows).map fun r => page.getD (r * Config.columns + column) 0 * eff

/-- The page column that face column k shows (R123). -/
def pageColumn (mode : LegendMode) (scroll k : Nat) : Nat :=
  if mode = .scroll then (k + scroll) % Config.columns else k

/-- The order in which face B's columns are sent (R123). -/
def faceBOrder (mirror : Bool) : List Nat :=
  if mirror then (List.range Config.columns).reverse else List.range Config.columns

/-- The 1,920 intensities of a pass (R123). -/
def chainOf (page : List Nat) (eff scroll : Nat) (mode : LegendMode) (mirror : Bool) : List Nat :=
  let face := fun order : List Nat => order.flatMap fun k => faceColumn page eff (pageColumn mode scroll k)
  face (List.range Config.columns) ++ face (faceBOrder mirror)

/-- A pass is dark under DARK and in the dark half of a BLINK (R122, R124). -/
def shown (mode : LegendMode) (blink : Nat) : Bool := mode != .blink || blink < Config.blinkShown

/-- A change of source resets scroll and blink, and is recorded (R121). -/
def Rsd.choose (x : Rsd) (src : LegendSource) : Rsd :=
  if x.chosen = some src then x
  else { x with chosen := some src, scrollColumn := 0, scrollCount := 0, blink := 0 }

/-- A pass formed and sent; then the blink phase and, in SCROLL, the pass count rise (R123 to R125). -/
def Rsd.pass (x0 : Rsd) (src : LegendSource) (ambient : Nat) : Rsd :=
  let x := x0.choose src
  let (page, mode, level) := x.legend src
  { x with
    chain :=
      match page with
      | some p =>
        if shown mode x.blink then chainOf p (effectiveLevel level ambient) x.scrollColumn mode x.mirror
        else darkChain
      | none => darkChain
    blink := if x.blink + 1 < Config.blinkPasses then x.blink + 1 else 0
    scrollCount := if mode = .scroll then x.scrollCount + 1 else x.scrollCount }

/-- The pass count has reached S: it returns to 0 and the scroll column rises by one (R125). -/
def scrollStep (s : State) : State :=
  if s.running && s.rsd.scrollCount == s.rsd.scrollStep then
    s.setRsd { s.rsd with
      scrollCount := 0
      scrollColumn := if s.rsd.scrollColumn + 1 < Config.columns then s.rsd.scrollColumn + 1 else 0 }
  else s

/-- A refresh pass; a scroll step that is due is taken first (log 5). -/
def refreshPass (s0 : State) : State :=
  if s0.running then
    let s := scrollStep s0
    s.setRsd (s.rsd.pass s.legendSource s.odu.report.ambient)
  else s0

/-! ### Lamp test (R127, R128) -/

/-- A SIGN_TEST carried out. -/
def lampTestStarted (s : State) : State :=
  updateLamp (s.setRsd { s.rsd with lampTest := some Config.lampTestTimer })

def signTest (f : RxFrame) (s : State) : State :=
  if s.alm.state = .active then answer Topic.signTest f .refusedAlarm s
  else if s.meter ≠ .offDuty then answer Topic.signTest f .refusedState s
  else answer Topic.signTest f .done (lampTestStarted s)

/-- A window end at the lamp test. -/
def lampTestTick (s : State) : State := s.setRsd { s.rsd with lampTest := tick s.rsd.lampTest }

/-- The lamp test's timer has reached 0. -/
def lampTestEnd (s : State) : State :=
  if s.running && s.rsd.lampTest == some 0 then endLampTest s else s

/-! ### Marquee writes (R129 to R134) -/

/-- What the next byte of a chain is: a control byte; one pixel byte or pixel bytes to the end; the column or row of one
pointer unit, or of pointer units to the end. -/
inductive ChainMode where
  | control
  | onePixel
  | pixels
  | oneColumn
  | oneRow (column : Nat)
  | columns
  | rows (column : Nat)
  deriving DecidableEq, Repr

/-- A chain being read: the next byte's meaning, the writer's pointer, the marquee page. -/
structure Chain where
  mode : ChainMode
  column : Nat
  row : Nat
  page : List Nat
  deriving DecidableEq, Repr

/-- A control byte: continuation in bit 7, kind in bit 6 (R130, 11). -/
def controlMode (b : Byte) : ChainMode :=
  match b.getLsbD 7, b.getLsbD 6 with
  | true, false => .onePixel
  | true, true => .oneColumn
  | false, false => .pixels
  | false, true => .columns

/-- One pixel written at the pointer, which advances (R131). -/
def Chain.pixel (c : Chain) (level : Nat) : Chain :=
  let wrap := c.column + 1 = Config.columns
  { c with
    page := c.page.set (c.row * Config.columns + c.column) level
    column := if wrap then 0 else c.column + 1
    row := if wrap then (if c.row + 1 = Config.rows then 0 else c.row + 1) else c.row }

/-- A pixel byte: two levels, the high half first (R131). -/
def Chain.pixelByte (c : Chain) (b : Byte) : Chain := (c.pixel (b.toNat / 16)).pixel (b.toNat % 16)

/-- Column and row bytes are clamped (R132). -/
def clampColumn (b : Byte) : Nat := min b.toNat 79
def clampRow (b : Byte) : Nat := min b.toNat 11

/-- One byte of a chain (R130 to R133). -/
def Chain.byte (c : Chain) (b : Byte) : Chain :=
  match c.mode with
  | .control => { c with mode := controlMode b }
  | .onePixel => { c.pixelByte b with mode := .control }
  | .pixels => c.pixelByte b
  | .oneColumn => { c with mode := .oneRow (clampColumn b) }
  | .oneRow column => { c with mode := .control, column := column, row := clampRow b }
  | .columns => { c with mode := .rows (clampColumn b) }
  | .rows column => { c with mode := .columns, column := column, row := clampRow b }

/-- Where a frame begins to read (R133). -/
def PointerOpen.start : PointerOpen → ChainMode
  | .closed => .control
  | .awaitingColumn => .oneColumn
  | .awaitingRow column => .oneRow column

/-- How a frame's end leaves the pointer (R133, log 20). -/
def ChainMode.stop : ChainMode → PointerOpen
  | .oneColumn => .awaitingColumn
  | .oneRow column | .rows column => .awaitingRow column
  | .control | .onePixel | .pixels | .columns => .closed

/-- A payload read with a pointer: the pointer and the marquee after it. -/
def readChain (p : WritePointer) (page : List Nat) (payload : List Byte) : WritePointer × List Nat :=
  let c := payload.foldl Chain.byte ⟨p.state.start, p.column, p.row, page⟩
  (⟨c.column, c.row, c.mode.stop⟩, c.page)

/-- A writer is the console where the source is its number, and dispatch otherwise (R129). -/
def State.fromConsole (s : State) (f : RxFrame) : Bool := s.pld.peers.any (·.console == f.src.toNat)

/-- SIGN_WRITE at the RSD (R129). -/
def signWrite (f : RxFrame) (s : State) : State :=
  let s1 :=
    if s.fromConsole f then
      let r := readChain s.rsd.console s.rsd.marquee f.payload
      s.setRsd { s.rsd with console := r.1, marquee := r.2 }
    else
      let r := readChain s.rsd.dispatch s.rsd.marquee f.payload
      s.setRsd { s.rsd with dispatch := r.1, marquee := r.2 }
  answer Topic.signWrite f .done s1

/-! ### The commands -/

/-- SIGN_TEST (R127). -/
def execSignTest (f : RxFrame) (s : State) : Host.Outcome State Fault Refusal :=
  .next (frameComplete Topic.signTest f (signTest f) s)

/-- LAMP_TEST_END (R128). -/
def execLampTestEnd (s : State) : Host.Outcome State Fault Refusal := .next (lampTestEnd s)

/-- SIGN_WRITE (R129 to R133). -/
def execSignWrite (f : RxFrame) (s : State) : Host.Outcome State Fault Refusal :=
  .next (frameComplete Topic.signWrite f (signWrite f) s)

/-- REFRESH_PASS (R120). -/
def execRefreshPass (s : State) : Host.Outcome State Fault Refusal := .next (refreshPass s)

/-- SCROLL_STEP (R125). -/
def execScrollStep (s : State) : Host.Outcome State Fault Refusal := .next (scrollStep s)

end Sys2Proof.Machine
end

