-- ==== Sys2Proof/Machine/Odometry.lean ====
section
/-! DEFINITION. Odometry Unit (01): the sensor lines, decoding, the closing of a window, the second end, the cab clock, the
vehicle report. -/

namespace Sys2Proof.Machine

/-! ### Pulses (R2 to R5) -/

/-- One pulse acts on the reverse debt and the window counters (R4, R5). -/
def Odu.pulse (o : Odu) (forward : Bool) : Odu :=
  if forward then
    if o.debt = 0 then
      { o with
        forward := satAdd Config.max16 o.forward 1
        chargeable := satAdd Config.max16 o.chargeable 1 }
    else { o with debt := o.debt - 1, forward := satAdd Config.max16 o.forward 1 }
  else { o with debt := min (o.debt + 1) Config.maxDebt, reverse := satAdd Config.max16 o.reverse 1 }

/-- An edge of A decoded: in SINGLE a rising edge is a forward pulse (R2); in QUADRATURE the direction is that of
Table 1-2 (R3). -/
def Odu.edgeA (o : Odu) (mode : SensorMode) (rising : Bool) : Odu :=
  match mode with
  | .single => if rising then o.pulse true else o
  | .quadrature => o.pulse (rising != o.lineB.settled)

def Odu.line (o : Odu) : WheelLine → WheelInput
  | .a => o.lineA
  | .b => o.lineB

def Odu.setLine (o : Odu) (l : WheelLine) (w : WheelInput) : Odu :=
  match l with
  | .a => { o with lineA := w }
  | .b => { o with lineB := w }

/-- The settled level of a line becomes the other level, and the line issues its edge (R1); edges of B are no pulses. -/
def Odu.settleLine (o : Odu) (l : WheelLine) (mode : SensorMode) : Odu :=
  let w := o.line l
  let o1 := o.setLine l { w with settled := !w.settled, change := false }
  match l with
  | .a => o1.edgeA mode (!w.settled)
  | .b => o1

/-- The input level of a line as the filter takes it (R1). -/
def Odu.filterInput (o : Odu) (l : WheelLine) (level : Bool) (x : SensorSettings) : Odu :=
  let o1 := o.setLine l { o.line l with input := level }
  let changed := level != (o.line l).settled
  if x.filter = .off then if changed then o1.settleLine l x.mode else o1
  else o1.setLine l { o1.line l with change := changed }

/-- The input level of a line changes. With no settings loaded, or no main supply, only the pin moves (log 21). -/
def wheelInput (l : WheelLine) (level : Bool) (s : State) : State :=
  match s.odu.settings with
  | some x =>
    if s.running then s.setOdu (s.odu.filterInput l level x)
    else s.setOdu (s.odu.setLine l { s.odu.line l with input := level })
  | none => s.setOdu (s.odu.setLine l { s.odu.line l with input := level })

/-- A pending change has held for the filter width (R1). -/
def filterElapsed (l : WheelLine) (s : State) : State :=
  match s.odu.settings with
  | some x =>
    if s.running && (s.odu.line l).change then s.setOdu (s.odu.settleLine l x.mode) else s
  | none => s

/-! ### Closing a window (R6 to R8, R11 to R13) -/

/-- The sum of the window's forward and reverse pulses. -/
def Odu.total (o : Odu) : Nat := o.forward + o.reverse

def Odu.nmax (o : Odu) : Nat := (o.settings.map (·.nmax)).getD 0

/-- The window is IMPLAUSIBLE (R6). -/
def Odu.implausible (o : Odu) : Bool := o.nmax < o.total

/-- The chargeable pulses passed on, and the discarded ones (R6). -/
def Odu.passedOn (o : Odu) : Nat := if o.implausible then min o.chargeable o.nmax else o.chargeable
def Odu.cutOff (o : Odu) : Nat := if o.implausible then o.chargeable - o.nmax else 0

/-- Speed from the sum of the four totals (R7). -/
def speedOf (sum k : Nat) : Nat := min (sum * 36000 / k) Config.maxSpeed

/-- The motion state from the speed (R8). -/
def Motion.next (m : Motion) (speed : Nat) : Motion :=
  match m with
  | .standing => if Config.movingFrom ≤ speed then .moving else .standing
  | .moving => if speed < Config.standingBelow then .standing else .moving

/-- Loss-evidence and good windows (R11). -/
def Odu.lossEvidence (o : Odu) (gateway : Bool) : Bool := gateway && o.report.moving && o.total == 0
def Odu.good (o : Odu) (gateway : Bool) : Bool :=
  !o.implausible && 1 ≤ o.total && (!gateway || o.report.moving)

/-- A run count: up by one to its bound, or 0 (R11). -/
def runNext (evidence : Bool) (run top : Nat) : Nat := if evidence then min (run + 1) top else 0

/-- The sensor state after the runs (Table 1-5, R12). -/
def SensorState.next (x : SensorState) (implausible : Bool) (implausibleRun lossRun recoveryRun : Nat) :
    SensorState :=
  if lossRun = Config.lossRunMax then .lost
  else
    match x with
    | .ok => if implausible then .suspect else .ok
    | .suspect =>
      if implausibleRun = Config.implausibleRunMax then .fault else if implausible then .suspect else .ok
    | .fault => if recoveryRun = Config.recoveryRunMax then .ok else .fault
    | .lost => if recoveryRun = Config.recoveryRunMax then .ok else .lost

/-- The ODU after the closing operation, and the window record it issues. -/
def Odu.close (o : Odu) (gateway : Bool) : Odu × WindowRecord :=
  let history := o.history.drop 1 ++ [o.total]
  let speed := speedOf history.sum o.k
  let motion := o.motion.next speed
  let implausibleRun := runNext o.implausible o.implausibleRun Config.implausibleRunMax
  let lossRun := runNext (o.lossEvidence gateway) o.lossRun Config.lossRunMax
  let recoveryRun := runNext (o.good gateway) o.recoveryRun Config.recoveryRunMax
  let sensor := o.sensor.next o.implausible implausibleRun lossRun recoveryRun
  ({ o with
      history := history
      speed := speed
      motion := motion
      implausibleRun := implausibleRun
      lossRun := lossRun
      recoveryRun := recoveryRun
      sensor := sensor
      sequence := o.sequence + 1
      forward := 0
      reverse := 0
      chargeable := 0
      phase := o.phase + 1 },
    ⟨o.sequence + 1, o.forward, o.reverse, o.passedOn, o.cutOff, sensor, motion, speed⟩)

/-! ### Time (R9, R14, R15) -/

/-- The fourth window end is also a second end: it is due at phase 4 (log 5). -/
def secondEnd (s : State) : State :=
  if s.running && s.odu.phase == Config.windowsPerSecond then
    s.setOdu { s.odu with phase := 0, clock := s.odu.clock + 1 }
  else s

/-- The seconds counter of the retained section advances the clock while the time base does not: in a power gap with
the backup supply held, and during the image read (R14, R188, R193). -/
def State.retainedCounts (s : State) : Bool :=
  if s.supply.main then s.pld.phase == .reading else !s.rtm.latch

def retainedTick (s : State) : State :=
  if s.retainedCounts then s.setOdu { s.odu with clock := s.odu.clock + 1 } else s

/-- CLOCK_SET at the ODU (R15). -/
def clockSet (f : RxFrame) (s : State) : State :=
  answer Topic.clockSet f .done
    (s.setOdu { s.odu with clock := BitVec.ofNat 32 (field f.payload 0 4), clockSet := true })

/-- VEHICLE_STATE at the ODU (R10). -/
def vehicleState (f : RxFrame) (s : State) : State :=
  s.setOdu { s.odu with
    report := ⟨yes f.payload 0, yes f.payload 1, yes f.payload 2, min (field f.payload 3 1) 15⟩ }

/-! ### The commands -/

/-- WHEEL_INPUT_CHANGE (R1). -/
def execWheelInputChange (l : WheelLine) (level : Bool) (s : State) : Host.Outcome State Fault Refusal :=
  .next (wheelInput l level s)

/-- FILTER_WIDTH_ELAPSED (R1). -/
def execFilterWidthElapsed (l : WheelLine) (s : State) : Host.Outcome State Fault Refusal :=
  .next (filterElapsed l s)

/-- SECOND_END (R14). -/
def execSecondEnd (s : State) : Host.Outcome State Fault Refusal := .next (secondEnd s)

/-- RETAINED_SECONDS_TICK (R14). -/
def execRetainedSecondsTick (s : State) : Host.Outcome State Fault Refusal := .next (retainedTick s)

/-- CLOCK_SET (R15). -/
def execClockSet (f : RxFrame) (s : State) : Host.Outcome State Fault Refusal :=
  .next (frameComplete Topic.clockSet f (clockSet f) s)

/-- VEHICLE_STATE (R10). -/
def execVehicleState (f : RxFrame) (s : State) : Host.Outcome State Fault Refusal :=
  .next (frameComplete Topic.vehicleState f (vehicleState f) s)

end Sys2Proof.Machine
end

