-- ==== Sys2Proof/Machine/Bus.lean ====
section
/-! DEFINITION. Cab Bus Interface (09): transmit attempts and their ends, the outcomes of mailboxes, standing and OFFLINE,
STATUS_READ, the listen phase, dormancy, and frames of any topic. -/

namespace Sys2Proof.Machine

/-! ### Outcomes at the owners (R38, R65, R74, R106, R114, R154, R162, R179) -/

/-- A frame of the SAU ends: a SHIFT_STATE that failed is owed; a part moves its answer; a TOTALS_OFFER changes
nothing. -/
def sauOutcome (box : Nat) (f : TxFrame) (o : BoxOutcome) (s : State) : State :=
  if f.topic = Topic.shiftState then
    if o = .failed then s.setSau { s.sau with owed := true } else s
  else if f.topic = Topic.journalPart then partOutcome .journal box o s
  else if f.topic = Topic.summaryPart then partOutcome .summary box o s
  else s

/-- The outcome of a mailbox, reported to the owner of its frame. -/
def mailboxOutcome (box : Nat) (f : TxFrame) (o : BoxOutcome) (s : State) : State :=
  match f.owner with
  | .fen => if o = .failed then s.setFen { s.fen with owed := true } else s
  | .trc => if o = .failed then s.setTrc { s.trc with owed := true } else s
  | .cau => if o = .failed then s.setCau { s.cau with owed := true } else s
  | .sau => sauOutcome box f o s
  | .stu => if f.topic = Topic.payRequest then payRequestOutcome f.payload o s else s
  | .alm => noticeOutcome s
  | .odu | .rsd | .cbi => s

/-! ### Standing (R171) -/

/-- The standing a fault counter gives. -/
def standingOf (counter : Nat) : Standing :=
  if counter < Config.limitedFrom then .normal
  else if counter < Config.faultMax then .limited
  else .offline

/-- Whether the standing lets a mailbox of a class be offered. -/
def Standing.allows (x : Standing) (cls : Nat) : Bool :=
  match x with
  | .normal => true
  | .limited => cls ≤ clsSettle
  | .offline | .silenced => false

/-! ### Selection and the attempt (R170, R175) -/

def State.ownNumber (s : State) : Nat := (s.pld.peers.map (·.own)).getD 0

/-- Whether one mailbox is offered before another: the lower header, then the older. -/
def Mailbox.before (own : Nat) (a b : Mailbox) : Bool :=
  let ha := headerOf a.frame.cls a.frame.topic own
  let hb := headerOf b.frame.cls b.frame.topic own
  ha < hb || (ha == hb && a.age < b.age)

/-- A mailbox may be offered. -/
def Cbi.offers (c : Cbi) (i : Nat) : Bool :=
  (c.box i).state == .pending && c.standing.allows (c.box i).frame.cls

/-- The better of the mailbox chosen so far and one more. -/
def Cbi.better (c : Cbi) (own : Nat) (best : Option Nat) (i : Nat) : Option Nat :=
  if c.offers i then
    match best with
    | some j => if (c.box i).before own (c.box j) then some i else some j
    | none => some i
  else best

/-- The mailbox selected for the next attempt. -/
def Cbi.select (c : Cbi) (own : Nat) : Option Nat := (List.range 8).foldl (c.better own) none

/-- An attempt may begin: the line idle, the listen phase ended, the part AWAKE, none under way. -/
def State.mayTransmit (s : State) : Bool :=
  s.busOn && !s.cbi.dormant && s.cbi.idleCount == Config.idleBits && !s.cbi.inFrame
    && s.cbi.inFlight.isNone && s.cbi.listen.isNone

/-- An attempt begins with mailbox `i`: it becomes SENDING, its coded frame is fixed, and its start mark sets the dormancy
timer to 0 (R170, R175, R183). DESIGN CHOICE (log 30): `ackDriven` keeps what the last slot that passed gave. -/
def beginAttempt (i : Nat) (s : State) : State :=
  let m := s.cbi.box i
  let c := s.cbi.setBox i { m with state := .sending }
  s.setCbi { c with
    inFlight := some i
    line := frameBits (headerOf m.frame.cls m.frame.topic s.ownNumber) m.frame.payload
    idleCount := 0
    dormancyTimer := 0 }

def transmitAttempt (s : State) : State :=
  if s.mayTransmit then
    match s.cbi.select s.ownNumber with
    | some i => beginAttempt i s
    | none => s
  else s

/-! ### The end of an attempt (R171, R172, R176, R182) -/

/-- The receive state after an attempt. -/
def Cbi.attemptOver (c : Cbi) (idle : Nat) (inFrame : Bool) : Cbi :=
  { c with inFlight := none, line := [], idleCount := idle, inFrame := inFrame }

/-- The counter takes a new value, and the standing with it (R171). -/
def Cbi.setCounter (c : Cbi) (n : Nat) : Cbi := { c with faultCounter := n, standing := standingOf n }

/-- A newer mailbox of the frame's state topic is PENDING. -/
def Cbi.superseded (c : Cbi) (f : TxFrame) : Bool := f.kind == .state && (c.pendingOf f.topic).isSome

/-- A mailbox of an attempt that did not succeed, and whether ABORTED is reported: ABORTING is emptied; SENDING goes back
to PENDING, or is emptied where a newer mailbox of its state topic is PENDING (R176). -/
def Cbi.unsent (c : Cbi) (i : Nat) : Cbi × Bool :=
  let m := c.box i
  match m.state with
  | .aborting => (c.setBox i Mailbox.empty, true)
  | .sending =>
    if c.superseded m.frame then (c.setBox i Mailbox.empty, true)
    else (c.setBox i { m with state := .pending }, false)
  | .empty | .pending => (c, false)

/-- In SILENCED an attempt ends without counter or outcome: SENDING back to PENDING, ABORTING stays (R182). Where a newer
mailbox of its state topic is PENDING, the SENDING one is emptied, as R176 has it (log 33). -/
def Cbi.quietEnd (c : Cbi) (i : Nat) : Cbi :=
  let m := c.box i
  if m.state = .sending then
    c.setBox i (if c.superseded m.frame then Mailbox.empty else { m with state := .pending })
  else c

/-- The attempt of mailbox `i` succeeded. -/
def sentOne (i : Nat) (s : State) : State :=
  let m := s.cbi.box i
  let c := (s.cbi.attemptOver Config.endMarkBits false).setBox i Mailbox.empty
  mailboxOutcome i m.frame .sent
    (s.setCbi { c.setCounter (c.faultCounter - 1) with ackDriven := false })

/-- Outcomes reported one after the other. -/
def reportAll (l : List (Nat × TxFrame × BoxOutcome)) (s : State) : State :=
  l.foldl (fun t x => mailboxOutcome x.1 x.2.1 x.2.2 t) s

/-- The mailboxes 1 to 7 that hold a frame. -/
def Cbi.filled (c : Cbi) : List Nat := routineBoxes.filter fun i => (c.box i).state != .empty

/-- OFFLINE is entered: mailboxes 1 to 7 are emptied, and FAILED is reported for each (R172). DESIGN CHOICE (log 45): all are
emptied first, and the outcomes come from mailbox 1 to 7. -/
def enterOffline (s : State) : State :=
  let failed := s.cbi.filled.map fun i => (i, (s.cbi.box i).frame, BoxOutcome.failed)
  let c := s.cbi.filled.foldl (fun c i => c.setBox i Mailbox.empty) s.cbi
  reportAll failed (s.setCbi { c with idleGaps := 0 })

/-- The attempt of mailbox `i` failed. -/
def failedOne (i : Nat) (fault : TransmitFault) (s : State) : State :=
  let m := s.cbi.box i
  let c0 := s.cbi.attemptOver 0 false
  let c1 := c0.setCounter (satAdd Config.faultMax c0.faultCounter Config.faultRise)
  let c2 : Cbi := { c1 with ackDriven := c1.ackDriven && fault != .noAck }
  if c2.standing = .offline ∧ m.state = .sending then
    enterOffline (s.setCbi (c2.setBox i { m with state := .pending }))
  else
    let r := c2.unsent i
    let s1 := s.setCbi r.1
    let s2 := if s1.cbi.standing = .offline then enterOffline s1 else s1
    if r.2 then mailboxOutcome i m.frame .aborted s2 else s2

/-- The attempt of mailbox `i` lost arbitration; the part receives the rest of the frame (R170, R176). -/
def lostOne (i : Nat) (s : State) : State :=
  let m := s.cbi.box i
  let r := (s.cbi.attemptOver 0 true).unsent i
  let s1 := s.setCbi r.1
  if r.2 then mailboxOutcome i m.frame .aborted s1 else s1

/-- The attempt under way ends: quietly in SILENCED, else as given. -/
def endAttemptWith (act : Nat → State → State) (idle : Nat) (inFrame : Bool) (s : State) : State :=
  match s.cbi.inFlight with
  | none => s
  | some i =>
    if !s.busOn then s
    else if s.cbi.standing = .silenced then s.setCbi ((s.cbi.attemptOver idle inFrame).quietEnd i)
    else act i s

def attemptSucceeded (s : State) : State := endAttemptWith sentOne Config.endMarkBits false s
def attemptFailed (fault : TransmitFault) (s : State) : State := endAttemptWith (failedOne · fault) 0 false s
def arbitrationLost (s : State) : State := endAttemptWith lostOne 0 true s

/-! ### STATUS_READ (R180) -/

/-- The STATUS_ANSWER of a page (Table 11-2). -/
def State.statusPage (s : State) (page : Nat) : List Byte :=
  if page = 0 then
    [codeByte 0, codeByte s.meter.code, codeByte s.trc.reason.code, codeByte s.sau.shift.code,
      codeByte s.odu.sensor.code, codeByte s.odu.motion.code, codeByte s.cbi.standing.code]
      ++ be 2 s.cbi.faultCounter
      ++ [codeByte s.stu.unsettled.length, codeByte s.pld.image.code,
        statusFlags s.trc.restricted (s.alm.state == .active) s.alm.acknowledged s.sau.retainedLost]
  else if page = 1 then
    [codeByte 1] ++ be 2 s.cbi.receiveFaults ++ be 2 s.cbi.droppedAnswers ++ be 2 s.cbi.faultCounter
      ++ [codeByte s.cbi.standing.code, codeByte s.cbi.idleGaps] ++ be 2 s.odu.speed
  else
    [codeByte 2] ++ be 2 s.cau.frontMic.level ++ be 2 s.cau.rearMic.level ++ be 2 s.cau.radio.level

def State.statusFrame (s : State) (page : Nat) : TxFrame :=
  ⟨clsControl, Topic.statusAnswer, s.statusPage page, .cbi, .event⟩

def statusRead (f : RxFrame) (s : State) : State :=
  let page := field f.payload 0 1
  if 2 < page then answer Topic.statusRead f .refusedFormat s
  else
    let s1 := answer Topic.statusRead f .done s
    enqueueCounted s1 (s1.statusFrame page)

/-! ### Listen phase and dormancy (R181, R183) -/

/-- The listen phase ends after its eighth window end. -/
def listenEnd (s : State) : State :=
  if s.busOn && s.cbi.listen == some Config.listenWindows then s.setCbi { s.cbi with listen := none } else s

/-- A window end at the listen phase. -/
def listenTick (s : State) : State :=
  s.setCbi { s.cbi with listen := s.cbi.listen.map fun n => min (n + 1) Config.listenWindows }

/-- The conditions a dormant part stands under. -/
def State.quiet (s : State) : Bool :=
  s.hasGateway && !s.odu.report.ignition && s.sau.shift == .closed && s.alm.state == .clear
    && s.cbi.boxes.all (·.state == .empty)

/-- A window end at the dormancy timer. -/
def dormancyTick (s : State) : State :=
  if s.cbi.dormant then s
  else
    s.setCbi { s.cbi with
      dormancyTimer := if s.quiet then min (s.cbi.dormancyTimer + 1) Config.dormancyWindows else 0 }

/-- Entry into dormancy, delivered to the RSD (R135) and the CAU (R158). -/
def dormancyEntry (s : State) : State :=
  if s.running && !s.cbi.dormant && s.cbi.dormancyTimer == Config.dormancyWindows && s.quiet then
    audioDormant (endLampTest (s.setCbi { s.cbi with dormant := true }))
  else s

/-! ### Frames of any topic -/

/-- What the owning block does with a delivered frame of a topic. -/
def deliver (topic : Nat) (f : RxFrame) (s : State) : State :=
  match topic with
  | 2 => alarmAck f s
  | 3 => alarmClear f s
  | 32 => hire f s
  | 33 => stop f s
  | 34 => resume f s
  | 35 => settle f s
  | 36 => void f s
  | 38 => bookingAssign f s
  | 39 => bookingCancel f s
  | 40 => tariffSelect f s
  | 41 => extraAdd f s
  | 42 => extraRemove f s
  | 44 => tenderCash f s
  | 45 => tenderCard f s
  | 46 => payCancel f s
  | 47 => settleDefer f s
  | 48 => shiftOpen f s
  | 49 => shiftClose f s
  | 50 => journalRead f s
  | 51 => summaryRead f s
  | 52 => talkPress f s
  | 53 => talkRelease f s
  | 54 => callPress f s
  | 55 => callRelease f s
  | 56 => signTest f s
  | 57 => signWrite f s
  | 58 => statusRead f s
  | 59 => clockSet f s
  | 64 => payAccepted f s
  | 65 => payResult f s
  | 66 => payReference f s
  | 68 => terminalTotals f s
  | 72 => vehicleState f s
  | _ => s

/-- A frame whose source is the part's own number (R182). -/
def State.ownFrame (s : State) (cls : BitVec 2) (payload : List Byte) : RxFrame :=
  ⟨cls, BitVec.ofNat 5 s.ownNumber, payload⟩

/-! ### The commands -/

/-- STATUS_READ (R180). -/
def execStatusRead (f : RxFrame) (s : State) : Host.Outcome State Fault Refusal :=
  .next (frameComplete Topic.statusRead f (statusRead f) s)

/-- RECEIVE_FAULT (R169). -/
def execReceiveFault (fault : ReceiveFault) (s : State) : Host.Outcome State Fault Refusal :=
  .next (receiveFault fault s)

/-- UNMATCHED_FRAME (R178): a complete frame of any topic, taken or not. -/
def execUnmatchedFrame (topic : BitVec 9) (f : RxFrame) (s : State) : Host.Outcome State Fault Refusal :=
  .next (frameComplete topic.toNat f (deliver topic.toNat f) s)

/-- OWN_NUMBER_FRAME (R182). -/
def execOwnNumberFrame (topic : BitVec 9) (cls : BitVec 2) (payload : List Byte) (s : State) :
    Host.Outcome State Fault Refusal :=
  .next (frameComplete topic.toNat (s.ownFrame cls payload) (deliver topic.toNat (s.ownFrame cls payload)) s)

/-- TRANSMIT_ATTEMPT (R170, R175). -/
def execTransmitAttempt (s : State) : Host.Outcome State Fault Refusal := .next (transmitAttempt s)

/-- ATTEMPT_SUCCEEDED (R176). -/
def execAttemptSucceeded (s : State) : Host.Outcome State Fault Refusal := .next (attemptSucceeded s)

/-- ATTEMPT_FAILED (R171, R176). -/
def execAttemptFailed (fault : TransmitFault) (s : State) : Host.Outcome State Fault Refusal :=
  .next (attemptFailed fault s)

/-- ARBITRATION_LOST (R170, R176). -/
def execArbitrationLost (s : State) : Host.Outcome State Fault Refusal := .next (arbitrationLost s)

/-- OFFLINE_RECOVERY (R172). -/
def execOfflineRecovery (s : State) : Host.Outcome State Fault Refusal := .next (offlineRecovery s)

/-- LISTEN_PHASE_END (R181). -/
def execListenPhaseEnd (s : State) : Host.Outcome State Fault Refusal := .next (listenEnd s)

/-- DORMANCY_ENTRY (R183). -/
def execDormancyEntry (s : State) : Host.Outcome State Fault Refusal := .next (dormancyEntry s)

/-- WAKE_BY_LINE (R184). -/
def execWakeByLine (s : State) : Host.Outcome State Fault Refusal := .next (wakeOnEdge s)

/-- LINE_IDLE (R169, R172). -/
def execLineIdle (s : State) : Host.Outcome State Fault Refusal := .next (lineIdle s)

/-- START_MARK (R169, R183). -/
def execStartMark (s : State) : Host.Outcome State Fault Refusal := .next (startMark s)

end Sys2Proof.Machine
end

