-- ==== Sys2Proof/Machine/Windows.lean ====
section
/-! DEFINITION. The window end (R9): the events of the window before that are still due, the closing of the window, the
window record at its readers, the timers, and the frames that wait to be enqueued again (log 5, log 10). -/

namespace Sys2Proof.Machine

/-- The query timers of the unsettled entries that have expired. DESIGN CHOICE (log 5): R85 gives no order among entries, and
the oldest is taken first. -/
def entryExpiries (s : State) : State :=
  s.stu.unsettled.foldl (fun t e => entryExpiry e.trip t) s

/-- The events that a window end made due and that no command has taken since (log 5). -/
def settleDue (s : State) : State :=
  dormancyEntry (listenEnd (lampTestEnd (totalsExpiry (entryExpiries (queryExpiry (cancelExpiry
    (resultExpiry (offerExpiry (repeatExpiry (alarmEntry (secondEnd s)))))))))))

/-- A window record at the SAU (R98). -/
def shiftWindow (w : WindowRecord) (s : State) : State :=
  if s.sau.shift = .opened then
    s.setSau { s.sau with
      counters := s.sau.counters.addWindow (w.forward + w.reverse) w.discarded (s.meter == .hired) }
  else s

/-- A window end while TALK_STATE is owed (R154). -/
def windowTalkState (s : State) : State := if s.cau.owed then enqueueTalkState s else s

/-- The window record at the FEN, the SAU and the TRC (R13). -/
def windowRecord (w : WindowRecord) (s : State) : State := tripWindow w (shiftWindow w (fareWindow w s))

/-- The timers that count window ends, and the alarm switch. -/
def windowTimers (closed : Bool) (s : State) : State :=
  listenTick (lampTestTick (totalsTick (settlementTimers (repeatTick (switchSample closed s)))))

/-- What waits to be enqueued again: state topics owed, then frames that met QUEUE_FULL. DESIGN CHOICE (log 10): this order,
which R173 leaves open. -/
def windowRetries (s : State) : State :=
  partRetry .summary (partRetry .journal (totalsRetry (settlementRetries
    (windowTalkState (windowShiftState (windowMeterState s))))))

/-- A window end with nothing due before it. -/
def windowClosed (closed : Bool) (s : State) : State :=
  let r := s.odu.close s.hasGateway
  dormancyTick (windowRetries (windowTimers closed (windowRecord r.2 (s.setOdu r.1))))

def windowEnd (closed : Bool) (s : State) : State :=
  if s.running then windowClosed closed (settleDue s) else s

/-- WINDOW_END (R9). -/
def execWindowEnd (closed : Bool) (s : State) : Host.Outcome State Fault Refusal := .next (windowEnd closed s)

end Sys2Proof.Machine
end

