-- ==== Sys2Proof/Machine/Image.lean ====
section
/-! DEFINITION. Parameter Loader (10): the fields of the image (Table 11-6), its judgement (R189, R190), the tariff check
value (R192). -/

namespace Sys2Proof.Machine

/-! ### Station and sensor blocks (R189) -/

def imagePeers (img : List Byte) : PeerTable where
  own := field img 3 1
  console := field img 5 1
  terminal := field img 6 1
  rearPanel := field img 7 1
  dispatch := field img 8 1
  gateway := field img 9 1

def imageBitRate (img : List Byte) : Option BitRate :=
  match field img 4 1 with
  | 1 => some .k125
  | 2 => some .k250
  | 3 => some .k500
  | _ => none

def imageSensorMode (img : List Byte) : Option SensorMode :=
  match field img 12 1 with
  | 1 => some .single
  | 2 => some .quadrature
  | _ => none

def imageFilter (img : List Byte) : Option FilterWidth :=
  match field img 13 1 with
  | 0 => some .off
  | 1 => some .us10
  | 2 => some .us20
  | 3 => some .us40
  | _ => none

/-- The sensor settings, where every one is in range. -/
def imageSensor (img : List Byte) : Option SensorSettings :=
  let k := field img 10 2
  let nmax := field img 14 2
  if 500 ≤ k ∧ k ≤ 25000 ∧ 1 ≤ nmax ∧ nmax ≤ 2000 then
    match imageSensorMode img, imageFilter img with
    | some m, some w => some ⟨k, nmax, m, w⟩
    | _, _ => none
  else none

def PeerTable.roles (p : PeerTable) : List Nat := [p.console, p.terminal, p.rearPanel, p.dispatch, p.gateway]

/-- The peer table stands: the own number 1 to 31, roles up to 31, no number used twice (R189). -/
def PeerTable.sound (p : PeerTable) : Bool :=
  1 ≤ p.own && p.own ≤ 31 && p.roles.all (· ≤ 31) && !p.roles.contains p.own
    && decide (p.roles.filter (· != 0)).Nodup

/-- The image check value, as read from the last two bytes; 0 where the header is wrong (R188). -/
def imageCheckValue (img : List Byte) : Check :=
  match headerLength img with
  | some n => BitVec.ofNat 16 (field img (n - 2) 2)
  | none => 0

/-- The check computed over every byte before the image check value agrees with it (R189). -/
def imageCheckHolds (img : List Byte) : Bool :=
  match headerLength img with
  | some n => checkBytes (slice img 0 (n - 2)) == imageCheckValue img
  | none => false

/-- No finding of R189 makes the image INVALID. -/
def imageUsable (img : List Byte) : Bool :=
  imageCheckHolds img && (imagePeers img).sound && (imageBitRate img).isSome && (imageSensor img).isSome

/-! ### Entries judged on their own (R19, R20, R119, R139, R143, R190) -/

def imageMethod (code : Nat) : Option Method :=
  match code with
  | 1 => some .single
  | 2 => some .double
  | _ => none

/-- Tariff record `i` (0 to 7), where every field is in its range (Table 2-2). -/
def imageTariff (img : List Byte) (i : Nat) : Option Tariff :=
  let b := 16 + 12 * i
  let f := field img b 3
  let d0 := field img (b + 3) 2
  let a := field img (b + 5) 2
  let dd := field img (b + 7) 2
  let td := field img (b + 9) 2
  if f ≤ 99999 ∧ d0 ≤ 9999 ∧ 1 ≤ a ∧ a ≤ 9999 ∧ 1 ≤ dd ∧ dd ≤ 9999 ∧ 1 ≤ td ∧ td ≤ 3600 then
    (imageMethod (field img (b + 11) 1)).map fun m => ⟨f, d0, a, dd, td, m⟩
  else none

/-- Extras kind `i` (0 to 7), where present (R20). -/
def imageKind (img : List Byte) (i : Nat) : Option ExtraKind :=
  let amount := field img (112 + 4 * i) 3
  let limit := field img (112 + 4 * i + 3) 1
  if 1 ≤ amount ∧ amount ≤ 99999 ∧ 1 ≤ limit ∧ limit ≤ 9 then some ⟨amount, limit⟩ else none

/-- An entry whose bytes are all zero is empty (R190). -/
def emptyEntry (img : List Byte) (start n : Nat) : Bool := field img start n == 0

/-- The booking fee; above 99,999 it is taken as 0 (R20). -/
def imageBookingFee (img : List Byte) : Nat :=
  if field img 144 3 ≤ 99999 then field img 144 3 else 0

def imageLegendMode (code : Nat) : Option LegendMode :=
  match code with
  | 0 => some .steady
  | 1 => some .blink
  | 2 => some .scroll
  | _ => none

/-- The page field: some page, some DARK (an inner none), or none where out of range (Table 6-2). -/
def imageLegendPage (code : Nat) : Option (Option Nat) :=
  if code ≤ 3 then some (some code) else if code = 255 then some none else none

/-- Legend entry `i` (0 to 7), where in range (R119). -/
def imageLegend? (img : List Byte) (i : Nat) : Option LegendEntry :=
  let b := 147 + 3 * i
  match imageLegendPage (field img b 1), imageLegendMode (field img (b + 1) 1) with
  | some p, some m => some ⟨p, m, field img (b + 2) 1⟩
  | _, _ => none

/-- An entry out of range is taken as {DARK, STEADY, 0}. -/
def imageLegend (img : List Byte) (i : Nat) : LegendEntry := (imageLegend? img i).getD LegendEntry.dark

def imageMap (img : List Byte) : LegendMap where
  offDuty := imageLegend img 0
  free := imageLegend img 1
  booked := imageLegend img 2
  hired := imageLegend img 3
  stopped := imageLegend img 4
  settling := imageLegend img 5
  inoperative := imageLegend img 6
  alarm := imageLegend img 7

/-- The 960 levels of legend page `i`: two pixels in a byte, high half first. -/
def imagePage (img : List Byte) (i : Nat) : List Nat :=
  (slice img (173 + 480 * i) 480).flatMap fun b => [b.toNat / 16, b.toNat % 16]

/-- Threshold record of slot `i`: each value up to 32,767, then close up to open (R143). -/
def imageThreshold (img : List Byte) (i : Nat) : Threshold :=
  let o := min (field img (1613 + 4 * i) 2) Config.thresholdMax
  let c := min (field img (1613 + 4 * i + 2) 2) Config.thresholdMax
  ⟨o, min c o⟩

/-- A threshold record was changed by its limits. -/
def thresholdChanged (img : List Byte) (i : Nat) : Bool :=
  imageThreshold img i != ⟨field img (1613 + 4 * i) 2, field img (1613 + 4 * i + 2) 2⟩

/-- The intercom mode; any value but 1 is PTT_ONLY (R139). -/
def imageIntercom (img : List Byte) : IntercomMode := if field img 1629 1 = 1 then .vox else .pttOnly

/-- One of the substitutions of R190 was made. -/
def imageSubstituted (img : List Byte) : Bool :=
  (List.range 8).any (fun i => (imageTariff img i).isNone && !emptyEntry img (16 + 12 * i) 12)
    || (List.range 8).any (fun i => (imageKind img i).isNone && !emptyEntry img (112 + 4 * i) 4)
    || 99999 < field img 144 3
    || (List.range 8).any (fun i => (imageLegend? img i).isNone)
    || 1 < field img 1629 1
    || (List.range 3).any (thresholdChanged img)

/-- The image state (R189, R190). -/
def imageState (img : List Byte) : ImageState :=
  if !imageUsable img then .invalid else if imageSubstituted img then .degraded else .valid

/-- The tariff check value: bytes 16 to 111 (R192); none is computed for an INVALID image (log 28). -/
def imageTariffCheck (img : List Byte) : Check :=
  if imageUsable img then checkBytes (slice img 16 96) else 0

def imageTariffs (img : List Byte) : List (Option Tariff) := (List.range 8).map (imageTariff img)

/-- The INOPERATIVE reason the loader gives (R190, R191). -/
def imageReason (img : List Byte) : InopReason :=
  if !imageUsable img then .imageInvalid
  else if (imageTariffs img).all (·.isNone) then .noTariff
  else .none

end Sys2Proof.Machine
end

