-- ==== Sys2Proof/Machine/Start.lean ====
section
/-! DEFINITION. Supplies, reset pin and start (10): loss and return of the main supply, failure of the backup supply, the
load completion and the start values of every block. -/

namespace Sys2Proof.Machine

/-! ### Supplies and the beginning of a start (R188, R193, R194) -/

/-- A line with its input kept and nothing settled. -/
def WheelInput.unsettled (w : WheelInput) : WheelInput := ⟨w.input, false, false⟩

/-- What is left when nothing but the retained records and the pins is kept; the load phase begins READING (log 2, log 25). -/
def State.retainedOnly (s : State) (main : Bool) (kind : StartKind) : State :=
  { s with
    odu := { Odu.initial with
      lineA := s.odu.lineA.unsettled
      lineB := s.odu.lineB.unsettled
      clock := s.odu.clock
      clockSet := s.odu.clockSet }
    fen := { Fen.initial with record := s.fen.record }
    trc := { Trc.initial with
      held := s.trc.held
      lastTrip := s.trc.lastTrip
      record := s.trc.record
      booking := s.trc.booking }
    sau := { s.sau with
      totalsTimer := none
      totalsWaits := false
      journalAnswer := none
      summaryAnswer := none
      owed := false }
    rsd := Rsd.initial
    cau := Cau.initial
    alm := { Alm.initial with state := s.alm.state, acknowledged := s.alm.acknowledged }
    cbi := Cbi.initial
    pld := Pld.reading kind
    supply := ⟨main⟩ }

/-- The integrity marker as a start judges it (R193, R194). -/
def Rtm.startKind (r : Rtm) : StartKind := if r.latch || !r.checkAgrees then .cold else .warm

/-- A start begins (R188). -/
def beginStart (s : State) : State := s.retainedOnly true s.rtm.startKind

/-- The main supply is lost (R9, R193). A loss is taken between events and finds none taken in part, so what is due is taken
first, a second end (R14) and the alarm's entry (R161) among it. DESIGN CHOICE (log 5): a due event may wait till now. -/
def supplyLoss (s : State) : State :=
  if s.supply.main then (settleDue s).retainedOnly false s.pld.kind else s

def supplyReturn (s : State) : State := if s.supply.main then s else beginStart s

/-- The reset pin begins a start (R188); what is due is taken first, as at a loss of the supply (log 5). -/
def resetPin (s : State) : State := if s.supply.main then beginStart (settleDue s) else s

/-- The supply of the store falls below the level that holds it, which only a lost main supply allows (R193). -/
def backupFail (s : State) : State := if s.supply.main then s else s.setRtm { s.rtm with latch := true }

/-! ### Start values (R191) -/

/-- A cold start: every retained record at its cold value, the marker intact from then on (R194). DESIGN CHOICE (log 41): the
latch is cleared here also for a part that never had a backup supply. -/
def coldRecords (s : State) : State :=
  { s with
    odu := { s.odu with clock := 0, clockSet := false }
    fen := { s.fen with record := FareRecord.empty }
    trc := Trc.initial
    stu := Stu.initial
    sau := Sau.initial
    alm := Alm.initial
    rtm := ⟨false, true⟩ }

/-- A settled level is the input level as it stands (R1). -/
def WheelInput.atStart (w : WheelInput) : WheelInput := ⟨w.input, w.input, false⟩

/-- ODU (Table 1-8). -/
def Odu.start (o : Odu) (img : List Byte) : Odu :=
  { Odu.initial with
    lineA := o.lineA.atStart
    lineB := o.lineB.atStart
    clock := o.clock
    clockSet := o.clockSet
    settings := if imageUsable img then imageSensor img else none }

/-- FEN (R19, R20, R40 to R42). -/
def Fen.start (f : Fen) (img : List Byte) (warm : Bool) : Fen :=
  if imageUsable img then
    ⟨imageTariffs img, (List.range 8).map (imageKind img), imageBookingFee img, f.record,
      warm && f.record.trip != 0⟩
  else { Fen.initial with record := f.record }

/-- RSD (Table 6-6), less the FREE lamp. -/
def Rsd.start (img : List Byte) : Rsd :=
  if imageUsable img then
    { Rsd.initial with
      legendPages := [imagePage img 0, imagePage img 1, imagePage img 2]
      map := imageMap img
      mirror := yes img 171
      scrollStep := max 1 (field img 172 1) }
  else Rsd.initial

/-- CAU (Table 7-9), less the routing matrix. -/
def Cau.start (img : List Byte) : Cau :=
  if imageUsable img then
    ({ Cau.initial with
      gIc := field img 1625 1
      gRadio := field img 1626 1
      gAlarm := field img 1627 1
      gChime := field img 1628 1
      mode := imageIntercom img
      thresholds := [imageThreshold img 0, imageThreshold img 1, imageThreshold img 2] }).beginSlot 0
  else Cau.initial

/-- CBI (R186, R187). -/
def Cbi.start (img : List Byte) : Cbi :=
  if imageUsable img then
    { Cbi.initial with
      bitRate := imageBitRate img
      standing := .normal
      acceptance := acceptanceOf (imagePeers img)
      listen := some 0 }
  else Cbi.initial

/-- PLD at load completion (R191, R192). -/
def Pld.loaded (kind : StartKind) (img : List Byte) : Pld where
  phase := .complete
  image := imageState img
  imageCheck := imageCheckValue img
  tariffCheck := imageTariffCheck img
  peers := if imageUsable img then some (imagePeers img) else none
  kind := kind

/-- The image is delivered and every block that keeps nothing takes its values; no frame is enqueued yet. -/
def deliverImage (img : List Byte) (s : State) : State :=
  { s with
    odu := s.odu.start img
    fen := s.fen.start img (s.pld.kind == .warm)
    trc := { s.trc with reason := imageReason img, restricted := false, preselected := 0, owed := false }
    rsd := Rsd.start img
    cau := Cau.start img
    cbi := Cbi.start img
    pld := Pld.loaded s.pld.kind img }

/-- A warm start with a usable image that has a tariff acts on the kept records. -/
def State.resumes (s : State) : Bool := s.pld.kind == .warm && s.trc.reason == .none

/-- TRC (R62, R67): a HIRED trip comes back STOPPED with POWER_GAP; the restriction is decided. -/
def startTrips (s : State) : State :=
  if s.resumes then
    let s1 :=
      if s.trc.held = .hired then
        report Counters.addPowerGap (s.setTrc { s.trc with
          held := .stopped
          record := s.trc.record.map fun r => { r.stampStop s.odu with powerGap := true } })
      else s
    s1.setTrc { s1.trc with
      restricted := s1.sau.shift == .opened && s1.sau.recordedCheck != s1.pld.tariffCheck }
  else s

/-- An unsettled entry at a start that takes it up (R92). -/
def UnsettledEntry.restart (e : UnsettledEntry) : UnsettledEntry :=
  { e with
    timer := if 0 < e.left then some Config.queryTimer else none
    waits := false
    closingWaits := false }

/-- The attempt a start finds (R92). -/
def startAttempt (s : State) : State :=
  match s.stu.attempt with
  | none => s
  | some a =>
    match a.state with
    | .queued => dropAttempt .notTaken a s
    | .offered | .atTerminal | .cancelling => enterUncertain a s
    | .uncertain =>
      s.setAttempt { a with
        timer := if a.queries < Config.queryLimit then some Config.queryTimer else none
        waits := false }

/-- STU (R91 to R93): the records taken up, with one SETTLE_REPORT where a session is open or the list is not empty (log 17);
or kept with no timer running. -/
def startSettlement (s : State) : State :=
  if s.resumes then
    let s1 := startAttempt (s.setStu { s.stu with unsettled := s.stu.unsettled.map (·.restart) })
    if s1.stu.session.isSome ∨ s1.stu.unsettled ≠ [] then settleReport s1 else s1
  else stopSettlementTimers s

/-- SAU (R115 to R117): SHIFT_STATE, and a CLOSING shift begun again at stage 1. DESIGN CHOICE (log 9): in CLOSING,
SHIFT_STATE is enqueued first, with stage 1 (DEDUCED, log 19), then the queries of stage 1 and the TOTALS_OFFER. -/
def startShift (s : State) : State :=
  if s.resumes ∧ s.sau.shift = .closing then
    runClosing (enqueueShiftState (s.setSau { s.sau with stage := 1, reconciliation := none }))
  else enqueueShiftState s

/-- ALM (R167). -/
def startAlarm (s : State) : State :=
  let s1 := s.setAlm { Alm.initial with state := s.alm.state, acknowledged := s.alm.acknowledged }
  if s1.pld.image ≠ .invalid ∧ s1.alm.state = .active ∧ !s1.alm.acknowledged then
    placeNotice (s1.setAlm { s1.alm with repeatTimer := some Config.repeatTimer })
  else s1

/-- The blocks take their start values (R191). -/
def startBlocks (s : State) : State :=
  let s1 := enqueueMeterState (updateLamp (startTrips s))
  let s2 := startShift (startSettlement s1)
  enqueueTalkState (setRouting (startAlarm s2))

/-- The image read is finished (R191). -/
def loadCompletion (img : List Byte) (s : State) : State :=
  if s.supply.main && s.pld.phase == .reading then
    startBlocks (deliverImage img (if s.pld.kind = .cold then coldRecords s else s))
  else s

/-! ### The commands -/

/-- MAIN_SUPPLY_LOSS (R9, R193). -/
def execMainSupplyLoss (s : State) : Host.Outcome State Fault Refusal := .next (supplyLoss s)

/-- BACKUP_SUPPLY_FAIL (R193). -/
def execBackupSupplyFail (s : State) : Host.Outcome State Fault Refusal := .next (backupFail s)

/-- MAIN_SUPPLY_RETURN (R188). -/
def execMainSupplyReturn (s : State) : Host.Outcome State Fault Refusal := .next (supplyReturn s)

/-- RESET_PIN (R188). -/
def execResetPin (s : State) : Host.Outcome State Fault Refusal := .next (resetPin s)

/-- LOAD_COMPLETION (R191). -/
def execLoadCompletion (img : List Byte) (s : State) : Host.Outcome State Fault Refusal :=
  .next (loadCompletion img s)

end Sys2Proof.Machine
end

