-- ==== Sys2Proof/Machine/Dispatch.lean ====
section
/-! DEFINITION. The meaning of every command: one arm per row of spec/opcode_table.json, in its order. -/

namespace Sys2Proof.Machine

def exec (i : Instr) (s : State) : Host.Outcome State Fault Refusal :=
  match i with
  | .wheelInputChange line level => Sys2Proof.Machine.execWheelInputChange line level s
  | .filterWidthElapsed line => Sys2Proof.Machine.execFilterWidthElapsed line s
  | .windowEnd switchClosed => Sys2Proof.Machine.execWindowEnd switchClosed s
  | .secondEnd => Sys2Proof.Machine.execSecondEnd s
  | .retainedSecondsTick => Sys2Proof.Machine.execRetainedSecondsTick s
  | .alarmEntry => Sys2Proof.Machine.execAlarmEntry s
  | .repeatTimerExpiry => Sys2Proof.Machine.execRepeatTimerExpiry s
  | .alarmAck f => Sys2Proof.Machine.execAlarmAck f s
  | .alarmClear f => Sys2Proof.Machine.execAlarmClear f s
  | .hire f => Sys2Proof.Machine.execHire f s
  | .stop f => Sys2Proof.Machine.execStop f s
  | .resume f => Sys2Proof.Machine.execResume f s
  | .settle f => Sys2Proof.Machine.execSettle f s
  | .void f => Sys2Proof.Machine.execVoid f s
  | .bookingAssign f => Sys2Proof.Machine.execBookingAssign f s
  | .bookingCancel f => Sys2Proof.Machine.execBookingCancel f s
  | .tariffSelect f => Sys2Proof.Machine.execTariffSelect f s
  | .extraAdd f => Sys2Proof.Machine.execExtraAdd f s
  | .extraRemove f => Sys2Proof.Machine.execExtraRemove f s
  | .tenderCash f => Sys2Proof.Machine.execTenderCash f s
  | .tenderCard f => Sys2Proof.Machine.execTenderCard f s
  | .payCancel f => Sys2Proof.Machine.execPayCancel f s
  | .settleDefer f => Sys2Proof.Machine.execSettleDefer f s
  | .payAccepted f => Sys2Proof.Machine.execPayAccepted f s
  | .payResult f => Sys2Proof.Machine.execPayResult f s
  | .payReference f => Sys2Proof.Machine.execPayReference f s
  | .offerTimerExpiry => Sys2Proof.Machine.execOfferTimerExpiry s
  | .resultTimerExpiry => Sys2Proof.Machine.execResultTimerExpiry s
  | .cancelTimerExpiry => Sys2Proof.Machine.execCancelTimerExpiry s
  | .queryTimerExpiry => Sys2Proof.Machine.execQueryTimerExpiry s
  | .entryQueryTimerExpiry trip => Sys2Proof.Machine.execEntryQueryTimerExpiry trip s
  | .shiftOpen f => Sys2Proof.Machine.execShiftOpen f s
  | .shiftClose f => Sys2Proof.Machine.execShiftClose f s
  | .terminalTotals f => Sys2Proof.Machine.execTerminalTotals f s
  | .totalsTimerExpiry => Sys2Proof.Machine.execTotalsTimerExpiry s
  | .journalRead f => Sys2Proof.Machine.execJournalRead f s
  | .summaryRead f => Sys2Proof.Machine.execSummaryRead f s
  | .talkPress f => Sys2Proof.Machine.execTalkPress f s
  | .talkRelease f => Sys2Proof.Machine.execTalkRelease f s
  | .callPress f => Sys2Proof.Machine.execCallPress f s
  | .callRelease f => Sys2Proof.Machine.execCallRelease f s
  | .signTest f => Sys2Proof.Machine.execSignTest f s
  | .lampTestEnd => Sys2Proof.Machine.execLampTestEnd s
  | .signWrite f => Sys2Proof.Machine.execSignWrite f s
  | .refreshPass => Sys2Proof.Machine.execRefreshPass s
  | .scrollStep => Sys2Proof.Machine.execScrollStep s
  | .samplePeriod frontMic rearMic radioIn => Sys2Proof.Machine.execSamplePeriod frontMic rearMic radioIn s
  | .slotEnd => Sys2Proof.Machine.execSlotEnd s
  | .chimeEnd => Sys2Proof.Machine.execChimeEnd s
  | .statusRead f => Sys2Proof.Machine.execStatusRead f s
  | .clockSet f => Sys2Proof.Machine.execClockSet f s
  | .vehicleState f => Sys2Proof.Machine.execVehicleState f s
  | .receiveFault fault => Sys2Proof.Machine.execReceiveFault fault s
  | .unmatchedFrame topic f => Sys2Proof.Machine.execUnmatchedFrame topic f s
  | .ownNumberFrame topic cls payload => Sys2Proof.Machine.execOwnNumberFrame topic cls payload s
  | .transmitAttempt => Sys2Proof.Machine.execTransmitAttempt s
  | .attemptSucceeded => Sys2Proof.Machine.execAttemptSucceeded s
  | .attemptFailed fault => Sys2Proof.Machine.execAttemptFailed fault s
  | .arbitrationLost => Sys2Proof.Machine.execArbitrationLost s
  | .offlineRecovery => Sys2Proof.Machine.execOfflineRecovery s
  | .listenPhaseEnd => Sys2Proof.Machine.execListenPhaseEnd s
  | .dormancyEntry => Sys2Proof.Machine.execDormancyEntry s
  | .wakeByLine => Sys2Proof.Machine.execWakeByLine s
  | .mainSupplyLoss => Sys2Proof.Machine.execMainSupplyLoss s
  | .backupSupplyFail => Sys2Proof.Machine.execBackupSupplyFail s
  | .mainSupplyReturn => Sys2Proof.Machine.execMainSupplyReturn s
  | .resetPin => Sys2Proof.Machine.execResetPin s
  | .loadCompletion image => Sys2Proof.Machine.execLoadCompletion image s
  | .lineIdle => Sys2Proof.Machine.execLineIdle s
  | .startMark => Sys2Proof.Machine.execStartMark s

end Sys2Proof.Machine
end

