-- ==== Sys2Proof/Safety.lean ====
section
/-! DEFINITION. What a sound state is: the invariants the statements use, each from a sentence of the spec; and what it means
for the interface to have changed nothing but its mailboxes. -/

namespace Sys2Proof.Machine

/-- The interface differs in the contents of its mailboxes and the count of dropped answers alone. -/
def Cbi.onlyMailboxes (c d : Cbi) : Prop :=
  d = { c with boxes := d.boxes, nextAge := d.nextAge, droppedAnswers := d.droppedAnswers }

/-- The fare total is metered amount, extras and booking fee, and no more than 9,999,999 (R21); no present tariff's flag fall
and no booking fee is above 99,999 (R19, R20). -/
def FareSound (f : Fen) : Prop :=
  f.record.total = f.record.metered + (f.record.extras.map (·.amount)).sum + f.record.bookingFee
    ∧ f.record.total ≤ 9999999
    ∧ (∀ t, some t ∈ f.tariffs → t.f ≤ 99999)
    ∧ f.bookingFee ≤ 99999

/-- A mailbox of 1 to 7 in which a state topic stands PENDING. -/
def Mailbox.pendingState (m : Mailbox) : Bool := m.state == .pending && m.frame.kind == .state

/-- Mailbox 0 holds only ALARM class frames and mailboxes 1 to 7 none; at most one mailbox per state topic is PENDING (R173).
-/
def MailboxesSound (c : Cbi) : Prop :=
  c.boxes.length = 8
    ∧ ((c.box 0).state ≠ .empty → (c.box 0).frame.cls = clsAlarm)
    ∧ (∀ i, 1 ≤ i → i < 8 → (c.box i).state ≠ .empty → (c.box i).frame.cls ≠ clsAlarm)
    ∧ (∀ i j, 1 ≤ i → i < 8 → 1 ≤ j → j < 8 → (c.box i).pendingState = true →
        (c.box j).pendingState = true → (c.box i).frame.topic = (c.box j).frame.topic → i = j)

/-- While the part runs, the FREE lamp is lit exactly while the meter is FREE, the part not dormant and no lamp test running;
it is dark while the part does not run; and with an INVALID image the meter is INOPERATIVE (R126). -/
def LampSound (s : State) : Prop :=
  s.rsd.freeLamp = (s.running && s.meter == .free && !s.cbi.dormant && s.rsd.lampTest.isNone)
    ∧ (s.running = true → s.pld.image = .invalid → s.meter = .inoperative)

/-- The fault counter is at most 256, and the standing is the one it gives, or SILENCED (R171). -/
def StandingSound (c : Cbi) : Prop :=
  c.faultCounter ≤ 256 ∧ (c.standing = .silenced ∨ c.standing = standingOf c.faultCounter)

/-- What holds of the cab bus interface in every sound state. -/
def InterfaceSound (c : Cbi) : Prop := MailboxesSound c ∧ StandingSound c

/-- The routing matrix is the one of Table 7-3; the floor is FRONT or REAR only in the hired states with the alarm CLEAR; the
rear waits only while the floor is FRONT and its button is held (R140, R141, R146). -/
def CabinSound (s : State) : Prop :=
  s.cau.routing = routingOf s.cau s.cbi.dormant s.alm.state
    ∧ (s.cau.floor ≠ .none → s.meter.inTrip = true ∧ s.alm.state = .clear)
    ∧ (s.cau.rearWaiting = true → s.cau.floor = .front ∧ s.cau.rearHeld = true)

/-- What R101 says of the journal and the unsettled list. -/
def LedgerAgrees (s : State) : Prop :=
  s.sau.journal.length ≤ 48
    ∧ (s.sau.journal.map (·.trip)).Pairwise (· < ·)
    ∧ s.stu.unsettled.length ≤ 4
    ∧ (∀ e ∈ s.stu.unsettled, ∃ r ∈ s.sau.journal, r.trip = e.trip ∧ r.outcome = some .unsettled)
    ∧ (∀ r ∈ s.sau.journal, r.outcome = some .unsettled → ∃ e ∈ s.stu.unsettled, e.trip = r.trip)
    ∧ (s.sau.shift = .closed → s.stu.unsettled = [])

/-- What makes R101 hold at the next step: one unsettled entry a trip; the journal ends below the trip in progress, which
bears the last trip number; a record stands in the hired states alone, a session and an attempt in SETTLING alone and for that
record; the meter takes trips only in an OPEN shift (R43, R45, R47, R69, R73, R84, R95, R96). -/
def TripsSound (s : State) : Prop :=
  (s.stu.unsettled.map (·.trip)).Nodup
    ∧ (∀ r ∈ s.sau.journal, r.trip ≤ s.trc.lastTrip)
    ∧ (∀ r, s.trc.record = some r → r.trip = s.trc.lastTrip ∧ (∀ x ∈ s.sau.journal, x.trip < r.trip)
        ∧ s.stu.unsettled.length < 4 ∧ s.sau.shift = .opened)
    ∧ (∀ x, s.stu.session = some x → s.trc.held = .settling ∧ s.trc.record.map (·.trip) = some x.trip)
    ∧ (∀ a, s.stu.attempt = some a → s.trc.held = .settling ∧ s.trc.record.map (·.trip) = some a.trip
        ∧ s.stu.session.isSome = true)
    ∧ (s.trc.record.isSome = true ↔ s.trc.held.meter.inTrip = true)
    ∧ ((s.trc.held = .free ∨ s.trc.held = .booked) → s.sau.shift = .opened)

/-- The accounts of trips are sound. -/
def LedgerSound (s : State) : Prop := LedgerAgrees s ∧ TripsSound s

/-- The ranges of Table 5-8. -/
def LifetimeInRange (l : Lifetime) : Prop :=
  l.totalPulses ≤ Config.max48 ∧ l.hiredPulses ≤ Config.max48 ∧ l.trips ≤ Config.max32
    ∧ l.fareTotals ≤ Config.max56 ∧ l.shifts ≤ Config.max32

/-- No totalizer has fallen. -/
def Lifetime.le (l m : Lifetime) : Prop :=
  l.totalPulses ≤ m.totalPulses ∧ l.hiredPulses ≤ m.hiredPulses ∧ l.trips ≤ m.trips
    ∧ l.fareTotals ≤ m.fareTotals ∧ l.shifts ≤ m.shifts

/-- The right-hand side of the balance of R97. -/
def Counters.accounted (c : Counters) : Nat := c.cash + c.card + c.waived + c.unpaid + c.outstanding

/-- The money counters balance (R97). -/
def Counters.balanced (c : Counters) : Prop := c.fareTotals = c.accounted

/-- The money of the open shift (R97): the balance; the outstanding amount is what the unsettled entries stand for (R84,
R100); each closed trip brought at most 9,999,999, so no counter is near its top; SETTLING has a session, whose total is the
fare total; its tenders and the attempt stay within it, and there are no tenders without one (R69, R70, R72). -/
def MoneySound (s : State) : Prop :=
  s.sau.counters.balanced
    ∧ s.sau.counters.outstanding = (s.stu.unsettled.map (·.requested)).sum
    ∧ s.trc.lastTrip ≤ 65535
    ∧ s.sau.counters.fareTotals + (if s.trc.record.isSome then 9999999 else 0) ≤ s.trc.lastTrip * 9999999
    ∧ (s.trc.held = .settling → s.stu.session.isSome = true)
    ∧ (s.stu.session = none → s.stu.tenders = [])
    ∧ (∀ x, s.stu.session = some x → x.total = s.fen.record.total ∧ s.stu.tendered ≤ x.total)
    ∧ (∀ a, s.stu.attempt = some a → a.requested ≤ s.stu.due)

/-- A mailbox of 1 to 7 holds a topic PENDING with a payload. -/
def Cbi.carries (c : Cbi) (topic : Nat) (payload : List Byte) : Prop :=
  ∃ i, 1 ≤ i ∧ i < 8 ∧ (c.box i).state = .pending ∧ (c.box i).frame.topic = topic
    ∧ (c.box i).frame.payload = payload

/-- An enqueue that was taken left its payload in a mailbox of 1 to 7; one that met QUEUE_FULL found none of them EMPTY, and
none has become so since (R173). -/
def Cbi.enqueued (c : Cbi) (taken : Bool) (topic : Nat) (payload : List Byte) : Prop :=
  (taken = true → c.carries topic payload)
    ∧ (taken = false → ∀ i, 1 ≤ i → i < 8 → (c.box i).state ≠ .empty)

/-- A state topic enqueued at an event stands in a mailbox of 1 to 7; or it met QUEUE_FULL, no mailbox has become EMPTY since,
and it is owed (R38, R65, R154, R173). -/
def Cbi.carriesOrOwes (c : Cbi) (owed : Bool) (topic : Nat) (payload : List Byte) : Prop :=
  c.carries topic payload ∨ (owed = true ∧ ∀ i, 1 ≤ i → i < 8 → (c.box i).state ≠ .empty)

/-- Between two interfaces a SETTLE_REPORT was enqueued; or it met QUEUE_FULL, was dropped and counted, and no mailbox has
become EMPTY since (R89). -/
def Cbi.reported (c d : Cbi) (payload : List Byte) : Prop :=
  (d.carries 83 payload ∧ d.droppedAnswers = c.droppedAnswers)
    ∨ (d.droppedAnswers = min (c.droppedAnswers + 1) 65535 ∧ ∀ i, 1 ≤ i → i < 8 → (d.box i).state ≠ .empty)

/-- The content of METER_STATE (R64, Table 11-2). -/
def meterBytes (code lastTrip : Nat) (restricted : Bool) (shift : ShiftState) : List Byte :=
  [codeByte code] ++ be 2 lastTrip ++ [if restricted then 1 else 0, codeByte shift.code]

/-- The content of SETTLE_REPORT (R89, Table 11-2). -/
def Stu.reportBytes (x : Stu) : List Byte :=
  be 2 ((x.session.map (·.trip)).getD 0)
    ++ be 3 ((x.session.map fun y => y.total - (x.tenders.map (·.tender.amount)).sum).getD 0)
    ++ [codeByte x.tenders.length, codeByte ((x.attempt.map (·.number)).getD 0),
      codeByte ((x.attempt.map (·.state.code)).getD 0), codeByte x.lastEnding.code, codeByte x.unsettled.length]

/-- No mailbox holds a frame of the STU of a topic for an attempt that is still to be sent: none PENDING, none SENDING. -/
def Cbi.freeOf (c : Cbi) (topic trip number : Nat) : Prop :=
  ∀ m ∈ c.boxes, (m.state = .pending ∨ m.state = .sending) → isAttemptFrame topic trip number m.frame = false

/-- The table of R144: source `x`, measured at a level against a threshold record, becomes `y`. -/
def SourceLevel.JudgedAs (x y : SourceLevel) (t : Threshold) (level : Nat) : Prop :=
  (t.openAt ≤ level → y = ⟨level, true, 0⟩)
    ∧ (level < t.openAt → t.closeAt ≤ level → y = { x with level := level })
    ∧ (level < t.openAt → level < t.closeAt → x.hang < 7 → y = ⟨level, x.active, x.hang + 1⟩)
    ∧ (level < t.openAt → level < t.closeAt → 7 ≤ x.hang → y = ⟨level, false, 8⟩)

/-- Each unsettled entry converted between two states, the oldest first, left a SETTLE_REPORT with the entries still listed; or
one was dropped and counted (R87, R89). -/
def ConversionReported (s u : State) : Prop :=
  ∀ k, k < s.stu.unsettled.length →
    u.cbi.carries 83 ({ s.stu with unsettled := s.stu.unsettled.drop (k + 1) } : Stu).reportBytes
      ∨ s.cbi.droppedAnswers < u.cbi.droppedAnswers ∨ u.cbi.droppedAnswers = 65535

/-- A floor or a rear-waiting flag that has changed between two states is in one TALK_STATE, or owed; otherwise the owed flag
is as it was (R154). -/
def TalkReported (s u : State) : Prop :=
  ((u.cau.floor ≠ s.cau.floor ∨ u.cau.rearWaiting ≠ s.cau.rearWaiting) → s.cbi.boxes.length = 8 →
      u.cbi.enqueued (!u.cau.owed) 114 [codeByte u.cau.floor.code, if u.cau.rearWaiting then 1 else 0])
    ∧ (u.cau.floor = s.cau.floor → u.cau.rearWaiting = s.cau.rearWaiting → u.cau.owed = s.cau.owed)

/-- Slot 1 skipped: REAR_MIC at level 0 and SILENT with a hang count of 0, a slot 1 in progress to be discarded (R145). -/
def Cau.RearSkipped (c d : Cau) : Prop :=
  d.rearMic = ⟨0, false, 0⟩ ∧ d.scan = c.scan.map fun k => if k.slot = 1 then { k with discard := true } else k

/-- The meter has left the hired states between two states: at the CAU the floor and the button flags are cleared and, with
the alarm CLEAR, slot 1 is skipped. The chime and its queue are for the statement to give (R145, R152, R154). -/
def HiredStatesLeft (s u : State) : Prop :=
  (s.alm.state = .clear → s.cau.RearSkipped u.cau)
    ∧ (s.alm.state = .active → u.cau.rearMic = s.cau.rearMic ∧ u.cau.scan = s.cau.scan)
    ∧ u.cau = { s.cau with
        floor := .none
        rearWaiting := false
        frontHeld := false
        rearHeld := false
        rearMic := u.cau.rearMic
        scan := u.cau.scan
        routing := u.cau.routing
        chime := u.cau.chime
        queue := u.cau.queue
        owed := u.cau.owed }
    ∧ TalkReported s u

/-- A trip has closed between two states: the record `r`, completed with the fields of the fare record, the tenders `ts` and
the outcome, is counted with the amount waived and joins the journal; the meter is FREE with no record and no session, and
METER_STATE says so; the hired states are left; no other block but the interface and the lamp has changed (R52, R59, R60, R64,
R70, R100, R101, R145, R152). -/
def TripClosed (s u : State) (r : TripRecord) (ts : List TenderEntry) (o : TripOutcome) (waived : Nat) : Prop :=
  u.trc = { s.trc with held := .free, record := none, owed := u.trc.owed }
    ∧ r.complete s.fen.record ts o = { r with
        tariffAtStart := s.fen.record.atStart
        changes := s.fen.record.changes
        drops := s.fen.record.drops
        metered := s.fen.record.metered
        extras := s.fen.record.extras
        bookingFee := s.fen.record.bookingFee
        total := s.fen.record.total
        fareFlags := s.fen.record.flags
        tenders := ts.map (·.tender)
        outcome := some o }
    ∧ u.sau = { s.sau with
        counters := s.sau.counters.addTrip (r.complete s.fen.record ts o) waived
        journal := journalAppend s.sau.journal (r.complete s.fen.record ts o) }
    ∧ u.stu.session = none ∧ u.stu.tenders = []
    ∧ HiredStatesLeft s u
    ∧ (s.cbi.boxes.length = 8 → u.cbi.carriesOrOwes u.trc.owed 113
        (meterBytes 2 s.trc.lastTrip s.trc.restricted s.sau.shift))
    ∧ (received s).cbi.onlyMailboxes u.cbi
    ∧ u.rsd = { s.rsd with freeLamp := s.rsd.lampTest.isNone }
    ∧ u = { s with trc := u.trc, sau := u.sau, stu := u.stu, cau := u.cau, cbi := u.cbi, rsd := u.rsd }

/-! ### The image as its bytes are laid out (Table 11-6) -/

/-- Tariff record `i` + 1 has every field in its range (R19, Table 2-2). -/
def TariffInRange (img : List Byte) (i : Nat) : Prop :=
  field img (16 + 12 * i) 3 ≤ 99999 ∧ field img (19 + 12 * i) 2 ≤ 9999
    ∧ 1 ≤ field img (21 + 12 * i) 2 ∧ field img (21 + 12 * i) 2 ≤ 9999
    ∧ 1 ≤ field img (23 + 12 * i) 2 ∧ field img (23 + 12 * i) 2 ≤ 9999
    ∧ 1 ≤ field img (25 + 12 * i) 2 ∧ field img (25 + 12 * i) 2 ≤ 3600
    ∧ (field img (27 + 12 * i) 1 = 1 ∨ field img (27 + 12 * i) 1 = 2)

/-- Extras kind `i` + 1 is present (R20). -/
def KindInRange (img : List Byte) (i : Nat) : Prop :=
  1 ≤ field img (112 + 4 * i) 3 ∧ field img (112 + 4 * i) 3 ≤ 99999
    ∧ 1 ≤ field img (115 + 4 * i) 1 ∧ field img (115 + 4 * i) 1 ≤ 9

/-- Legend entry `i` names a page 0 to 3 or DARK, and a mode (R119). -/
def LegendInRange (img : List Byte) (i : Nat) : Prop :=
  (field img (147 + 3 * i) 1 ≤ 3 ∨ field img (147 + 3 * i) 1 = 255) ∧ field img (148 + 3 * i) 1 ≤ 2

/-- No finding of R189: header, check, station block and sensor block stand. -/
def ImageSound (img : List Byte) : Prop :=
  field img 0 1 = 1 ∧ 1632 ≤ field img 1 2 ∧ field img 1 2 ≤ 4096
    ∧ (checkBytes (slice img 0 (field img 1 2 - 2))).toNat = field img (field img 1 2 - 2) 2
    ∧ 1 ≤ field img 3 1 ∧ field img 3 1 ≤ 31
    ∧ (∀ i, 5 ≤ i → i ≤ 9 → field img i 1 ≤ 31 ∧ field img i 1 ≠ field img 3 1
        ∧ ∀ j, 5 ≤ j → j ≤ 9 → i ≠ j → field img i 1 = field img j 1 → field img i 1 = 0)
    ∧ 1 ≤ field img 4 1 ∧ field img 4 1 ≤ 3
    ∧ 500 ≤ field img 10 2 ∧ field img 10 2 ≤ 25000
    ∧ (field img 12 1 = 1 ∨ field img 12 1 = 2) ∧ field img 13 1 ≤ 3
    ∧ 1 ≤ field img 14 2 ∧ field img 14 2 ≤ 2000

/-- One of the substitutions of R190 was made. -/
def ImageSubstituted (img : List Byte) : Prop :=
  (∃ i, i < 8 ∧ ¬TariffInRange img i ∧ field img (16 + 12 * i) 12 ≠ 0)
    ∨ (∃ i, i < 8 ∧ ¬KindInRange img i ∧ field img (112 + 4 * i) 4 ≠ 0)
    ∨ 99999 < field img 144 3
    ∨ (∃ i, i < 8 ∧ ¬LegendInRange img i)
    ∨ 1 < field img 1629 1
    ∨ (∃ i, i < 3 ∧ (32767 < field img (1613 + 4 * i) 2 ∨ 32767 < field img (1615 + 4 * i) 2
        ∨ field img (1613 + 4 * i) 2 < field img (1615 + 4 * i) 2))

end Sys2Proof.Machine
end

