-- ==== Sys2Proof/Certificates/Slice0/Obligations.lean ====
section
/-! DEFINITION. The statements for the provers. A command that carries a frame is stated from a state in which the frame
reaches its owner (`delivers`); `received s` is that state once the frame has passed on the line. The equation
`u = { s with … }` says that every block it does not name is unchanged. -/

open Sys2Proof Sys2Proof.Machine

/-! ### The queue -/

/-- A step takes the command at the front of the queue and runs it on the rest (the task's rule for a block). The second
clause, an empty queue idles, is the model's choice (log 4). -/
def Obligations.StepRunsFrontCommand : Prop :=
  (∀ c rest s, s.pending = c :: rest → step s = exec c (s.setPending rest))
    ∧ (∀ s, s.pending = [] → step s = .next s)

/-! ### Odometry Unit -/

/-- R1, R16: with a filter width, a change of input level begins or drops a pending change and does nothing else; with the
filter OFF it changes the settled level at once, and line A issues its edge. With an INVALID image no edge is decoded; that
the pin is still followed there is the model's (log 21). -/
def Obligations.WheelInputMeetsTheFilter : Prop :=
  (∀ s l level, s.odu.settings = none →
    exec (.wheelInputChange l level) s =
        .next (s.setOdu (s.odu.setLine l { s.odu.line l with input := level }))
      ∧ exec (.filterWidthElapsed l) s = .next s)
  ∧ ∀ s x, s.running = true → s.odu.settings = some x →
    (∀ l level, x.filter ≠ .off →
      exec (.wheelInputChange l level) s = .next (s.setOdu (s.odu.setLine l
        ⟨level, (s.odu.line l).settled, level != (s.odu.line l).settled⟩)))
    ∧ (∀ level, x.filter = .off → level ≠ s.odu.lineB.settled →
      exec (.wheelInputChange .b level) s =
        .next (s.setOdu { s.odu with lineB := ⟨level, level, false⟩ }))
    ∧ (∀ level, x.filter = .off → level ≠ s.odu.lineA.settled →
      exec (.wheelInputChange .a level) s =
        .next (s.setOdu (({ s.odu with lineA := ⟨level, level, false⟩ } : Odu).edgeA x.mode level)))

/-- R1, R2, R3 (Table 1-2): a pending change that has held becomes the settled level; the edge of A is a pulse by the mode
and, in QUADRATURE, by the settled level of B; the edge of B is none. -/
def Obligations.ElapsedFilterIssuesOnePulse : Prop :=
  ∀ s x, s.running = true → s.odu.settings = some x →
    (s.odu.lineB.change = true →
      exec (.filterWidthElapsed .b) s = .next (s.setOdu { s.odu with
        lineB := ⟨s.odu.lineB.input, !s.odu.lineB.settled, false⟩ }))
    ∧ (s.odu.lineA.change = true →
      ∀ o : Odu, o = { s.odu with lineA := ⟨s.odu.lineA.input, !s.odu.lineA.settled, false⟩ } →
        (x.mode = .single → s.odu.lineA.settled = false →
            exec (.filterWidthElapsed .a) s = .next (s.setOdu (o.pulse true)))
        ∧ (x.mode = .single → s.odu.lineA.settled = true →
            exec (.filterWidthElapsed .a) s = .next (s.setOdu o))
        ∧ (x.mode = .quadrature → s.odu.lineA.settled = false → s.odu.lineB.settled = false →
            exec (.filterWidthElapsed .a) s = .next (s.setOdu (o.pulse true)))
        ∧ (x.mode = .quadrature → s.odu.lineA.settled = false → s.odu.lineB.settled = true →
            exec (.filterWidthElapsed .a) s = .next (s.setOdu (o.pulse false)))
        ∧ (x.mode = .quadrature → s.odu.lineA.settled = true → s.odu.lineB.settled = true →
            exec (.filterWidthElapsed .a) s = .next (s.setOdu (o.pulse true)))
        ∧ (x.mode = .quadrature → s.odu.lineA.settled = true → s.odu.lineB.settled = false →
            exec (.filterWidthElapsed .a) s = .next (s.setOdu (o.pulse false))))

/-- R4, R5: a reverse pulse raises the debt up to 4,095; a forward pulse pays one off, and only with no debt is it chargeable;
the counters stop at 65,535. -/
def Obligations.PulsesPayOffTheDebt : Prop :=
  ∀ o : Odu,
    o.pulse false = { o with debt := min (o.debt + 1) 4095, reverse := min (o.reverse + 1) 65535 }
    ∧ (0 < o.debt → o.pulse true =
        { o with debt := o.debt - 1, forward := min (o.forward + 1) 65535 })
    ∧ (o.debt = 0 → o.pulse true =
        { o with forward := min (o.forward + 1) 65535, chargeable := min (o.chargeable + 1) 65535 })

/-- R6 to R9, R11 to R13, R56, R57, R73, R85, R98, R108, R128, R160, R163, R181: what a window end makes of the ODU, while no
second end is due from the window before (log 5): history, speed from the four totals and K, motion with hysteresis, the three
runs, sensor state by Table 1-5; and, where no other event is due either, the window record with the clamp and the discarded
pulses at the FEN, the TRC and the SAU, the timers, the listen count and the alarm's hold count. R16: with an INVALID image
the counts, the speed and the runs are 0, STANDING and OK. R65, R73, R78, R79, R85, R87, R106, R108, R114, R154: owed state
topics and waiting frames are enqueued again, and go on waiting where no mailbox is EMPTY (query count: log 16; that a waiting
TOTALS_OFFER takes the counters as they stand at the window end: log 32). R183: the dormancy timer, by the mailboxes as the
window end leaves them (log 10). -/
def Obligations.WindowEndClosesTheWindow : Prop :=
  (∀ c s x, s.running = true → s.odu.phase < 4 → s.odu.settings = some x →
    ∃ t, exec (.windowEnd c) s = .next t
      ∧ t.odu.sequence = s.odu.sequence + 1 ∧ t.odu.phase = s.odu.phase + 1
      ∧ t.odu.forward = 0 ∧ t.odu.reverse = 0 ∧ t.odu.chargeable = 0
      ∧ t.odu.history = s.odu.history.drop 1 ++ [s.odu.forward + s.odu.reverse]
      ∧ t.odu.speed = min (t.odu.history.sum * 36000 / x.k) 2500
      ∧ (s.odu.motion = .standing → (t.odu.motion = .moving ↔ 50 ≤ t.odu.speed))
      ∧ (s.odu.motion = .moving → (t.odu.motion = .standing ↔ t.odu.speed < 20))
      ∧ t.odu.implausibleRun =
          (if x.nmax < s.odu.forward + s.odu.reverse then min (s.odu.implausibleRun + 1) 3 else 0)
      ∧ t.odu.lossRun =
          (if s.hasGateway = true ∧ s.odu.report.moving = true ∧ s.odu.forward + s.odu.reverse = 0
            then min (s.odu.lossRun + 1) 8 else 0)
      ∧ t.odu.recoveryRun =
          (if s.odu.forward + s.odu.reverse ≤ x.nmax ∧ 1 ≤ s.odu.forward + s.odu.reverse
              ∧ (s.hasGateway = true → s.odu.report.moving = true)
            then min (s.odu.recoveryRun + 1) 16 else 0)
      ∧ (t.odu.lossRun = 8 → t.odu.sensor = .lost)
      ∧ (t.odu.lossRun ≠ 8 → s.odu.sensor = .ok →
          t.odu.sensor = if x.nmax < s.odu.forward + s.odu.reverse then .suspect else .ok)
      ∧ (t.odu.lossRun ≠ 8 → s.odu.sensor = .suspect →
          t.odu.sensor = if t.odu.implausibleRun = 3 then .fault
            else if x.nmax < s.odu.forward + s.odu.reverse then .suspect else .ok)
      ∧ (t.odu.lossRun ≠ 8 → (s.odu.sensor = .fault ∨ s.odu.sensor = .lost) →
          t.odu.sensor = if t.odu.recoveryRun = 16 then .ok else s.odu.sensor)
      ∧ t.odu.debt = s.odu.debt ∧ t.odu.lineA = s.odu.lineA ∧ t.odu.lineB = s.odu.lineB
      ∧ t.odu.clock = s.odu.clock ∧ t.odu.clockSet = s.odu.clockSet ∧ t.odu.report = s.odu.report
      ∧ t.odu.settings = s.odu.settings
      ∧ t.pld = s.pld ∧ t.rtm = s.rtm ∧ t.supply = s.supply ∧ t.pending = s.pending
      ∧ (settleDue s = s →
          t.rsd.lampTest = s.rsd.lampTest.map (· - 1)
          ∧ t.sau.totalsTimer = s.sau.totalsTimer.map (· - 1)
          ∧ t.cbi.listen = s.cbi.listen.map (fun n => min (n + 1) 8)
          ∧ (s.pld.image ≠ .invalid → t.alm.holdCount =
              if s.alm.state = .clear ∧ c = true then s.alm.holdCount + 1 else 0)
          ∧ (s.meter ≠ .inoperative → ∀ a, s.stu.attempt = some a → a.placed = true → a.waits = false →
              t.stu.attempt = some { a with timer := a.timer.map (· - 1) })
          ∧ (s.meter ≠ .inoperative → (∀ e ∈ s.stu.unsettled, e.waits = false ∧ e.closingWaits = false) →
              t.stu.unsettled = s.stu.unsettled.map fun e => { e with timer := e.timer.map (· - 1) })
          ∧ t.alm.repeatTimer = (if s.alm.state = .active ∧ s.alm.acknowledged = false
              then s.alm.repeatTimer.map (· - 1) else s.alm.repeatTimer)
          ∧ ∀ total n d : Nat, total = s.odu.forward + s.odu.reverse →
              n = (if x.nmax < total then min s.odu.chargeable x.nmax else s.odu.chargeable) →
              d = (if x.nmax < total then s.odu.chargeable - x.nmax else 0) →
              t.fen.record = (fareWindow ⟨s.odu.sequence + 1, s.odu.forward, s.odu.reverse, n, d,
                t.odu.sensor, t.odu.motion, t.odu.speed⟩ s).fen.record
              ∧ t.trc.record = (if s.meter = .hired then s.trc.record.map fun r => { r with
                  hiredWindows := min (r.hiredWindows + 1) 16777215
                  chargeable := min (r.chargeable + n) 4294967295
                  allPulses := min (r.allPulses + total) 4294967295 } else s.trc.record)
              ∧ t.sau.counters.allPulses = (if s.sau.shift = .opened
                  then min (s.sau.counters.allPulses + total) 4294967295 else s.sau.counters.allPulses)
              ∧ t.sau.counters.discardedPulses = (if s.sau.shift = .opened
                  then min (s.sau.counters.discardedPulses + d) 4294967295
                  else s.sau.counters.discardedPulses)
              ∧ t.sau.counters.hiredWindows = (if s.sau.shift = .opened ∧ s.meter = .hired
                  then min (s.sau.counters.hiredWindows + 1) 4294967295 else s.sau.counters.hiredWindows)
              ∧ t.sau.counters.hiredPulses = (if s.sau.shift = .opened ∧ s.meter = .hired
                  then min (s.sau.counters.hiredPulses + total) 4294967295
                  else s.sau.counters.hiredPulses)
              ∧ t.sau.counters.unmeteredWindows = (if s.sau.shift ≠ .closed
                    ∧ (s.meter = .free ∨ s.meter = .booked) ∧ t.odu.motion = .moving
                    ∧ s.odu.report.rearSeat = true
                  then min (s.sau.counters.unmeteredWindows + 1) 4294967295
                  else s.sau.counters.unmeteredWindows)))
  ∧ (∀ c s, s.running = true → s.odu.phase < 4 → s.odu.settings = none → s.hasGateway = false →
    s.odu.forward = 0 → s.odu.reverse = 0 → s.odu.chargeable = 0 → s.odu.history = [0, 0, 0, 0] →
    s.odu.sensor = .ok →
    ∃ t, exec (.windowEnd c) s = .next t
      ∧ t.odu = { s.odu with
          sequence := s.odu.sequence + 1
          phase := s.odu.phase + 1
          speed := 0
          motion := .standing
          implausibleRun := 0
          lossRun := 0
          recoveryRun := 0 })
  ∧ (∀ c s, s.running = true → settleDue s = s →
    ∃ t, exec (.windowEnd c) s = .next t
      ∧ (s.cbi.dormant = true → t.cbi.dormant = true → t.cbi.dormancyTimer = s.cbi.dormancyTimer)
      ∧ (s.cbi.dormant = false → t.cbi.dormancyTimer =
          if s.hasGateway = true ∧ s.odu.report.ignition = false ∧ s.sau.shift = .closed
              ∧ s.alm.state = .clear ∧ (∀ m ∈ t.cbi.boxes, m.state = .empty)
            then min (s.cbi.dormancyTimer + 1) 240 else 0)
      ∧ (s.cbi.dormant = false → s.cbi.boxes.length = 8 →
          (s.trc.owed = true → t.cbi.enqueued (!t.trc.owed) 113 ([codeByte s.meter.code]
              ++ be 2 s.trc.lastTrip ++ [if s.trc.restricted then 1 else 0, codeByte s.sau.shift.code]))
          ∧ (s.sau.owed = true → t.cbi.enqueued (!t.sau.owed) 115 ([codeByte s.sau.shift.code,
              codeByte s.sau.stage] ++ be 2 s.sau.number ++ be 4 s.sau.openTime.toNat
              ++ [codeByte (recCode (s.sau.summary.reconciliation.map (·.result))),
                if s.sau.retainedLost then 1 else 0]))
          ∧ (s.cau.owed = true → t.cbi.enqueued (!t.cau.owed) 114
              [codeByte s.cau.floor.code, if s.cau.rearWaiting then 1 else 0])
          ∧ (∀ a, s.meter ≠ .inoperative → s.stu.attempt = some a →
              (a.state = .queued → a.placed = false →
                ∃ ok, t.stu.attempt = some { a with timer := a.timer.map (· - 1), placed := ok }
                  ∧ t.cbi.enqueued ok 80 (be 2 a.trip ++ be 1 a.number ++ be 3 a.requested))
              ∧ (a.state = .cancelling → a.waits = true →
                ∃ ok, t.stu.attempt = some { a with timer := a.timer.map (· - 1), waits := !ok }
                  ∧ t.cbi.enqueued ok 46 (be 2 a.trip ++ be 1 a.number))
              ∧ (a.state = .uncertain → a.waits = true →
                ∃ ok, t.stu.attempt = some { a with
                    queries := if ok then min (a.queries + 1) 255 else a.queries
                    timer := if ok then some 40 else none
                    waits := !ok }
                  ∧ t.cbi.enqueued ok 81 (be 2 a.trip ++ be 1 a.number)))
          ∧ (∀ front e back, s.meter ≠ .inoperative → s.stu.unsettled = front ++ e :: back →
              (∀ y ∈ front ++ back, y.trip ≠ e.trip ∧ y.waits = false ∧ y.closingWaits = false) →
              ∀ down, down = (fun y : UnsettledEntry => { y with timer := y.timer.map (· - 1) }) →
              (e.waits = true → e.closingWaits = false →
                ∃ ok, t.stu.unsettled = front.map down ++ { e with
                    queries := if ok then min (e.queries + 1) 255 else e.queries
                    left := if ok then e.left - 1 else e.left
                    timer := if ok then some 40 else none
                    waits := !ok } :: back.map down
                  ∧ t.cbi.enqueued ok 81 (be 2 e.trip ++ be 1 e.attempt))
              ∧ (e.waits = false → e.closingWaits = true →
                ∃ ok, t.stu.unsettled = front.map down ++ { e with
                    queries := if ok then min (e.queries + 1) 255 else e.queries
                    timer := e.timer.map (· - 1)
                    closingWaits := !ok } :: back.map down
                  ∧ t.cbi.enqueued ok 81 (be 2 e.trip ++ be 1 e.attempt)))
          ∧ (s.sau.shift = .closing → s.sau.stage = 2 → s.sau.totalsTimer.isSome = true →
              s.sau.totalsWaits = true →
              t.cbi.enqueued (!t.sau.totalsWaits) 82 (be 2 s.sau.number
                ++ be 3 s.sau.counters.cardApprovals
                ++ be 6 (s.sau.counters.card + s.sau.counters.cardTips)))
          ∧ (∀ a, s.sau.journalAnswer = some a → a.box = none →
              ∃ b, t.sau.journalAnswer = some { a with box := b } ∧ t.cbi.enqueued b.isSome 116 a.payload)
          ∧ (∀ a, s.sau.summaryAnswer = some a → a.box = none →
              ∃ b, t.sau.summaryAnswer = some { a with box := b } ∧ t.cbi.enqueued b.isSome 117 a.payload)))

/-- R9, R14: a second end that is due advances the clock and begins the count of window ends again; in a power gap with the
backup supply held, or in the image read, the retained counter advances it. That a due second end stands as phase 4 and has
its own command is the model's choice (log 5). -/
def Obligations.ClockAdvancesByTheSecond : Prop :=
  (∀ s, s.running = true → s.odu.phase = 4 →
    exec .secondEnd s = .next (s.setOdu { s.odu with phase := 0, clock := s.odu.clock + 1 }))
  ∧ (∀ s, s.supply.main = false → s.rtm.latch = false →
    exec .retainedSecondsTick s = .next (s.setOdu { s.odu with clock := s.odu.clock + 1 }))
  ∧ (∀ s, s.supply.main = true → s.pld.phase = .reading →
    exec .retainedSecondsTick s = .next (s.setOdu { s.odu with clock := s.odu.clock + 1 }))

/-- R15, R10, Table 11-2: a CLOCK_SET of four bytes, most significant first, sets clock and flag and is answered DONE; a
VEHICLE_STATE replaces the whole vehicle report and is not answered. -/
def Obligations.ClockAndVehicleReportAreReplaced : Prop :=
  (∀ s f (a b c d : Byte), s.delivers 59 f = true → f.payload = [a, b, c, d] →
    exec (.clockSet f) s = .next (answer 59 f .done ((received s).setOdu
      { s.odu with clock := (a ++ b ++ c ++ d : BitVec 32), clockSet := true })))
  ∧ (∀ s f (a b c d : Byte), s.delivers 72 f = true → f.payload = [a, b, c, d] →
    exec (.vehicleState f) s = .next ((received s).setOdu
      { s.odu with report := ⟨a != 0, b != 0, c != 0, min d.toNat 15⟩ }))

/-! ### Fare Engine -/

/-- R31, R32 (Table 2-9): a TARIFF_SELECT of a present tariff, unrestricted: preselected in FREE and BOOKED, staged in HIRED
and STOPPED, where the active tariff removes a staged one; the refusals in their order. -/
def Obligations.TariffSelectPreselectsOrStages : Prop :=
  ∀ s f b, s.delivers 40 f = true → f.payload = [b] →
    ((s.meter = .free ∨ s.meter = .booked) → s.trc.restricted = false →
      (s.fen.tariff b.toNat).isSome →
      exec (.tariffSelect f) s =
        .next (answer 40 f .done ((received s).setTrc { s.trc with preselected := b.toNat })))
    ∧ ((s.meter = .hired ∨ s.meter = .stopped) → s.trc.restricted = false →
      (s.fen.tariff b.toNat).isSome →
      exec (.tariffSelect f) s =
        .next (answer 40 f .done ((received s).setFen { s.fen with record := { s.fen.record with
          staged := if b.toNat = s.fen.record.active then none else some b.toNat } })))
    ∧ ((s.meter = .settling ∨ s.meter = .offDuty ∨ s.meter = .inoperative) →
      exec (.tariffSelect f) s = .next (answer 40 f .refusedState (received s)))
    ∧ ((s.meter = .free ∨ s.meter = .booked ∨ s.meter = .hired ∨ s.meter = .stopped) →
      s.trc.restricted = true →
      exec (.tariffSelect f) s = .next (answer 40 f .refusedParams (received s)))
    ∧ ((s.meter = .free ∨ s.meter = .booked ∨ s.meter = .hired ∨ s.meter = .stopped) →
      s.trc.restricted = false → s.fen.tariff b.toNat = none →
      exec (.tariffSelect f) s = .next (answer 40 f .refusedAbsent (received s)))

/-- R34, R35, R37: an extra that passes the checks joins the list and the total; the entry of a kind added last leaves both;
FARE_STATUS carries the new total, or is owed. Before the answer, only the fare record, the owed flag and the mailboxes
differ. The refusals of both in their order. -/
def Obligations.ExtrasMoveTheTotal : Prop :=
  (∀ s f b k, s.delivers 41 f = true → f.payload = [b] → (s.meter = .hired ∨ s.meter = .stopped) →
    s.fen.kind b.toNat = some k → s.fen.record.extras.length < 8 →
    (s.fen.record.extras.filter (·.kind == b.toNat)).length < k.limit →
    s.fen.record.total + k.amount ≤ 9999999 →
    ∃ u, exec (.extraAdd f) s = .next (answer 41 f .done u)
      ∧ u = { s with fen := u.fen, cbi := u.cbi } ∧ (received s).cbi.onlyMailboxes u.cbi
      ∧ u.fen = { s.fen with
          owed := u.fen.owed
          record := { s.fen.record with
            extras := s.fen.record.extras ++ [⟨b.toNat, k.amount⟩]
            total := s.fen.record.total + k.amount } }
      ∧ (s.cbi.boxes.length = 8 → u.cbi.carriesOrOwes u.fen.owed 112 (be 2 s.fen.record.trip
          ++ [codeByte s.meter.code, codeByte s.fen.record.active] ++ be 3 (s.fen.record.total + k.amount)
          ++ be 2 s.fen.record.drops)))
  ∧ (∀ s f b front e back, s.delivers 42 f = true → f.payload = [b] →
    (s.meter = .hired ∨ s.meter = .stopped) →
    s.fen.record.extras = front ++ e :: back → e.kind = b.toNat → (∀ x ∈ back, x.kind ≠ b.toNat) →
    ∃ u, exec (.extraRemove f) s = .next (answer 42 f .done u)
      ∧ u = { s with fen := u.fen, cbi := u.cbi } ∧ (received s).cbi.onlyMailboxes u.cbi
      ∧ u.fen = { s.fen with
          owed := u.fen.owed
          record := { s.fen.record with
            extras := front ++ back
            total := s.fen.record.total - e.amount } }
      ∧ (s.cbi.boxes.length = 8 → u.cbi.carriesOrOwes u.fen.owed 112 (be 2 s.fen.record.trip
          ++ [codeByte s.meter.code, codeByte s.fen.record.active] ++ be 3 (s.fen.record.total - e.amount)
          ++ be 2 s.fen.record.drops)))
  ∧ (∀ s f b, s.delivers 41 f = true → f.payload = [b] →
    (¬(s.meter = .hired ∨ s.meter = .stopped) →
      exec (.extraAdd f) s = .next (answer 41 f .refusedState (received s)))
    ∧ ((s.meter = .hired ∨ s.meter = .stopped) → s.fen.kind b.toNat = none →
      exec (.extraAdd f) s = .next (answer 41 f .refusedAbsent (received s)))
    ∧ (∀ k, (s.meter = .hired ∨ s.meter = .stopped) → s.fen.kind b.toNat = some k →
      (8 ≤ s.fen.record.extras.length ∨ k.limit ≤ (s.fen.record.extras.filter (·.kind == b.toNat)).length
        ∨ 9999999 < s.fen.record.total + k.amount) →
      exec (.extraAdd f) s = .next (answer 41 f .refusedLimit (received s))))
  ∧ (∀ s f b, s.delivers 42 f = true → f.payload = [b] →
    (¬(s.meter = .hired ∨ s.meter = .stopped) →
      exec (.extraRemove f) s = .next (answer 42 f .refusedState (received s)))
    ∧ ((s.meter = .hired ∨ s.meter = .stopped) → (∀ x ∈ s.fen.record.extras, x.kind ≠ b.toNat) →
      exec (.extraRemove f) s = .next (answer 42 f .refusedAbsent (received s))))

/-- R22, R24 to R28, R37, R99: a window taken in HIRED, nothing staged, under a working tariff with Q above 0: p rises by the
contribution c; n drops, at most four, each from a p of at least Q and within the cap, take Q from p and add A to M and to the
total. Then p stands at what is left, below Q; or, after four drops with Q or more left, at Q - 1 with RATE_LIMITED set and
reported; or, where the next drop would pass 9,999,999, at Q - 1 with CAPPED set. SENSOR_DEGRADED is set in FAULT and LOST. A
changed total, or an owed FARE_STATUS, enqueues FARE_STATUS with the figures as they then stand. R29: with a tariff staged,
the charged record then takes it (takeStaged); a change requests TARIFF_CHANGED and enqueues FARE_STATUS; an absent tariff is
dropped and the window is as with none staged. R24: in any other meter state the fare record is unchanged. -/
def Obligations.HiredWindowIsCharged : Prop :=
  (∀ (w : WindowRecord) (s : State) (flag d0 a dd td k : Nat) (m : Method) (q cd ct c : Int),
    s.meter = .hired → s.fen.record.staged = none → s.fen.record.drops ≤ 65535 →
    s.fen.record.total ≤ 9999999 → s.fen.record.working = ⟨⟨flag, d0, a, dd, td, m⟩, k⟩ →
    q = 4 * k * dd * td → 0 < q →
    cd = (if w.sensor = .ok ∨ w.sensor = .suspect then 4000 * (w.chargeable : Int) * td else 0) →
    ct = k * dd → c = (if m = .single then max cd ct else cd + ct) →
    ∀ u r r', u = fareWindow w s → r = s.fen.record → r' = u.fen.record →
      ∃ n : Nat, n ≤ 4
        ∧ (∀ j : Nat, j < n → (j + 1) * q ≤ r.p + c ∧ r.total + (j + 1) * a ≤ 9999999)
        ∧ r'.metered = r.metered + n * a ∧ r'.total = r.total + n * a
        ∧ r'.total ≤ 9999999 ∧ r'.drops = min (r.drops + n) 65535
        ∧ ((r.p + c - n * q < q ∧ r'.p = r.p + c - n * q ∧ u.sau = s.sau
              ∧ r'.flags = { r.flags with
                  degraded := r.flags.degraded || w.sensor == .fault || w.sensor == .lost })
          ∨ (n = 4 ∧ q ≤ r.p + c - n * q ∧ r'.p = q - 1
              ∧ u.sau = (if s.sau.shift = .closed then s.sau else { s.sau with counters := { s.sau.counters with
                  rateLimitedWindows := min (s.sau.counters.rateLimitedWindows + 1) 4294967295 } })
              ∧ r'.flags = { r.flags with
                  degraded := r.flags.degraded || w.sensor == .fault || w.sensor == .lost
                  rateLimited := true })
          ∨ (n < 4 ∧ q ≤ r.p + c - n * q ∧ 9999999 < r.total + n * a + a ∧ r'.p = q - 1 ∧ u.sau = s.sau
              ∧ r'.flags = { r.flags with
                  degraded := r.flags.degraded || w.sensor == .fault || w.sensor == .lost
                  capped := true }))
        ∧ r'.p < q
        ∧ r'.extras = r.extras ∧ r'.bookingFee = r.bookingFee
        ∧ r'.working = r.working ∧ r'.active = r.active ∧ r'.atStart = r.atStart
        ∧ r'.trip = r.trip ∧ r'.changes = r.changes ∧ r'.staged = none
        ∧ (r'.total = r.total → s.fen.owed = false → u.cbi = s.cbi)
        ∧ (s.cbi.dormant = false → s.cbi.boxes.length = 8 → (r'.total ≠ r.total ∨ s.fen.owed = true) →
            s.cbi.onlyMailboxes u.cbi
            ∧ (u.fen.owed = true ∨ (u.fen.owed = false ∧ u.cbi.carries 112
                (be 2 r'.trip ++ [4, codeByte r'.active] ++ be 3 r'.total ++ be 2 r'.drops))))
        ∧ u = { s with fen := u.fen, sau := u.sau, rsd := u.rsd, cau := u.cau, cbi := u.cbi })
  ∧ (∀ (w : WindowRecord) (s : State) (i : Nat), s.meter = .hired → s.fen.record.staged = some i →
    ∀ u v, u = fareWindow w s →
      v = fareWindow w (s.setFen { s.fen with record := { s.fen.record with staged := none } }) →
      (s.fen.tariff i = none → u = v)
      ∧ (∀ x, s.fen.tariff i = some x → s.cbi.dormant = false → s.cbi.boxes.length = 8 →
          (u.fen.record, true) = ({ v.fen.record with staged := some i }).takeStaged s.fen s.odu.k w.sequence
          ∧ u.sau = v.sau ∧ s.cbi.onlyMailboxes u.cbi
          ∧ u.cbi.enqueued (!u.fen.owed) 112 (be 2 u.fen.record.trip ++ [4, codeByte i]
              ++ be 3 u.fen.record.total ++ be 2 u.fen.record.drops)
          ∧ u.cau = { s.cau with queue := u.cau.queue, chime := u.cau.chime }
          ∧ ((s.alm.state = .active ∨ 4 ≤ s.cau.queue.length) → u.cau = s.cau)
          ∧ (s.alm.state = .clear → s.cau.queue.length < 4 →
              (s.cau.chime ≠ none → u.cau.chime = s.cau.chime ∧ u.cau.queue = s.cau.queue ++ [.tariffChanged])
              ∧ (s.cau.chime = none → s.cau.queue = [] →
                  u.cau.chime = some ⟨.tariffChanged, 0, 960, 8, true⟩ ∧ u.cau.queue = []))
          ∧ u = { s with fen := u.fen, sau := u.sau, cau := u.cau, cbi := u.cbi }))
  ∧ (∀ (w : WindowRecord) (s u : State), s.meter ≠ .hired → u = fareWindow w s →
      u.fen = { s.fen with owed := u.fen.owed } ∧ u.trc = s.trc ∧ u.sau = s.sau
      ∧ (s.fen.owed = false → u = s)
      ∧ (s.fen.owed = true → s.cbi.dormant = false → s.cbi.boxes.length = 8 →
          s.cbi.onlyMailboxes u.cbi
          ∧ u.cbi.enqueued (!u.fen.owed) 112 (be 2 s.fen.record.trip
              ++ [codeByte s.meter.code, codeByte s.fen.record.active]
              ++ be 3 s.fen.record.total ++ be 2 s.fen.record.drops)
          ∧ u = { s with fen := u.fen, cbi := u.cbi }))

/-- R29, R30: a present staged tariff takes effect: the working tariff becomes the staged record with the ODU's K, and p is
rescaled by Qnew / Qold toward zero, Qnew at the K copied again (log 34); an exact result below the 44-bit range leaves a free
value within it, at or below 0 (log 35). The active index follows; the change is listed, or CHANGES_UNLISTED set with four
entries held. An absent one is dropped. -/
def Obligations.StagedTariffTakesEffect : Prop :=
  ∀ (r : FareRecord) (f : Fen) (k : Nat) (seq : Seq) (i : Nat), r.staged = some i →
    (f.tariff i = none → r.takeStaged f k seq = ({ r with staged := none }, false))
    ∧ (∀ t (x : Int), f.tariff i = some t →
      x = (r.p * (4 * k * t.dd * t.td : Int)).tdiv
            (4 * r.working.k * r.working.tariff.dd * r.working.tariff.td : Int) →
      ∃ n, r.takeStaged f k seq = (n, true)
        ∧ (-8796093022208 ≤ x → n.p = x)
        ∧ (x < -8796093022208 → -8796093022208 ≤ n.p ∧ n.p ≤ 0)
        ∧ n.working = ⟨t, k⟩ ∧ n.active = i ∧ n.staged = none
        ∧ (r.changes.length < 4 → n.changes = r.changes ++ [⟨i, seq⟩] ∧ n.flags = r.flags)
        ∧ (4 ≤ r.changes.length → n.changes = r.changes
            ∧ n.flags = { r.flags with changesUnlisted := true })
        ∧ n.total = r.total ∧ n.metered = r.metered ∧ n.drops = r.drops ∧ n.extras = r.extras
        ∧ n.trip = r.trip ∧ n.atStart = r.atStart ∧ n.bookingFee = r.bookingFee)

/-- R21: every step keeps the fare total equal to M, the extras and the booking fee, and at or below 9,999,999. -/
def Obligations.StepKeepsFareTotal : Prop :=
  ∀ s t, FareSound s.fen → step s = .next t → FareSound t.fen

/-- The state after reset is sound in every sense the invariants use. Which state that is, is the model's choice: the first
start of a part never powered before (log 1), its volatile values before load completion (log 2) and its retained records at
their cold values (log 3). -/
def Obligations.ResetIsSound : Prop :=
  FareSound State.reset.fen ∧ InterfaceSound State.reset.cbi ∧ LampSound State.reset
    ∧ CabinSound State.reset ∧ LedgerSound State.reset ∧ LifetimeInRange State.reset.sau.lifetime
    ∧ MoneySound State.reset

/-! ### Trip Controller -/

/-- R23, R37, R45, R46, R48, R64: a HIRE carried out: the new trip record, the booking consumed, the meter HIRED, and the fare
record of the hire start at the chosen tariff `j`, the booking's present one, else the preselected one, or, where that is
absent, at the lowest-numbered present one. METER_STATE and FARE_STATUS carry that, or are owed. -/
def Obligations.HireStartsTheTrip : Prop :=
  ∀ s f i j t, s.delivers 32 f = true → (s.meter = .free ∨ s.meter = .booked) → s.trc.restricted = false →
    (s.odu.sensor = .ok ∨ s.odu.sensor = .suspect) → s.stu.unsettled.length < 4 →
    s.trc.lastTrip < 65535 →
    (∀ b, s.trc.booking = some b → (s.fen.tariff b.tariff).isSome → j = b.tariff) →
    ((∀ b, s.trc.booking = some b → s.fen.tariff b.tariff = none) → j = s.trc.preselected) →
    s.fen.tariff i = some t → ((s.fen.tariff j).isSome → i = j) →
    (s.fen.tariff j = none → i ≤ 8 ∧ ∀ n, n < i → s.fen.tariff n = none) →
    ∃ u r, exec (.hire f) s = .next (answer 32 f .done u)
      ∧ u.trc = { s.trc with
          held := .hired
          lastTrip := s.trc.lastTrip + 1
          record := some r
          booking := none
          owed := u.trc.owed }
      ∧ r.trip = s.trc.lastTrip + 1 ∧ r.shift = s.sau.number
      ∧ r.startTime = (if s.odu.clockSet then s.odu.clock else 0) ∧ r.clockUnset = !s.odu.clockSet
      ∧ r.reference = s.trc.booking.map (·.reference) ∧ r.alarmDuring = (s.alm.state == .active)
      ∧ r.hiredWindows = 0 ∧ r.chargeable = 0 ∧ r.allPulses = 0 ∧ r.powerGap = false
      ∧ u.fen.record = {
          trip := s.trc.lastTrip + 1
          active := i
          working := ⟨t, s.odu.k⟩
          staged := none
          atStart := i
          p := -(4 * s.odu.k * t.td * t.d0 : Int)
          drops := 0
          metered := t.f
          extras := []
          bookingFee := if s.trc.booking.isSome then s.fen.bookingFee else 0
          total := t.f + (if s.trc.booking.isSome then s.fen.bookingFee else 0)
          changes := []
          flags := ⟨false, false, false, false⟩ }
      ∧ u.fen = { s.fen with record := u.fen.record, owed := u.fen.owed }
      ∧ u.rsd = { s.rsd with freeLamp := false }
      ∧ (s.cbi.boxes.length = 8 →
          u.cbi.carriesOrOwes u.trc.owed 113 (meterBytes 4 (s.trc.lastTrip + 1) false s.sau.shift)
          ∧ u.cbi.carriesOrOwes u.fen.owed 112 (be 2 (s.trc.lastTrip + 1) ++ [4, codeByte i]
              ++ be 3 u.fen.record.total ++ be 2 0))
      ∧ (received s).cbi.onlyMailboxes u.cbi
      ∧ u = { s with trc := u.trc, fen := u.fen, rsd := u.rsd, cbi := u.cbi }

/-- R44, R47: the checks of HIRE, in order, after the INOPERATIVE check; the motion and alarm states play no part. -/
def Obligations.HireIsRefusedInOrder : Prop :=
  ∀ s f, s.delivers 32 f = true →
    (s.meter = .inoperative → exec (.hire f) s = .next (answer 32 f .refusedParams (received s)))
    ∧ (s.meter ≠ .inoperative → ¬(s.meter = .free ∨ s.meter = .booked) →
      exec (.hire f) s = .next (answer 32 f .refusedState (received s)))
    ∧ ((s.meter = .free ∨ s.meter = .booked) → s.trc.restricted = true →
      exec (.hire f) s = .next (answer 32 f .refusedParams (received s)))
    ∧ ((s.meter = .free ∨ s.meter = .booked) → s.trc.restricted = false →
      (s.odu.sensor = .fault ∨ s.odu.sensor = .lost) →
      exec (.hire f) s = .next (answer 32 f .refusedSensor (received s)))
    ∧ ((s.meter = .free ∨ s.meter = .booked) → s.trc.restricted = false →
      (s.odu.sensor = .ok ∨ s.odu.sensor = .suspect) → 4 ≤ s.stu.unsettled.length →
      exec (.hire f) s = .next (answer 32 f .refusedUnsettled (received s)))
    ∧ ((s.meter = .free ∨ s.meter = .booked) → s.trc.restricted = false →
      (s.odu.sensor = .ok ∨ s.odu.sensor = .suspect) → s.stu.unsettled.length < 4 →
      65535 ≤ s.trc.lastTrip →
      exec (.hire f) s = .next (answer 32 f .refusedLimit (received s)))

/-- R44, R49, R50, R64: a STOP in HIRED and STANDING stamps the stop time and makes the meter STOPPED, the staged tariff kept;
a RESUME in STOPPED, unrestricted, makes it HIRED; METER_STATE carries the new state, or is owed; and the refusals of both. -/
def Obligations.StopAndResumeMoveTheMeter : Prop :=
  (∀ s f, s.delivers 33 f = true → s.meter = .hired → s.odu.motion = .standing →
    ∃ u, exec (.stop f) s = .next (answer 33 f .done u)
      ∧ u.trc = { s.trc with
          held := .stopped
          record := s.trc.record.map fun r => { r with
            stopTime := if s.odu.clockSet then s.odu.clock else 0
            clockUnset := r.clockUnset || !s.odu.clockSet }
          owed := u.trc.owed }
      ∧ (s.cbi.boxes.length = 8 → u.cbi.carriesOrOwes u.trc.owed 113
          (meterBytes 5 s.trc.lastTrip s.trc.restricted s.sau.shift))
      ∧ u.rsd = { s.rsd with freeLamp := false } ∧ (received s).cbi.onlyMailboxes u.cbi
      ∧ u = { s with trc := u.trc, rsd := u.rsd, cbi := u.cbi })
  ∧ (∀ s f, s.delivers 33 f = true → s.meter = .hired → s.odu.motion = .moving →
    exec (.stop f) s = .next (answer 33 f .refusedMoving (received s)))
  ∧ (∀ s f, s.delivers 33 f = true → s.meter = .inoperative →
    exec (.stop f) s = .next (answer 33 f .refusedParams (received s)))
  ∧ (∀ s f, s.delivers 34 f = true → s.meter = .inoperative →
    exec (.resume f) s = .next (answer 34 f .refusedParams (received s)))
  ∧ (∀ s f, s.delivers 33 f = true → s.meter ≠ .inoperative → s.meter ≠ .hired →
    exec (.stop f) s = .next (answer 33 f .refusedState (received s)))
  ∧ (∀ s f, s.delivers 34 f = true → s.meter ≠ .inoperative → s.meter ≠ .stopped →
    exec (.resume f) s = .next (answer 34 f .refusedState (received s)))
  ∧ (∀ s f, s.delivers 34 f = true → s.meter = .stopped → s.trc.restricted = true →
    exec (.resume f) s = .next (answer 34 f .refusedParams (received s)))
  ∧ (∀ s f, s.delivers 34 f = true → s.meter = .stopped → s.trc.restricted = false →
    ∃ u, exec (.resume f) s = .next (answer 34 f .done u)
      ∧ u.trc = { s.trc with held := .hired, owed := u.trc.owed }
      ∧ (s.cbi.boxes.length = 8 → u.cbi.carriesOrOwes u.trc.owed 113
          (meterBytes 4 s.trc.lastTrip false s.sau.shift))
      ∧ u.rsd = { s.rsd with freeLamp := false } ∧ (received s).cbi.onlyMailboxes u.cbi
      ∧ u = { s with trc := u.trc, rsd := u.rsd, cbi := u.cbi })

/-- R44, R51, R64, R69, R89: a SETTLE in STOPPED and STANDING opens a session for a fare total above 0, or closes the trip
PAID with no tender for a fare total of 0 (outside a session the tenders list is empty: R70, and an invariant in O35).
METER_STATE carries SETTLING, or is owed, and SETTLE_REPORT the session, or is dropped and counted. The refusals in their
order. -/
def Obligations.SettleOpensASession : Prop :=
  (∀ s f r, s.delivers 35 f = true → s.meter = .stopped → s.odu.motion = .standing →
    s.trc.record = some r → 0 < s.fen.record.total →
    ∃ u, exec (.settle f) s = .next (answer 35 f .done u)
      ∧ u.trc = { s.trc with held := .settling, owed := u.trc.owed }
      ∧ u.stu = { s.stu with
          session := some ⟨r.trip, r.shift, s.fen.record.total, 0⟩
          tenders := []
          lastEnding := .none }
      ∧ (s.cbi.boxes.length = 8 →
          u.cbi.carriesOrOwes u.trc.owed 113 (meterBytes 6 s.trc.lastTrip s.trc.restricted s.sau.shift)
          ∧ (received s).cbi.reported u.cbi u.stu.reportBytes)
      ∧ u.rsd = { s.rsd with freeLamp := false } ∧ (received s).cbi.onlyMailboxes u.cbi
      ∧ u = { s with trc := u.trc, stu := u.stu, rsd := u.rsd, cbi := u.cbi })
  ∧ (∀ s f r, s.delivers 35 f = true → s.meter = .stopped → s.odu.motion = .standing →
    s.trc.record = some r → s.fen.record.total = 0 → s.stu.tenders = [] →
    ∃ u, exec (.settle f) s = .next (answer 35 f .done u)
      ∧ TripClosed s u r [] .paid 0
      ∧ u.stu = { s.stu with session := none, tenders := [] }
      ∧ u.cau.chime = s.cau.chime ∧ u.cau.queue = s.cau.queue)
  ∧ (∀ s f, s.delivers 35 f = true →
    (s.meter = .inoperative → exec (.settle f) s = .next (answer 35 f .refusedParams (received s)))
    ∧ (s.meter ≠ .inoperative → s.meter ≠ .stopped →
      exec (.settle f) s = .next (answer 35 f .refusedState (received s)))
    ∧ (s.meter = .stopped → s.odu.motion = .moving →
      exec (.settle f) s = .next (answer 35 f .refusedMoving (received s))))

/-- R44, R52: a VOID in STOPPED, or in SETTLING with no attempt open, closes the trip WAIVED, or PART_WAIVED with a tender
held; the amount waived is the fare total less the tender amounts. The refusals in their order. -/
def Obligations.VoidWaivesWhatIsLeft : Prop :=
  (∀ s f r, s.delivers 36 f = true →
    (s.meter = .stopped ∨ (s.meter = .settling ∧ s.stu.attempt = none)) → s.trc.record = some r →
    ∃ u, exec (.void f) s = .next (answer 36 f .done u)
      ∧ TripClosed s u r s.stu.tenders (if s.stu.tenders = [] then .waived else .partWaived)
          (s.fen.record.total - (s.stu.tenders.map (·.tender.amount)).sum)
      ∧ u.stu = { s.stu with session := none, tenders := [] }
      ∧ u.cau.chime = s.cau.chime ∧ u.cau.queue = s.cau.queue)
  ∧ (∀ s f, s.delivers 36 f = true → s.meter = .inoperative →
    exec (.void f) s = .next (answer 36 f .refusedParams (received s)))
  ∧ (∀ s f, s.delivers 36 f = true → s.meter ≠ .inoperative → s.meter ≠ .stopped → s.meter ≠ .settling →
    exec (.void f) s = .next (answer 36 f .refusedState (received s)))
  ∧ (∀ s f, s.delivers 36 f = true → s.meter = .settling → s.stu.attempt.isSome →
    exec (.void f) s = .next (answer 36 f .refusedBusy (received s)))

/-- R44, R53, R54, R64: a BOOKING_ASSIGN in FREE, unrestricted, writes the booking and makes the meter BOOKED; a
BOOKING_CANCEL that names the held booking, by its reference or by eight zero bytes, makes it FREE; METER_STATE carries the
new state, or is owed. The refusals of both in their order. -/
def Obligations.BookingsAreAssignedAndCancelled : Prop :=
  (∀ s f ref b, s.delivers 38 f = true → f.payload = ref ++ [b] → ref.length = 8 → b.toNat ≤ 8 →
    s.meter = .free → s.trc.restricted = false →
    ∃ u, exec (.bookingAssign f) s = .next (answer 38 f .done u)
      ∧ u.trc = { s.trc with held := .booked, booking := some ⟨ref, b.toNat⟩, owed := u.trc.owed }
      ∧ (s.cbi.boxes.length = 8 → u.cbi.carriesOrOwes u.trc.owed 113
          (meterBytes 3 s.trc.lastTrip false s.sau.shift))
      ∧ u.rsd = { s.rsd with freeLamp := false } ∧ (received s).cbi.onlyMailboxes u.cbi
      ∧ u = { s with trc := u.trc, rsd := u.rsd, cbi := u.cbi })
  ∧ (∀ s f bk, s.delivers 39 f = true → s.meter = .booked → s.trc.booking = some bk →
    (f.payload = bk.reference ∨ f.payload = List.replicate 8 0) →
    ∃ u, exec (.bookingCancel f) s = .next (answer 39 f .done u)
      ∧ u.trc = { s.trc with held := .free, booking := none, owed := u.trc.owed }
      ∧ (s.cbi.boxes.length = 8 → u.cbi.carriesOrOwes u.trc.owed 113
          (meterBytes 2 s.trc.lastTrip s.trc.restricted s.sau.shift))
      ∧ u.rsd = { s.rsd with freeLamp := s.rsd.lampTest.isNone }
      ∧ (received s).cbi.onlyMailboxes u.cbi
      ∧ u = { s with trc := u.trc, rsd := u.rsd, cbi := u.cbi })
  ∧ (∀ s f bk, s.delivers 39 f = true → s.meter = .booked → s.trc.booking = some bk →
    f.payload ≠ bk.reference → f.payload ≠ List.replicate 8 0 →
    exec (.bookingCancel f) s = .next (answer 39 f .refusedAbsent (received s)))
  ∧ (∀ s f, s.delivers 39 f = true →
    (s.meter = .inoperative → exec (.bookingCancel f) s = .next (answer 39 f .refusedParams (received s)))
    ∧ (s.meter ≠ .inoperative → s.meter ≠ .booked →
      exec (.bookingCancel f) s = .next (answer 39 f .refusedState (received s))))
  ∧ (∀ s f ref b, s.delivers 38 f = true → f.payload = ref ++ [b] → ref.length = 8 →
    (s.meter = .inoperative → exec (.bookingAssign f) s = .next (answer 38 f .refusedParams (received s)))
    ∧ (s.meter ≠ .inoperative → 8 < b.toNat →
      exec (.bookingAssign f) s = .next (answer 38 f .refusedFormat (received s)))
    ∧ (s.meter ≠ .inoperative → b.toNat ≤ 8 → s.meter ≠ .free →
      exec (.bookingAssign f) s = .next (answer 38 f .refusedState (received s)))
    ∧ (b.toNat ≤ 8 → s.meter = .free → s.trc.restricted = true →
      exec (.bookingAssign f) s = .next (answer 38 f .refusedParams (received s))))

/-! ### Settlement Unit -/

/-- R70, R71, R89: a cash tender below the due joins the tenders list; one that covers the due is recorded at the due and
closes the trip PAID, with no chime. SETTLE_REPORT carries the figures with the tender appended, or is dropped and counted.
The refusals in their order. -/
def Obligations.CashTenderIsRecorded : Prop :=
  (∀ s f x n tip due, s.delivers 44 f = true → f.payload = be 3 n ++ be 3 tip → 1 ≤ n → n ≤ 9999999 →
    tip ≤ 9999999 → s.meter = .settling → s.stu.session = some x → s.stu.attempt = none →
    s.stu.tenders.length < 3 → due = x.total - (s.stu.tenders.map (·.tender.amount)).sum →
    (n < due →
      ∃ u, exec (.tenderCash f) s = .next (answer 44 f .done u)
        ∧ u.stu = { s.stu with tenders := s.stu.tenders ++ [⟨⟨.cash, n, tip, none⟩, none⟩] }
        ∧ (s.cbi.boxes.length = 8 → (received s).cbi.reported u.cbi u.stu.reportBytes)
        ∧ (received s).cbi.onlyMailboxes u.cbi ∧ u = { s with stu := u.stu, cbi := u.cbi })
    ∧ (∀ r ts, due ≤ n → s.trc.record = some r → ts = s.stu.tenders ++ [⟨⟨.cash, due, tip, none⟩, none⟩] →
      ∃ u, exec (.tenderCash f) s = .next (answer 44 f .done u)
        ∧ TripClosed s u r ts .paid 0
        ∧ u.stu = { s.stu with session := none, tenders := [] }
        ∧ (s.cbi.boxes.length = 8 →
            (received s).cbi.reported u.cbi ({ s.stu with tenders := ts } : Stu).reportBytes)
        ∧ u.cau.chime = s.cau.chime ∧ u.cau.queue = s.cau.queue))
  ∧ (∀ s f n tip, s.delivers 44 f = true → f.payload = be 3 n ++ be 3 tip → n < 16777216 → tip < 16777216 →
    (s.meter = .inoperative → exec (.tenderCash f) s = .next (answer 44 f .refusedParams (received s)))
    ∧ (s.meter ≠ .inoperative → s.meter ≠ .settling →
      exec (.tenderCash f) s = .next (answer 44 f .refusedState (received s)))
    ∧ (s.meter = .settling → s.stu.attempt.isSome = true →
      exec (.tenderCash f) s = .next (answer 44 f .refusedBusy (received s)))
    ∧ (s.meter = .settling → s.stu.attempt = none → 3 ≤ s.stu.tenders.length →
      exec (.tenderCash f) s = .next (answer 44 f .refusedLimit (received s)))
    ∧ (s.meter = .settling → s.stu.attempt = none → s.stu.tenders.length < 3 →
      (n = 0 ∨ 9999999 < n ∨ 9999999 < tip) →
      exec (.tenderCash f) s = .next (answer 44 f .refusedAmount (received s))))

/-- R72, R73, R89: a card tender that passes the checks opens an attempt in QUEUED for the amount, or for the due where the
amount is 0; placed says whether a mailbox took the PAY_REQUEST. SETTLE_REPORT carries the attempt, or is dropped and counted.
That one EMPTY mailbox goes to the PAY_REQUEST and not to SETTLE_REPORT or the answer is the model's choice (log 9). The
refusals in their order. -/
def Obligations.CardTenderOpensAnAttempt : Prop :=
  (∀ s f x n due, s.delivers 45 f = true → f.payload = be 3 n → n < 16777216 → s.meter = .settling →
    s.hasTerminal = true → s.stu.attempt = none → s.stu.tenders.length < 3 → s.stu.session = some x →
    x.attempts < 255 → due = x.total - (s.stu.tenders.map (·.tender.amount)).sum → n ≤ due →
    ∃ u, exec (.tenderCard f) s = .next (answer 45 f .done u)
      ∧ u.stu = { s.stu with
          session := some { x with attempts := x.attempts + 1 }
          attempt := some {
            trip := x.trip
            shift := x.shift
            number := x.attempts + 1
            requested := if n = 0 then due else n
            state := .queued
            placed := s.cbi.firstEmpty.isSome
            cancelRequested := false
            timer := none
            queries := 0
            reference := none
            waits := false } }
      ∧ (s.cbi.boxes.length = 8 →
          u.cbi.enqueued s.cbi.firstEmpty.isSome 80
            (be 2 x.trip ++ be 1 (x.attempts + 1) ++ be 3 (if n = 0 then due else n))
          ∧ (received s).cbi.reported u.cbi u.stu.reportBytes)
      ∧ (received s).cbi.onlyMailboxes u.cbi ∧ u = { s with stu := u.stu, cbi := u.cbi })
  ∧ (∀ s f n, s.delivers 45 f = true → f.payload = be 3 n → n < 16777216 →
    (s.meter = .inoperative → exec (.tenderCard f) s = .next (answer 45 f .refusedParams (received s)))
    ∧ (s.meter ≠ .inoperative → s.meter ≠ .settling →
      exec (.tenderCard f) s = .next (answer 45 f .refusedState (received s)))
    ∧ (s.meter = .settling → s.hasTerminal = false →
      exec (.tenderCard f) s = .next (answer 45 f .refusedState (received s)))
    ∧ (s.meter = .settling → s.hasTerminal = true → s.stu.attempt.isSome = true →
      exec (.tenderCard f) s = .next (answer 45 f .refusedBusy (received s)))
    ∧ (s.meter = .settling → s.hasTerminal = true → s.stu.attempt = none → 3 ≤ s.stu.tenders.length →
      exec (.tenderCard f) s = .next (answer 45 f .refusedLimit (received s)))
    ∧ (∀ x, s.meter = .settling → s.hasTerminal = true → s.stu.attempt = none → s.stu.tenders.length < 3 →
      s.stu.session = some x →
      (255 ≤ x.attempts → exec (.tenderCard f) s = .next (answer 45 f .refusedLimit (received s)))
      ∧ (x.attempts < 255 → x.total - (s.stu.tenders.map (·.tender.amount)).sum < n →
        exec (.tenderCard f) s = .next (answer 45 f .refusedAmount (received s)))))

/-- R74, R77, R78, R81, R89: a cancel in OFFERED or AT_TERMINAL makes the attempt CANCELLING with the cancel timer at 120, the
PAY_CANCEL in a mailbox unless it waits; in QUEUED with nothing placed, or with the PAY_REQUEST still PENDING, it ends the
attempt CANCELLED; with the PAY_REQUEST on the line it sets cancel requested and aborts the mailbox; with cancel requested,
and in CANCELLING and UNCERTAIN, it is refused, and so with no attempt, outside SETTLING and in INOPERATIVE. SETTLE_REPORT
carries a changed attempt, or is dropped and counted. The model's choices: that one EMPTY mailbox goes to PAY_CANCEL (`waits`:
log 9), the frames of an ending aborted before SETTLE_REPORT is enqueued (log 38), and placed and cancel requested outside
QUEUED (log 42). -/
def Obligations.PayCancelActsByState : Prop :=
  (∀ s f, s.delivers 46 f = true →
    (s.meter = .inoperative → exec (.payCancel f) s = .next (answer 46 f .refusedParams (received s)))
    ∧ (s.meter ≠ .inoperative → (s.meter ≠ .settling ∨ s.stu.attempt = none) →
      exec (.payCancel f) s = .next (answer 46 f .refusedState (received s))))
  ∧ ∀ s f a, s.delivers 46 f = true → s.meter = .settling → s.stu.attempt = some a →
    ((a.state = .offered ∨ a.state = .atTerminal) →
      ∃ u, exec (.payCancel f) s = .next (answer 46 f .done u)
        ∧ u.stu = { s.stu with attempt := some { a with
            state := .cancelling
            cancelRequested := false
            timer := some 120
            waits := s.cbi.firstEmpty.isNone } }
        ∧ (s.cbi.boxes.length = 8 →
            u.cbi.enqueued s.cbi.firstEmpty.isSome 46 (be 2 a.trip ++ be 1 a.number)
            ∧ (received s).cbi.reported u.cbi u.stu.reportBytes)
        ∧ (received s).cbi.onlyMailboxes u.cbi ∧ u = { s with stu := u.stu, cbi := u.cbi })
    ∧ (a.state = .queued → a.placed = false → a.cancelRequested = false →
      ∃ u, exec (.payCancel f) s = .next (answer 46 f .done u)
        ∧ u.stu = { s.stu with attempt := none, lastEnding := .cancelled }
        ∧ (s.cbi.boxes.length = 8 → (received s).cbi.reported u.cbi u.stu.reportBytes)
        ∧ (received s).cbi.onlyMailboxes u.cbi ∧ u = { s with stu := u.stu, cbi := u.cbi })
    ∧ (a.state = .queued → a.placed = true → a.cancelRequested = false →
      ((∃ m ∈ s.cbi.boxes, m.state = .pending ∧ isAttemptFrame 80 a.trip a.number m.frame = true) →
        ∃ u, exec (.payCancel f) s = .next (answer 46 f .done u)
          ∧ u.stu = { s.stu with attempt := none, lastEnding := .cancelled }
          ∧ (s.cbi.boxes.length = 8 → (received s).cbi.reported u.cbi u.stu.reportBytes)
          ∧ u.cbi.freeOf 80 a.trip a.number
          ∧ (received s).cbi.onlyMailboxes u.cbi ∧ u = { s with stu := u.stu, cbi := u.cbi })
      ∧ ((∀ m ∈ s.cbi.boxes, m.state = .pending → isAttemptFrame 80 a.trip a.number m.frame = false) →
        exec (.payCancel f) s = .next (answer 46 f .done
          (((received s).setStu { s.stu with attempt := some { a with cancelRequested := true } }).abortWhere
            (isAttemptFrame 80 a.trip a.number)))))
    ∧ (a.state = .queued → a.cancelRequested = true →
      exec (.payCancel f) s = .next (answer 46 f .refusedState (received s)))
    ∧ ((a.state = .cancelling ∨ a.state = .uncertain) →
      exec (.payCancel f) s = .next (answer 46 f .refusedState (received s)))

/-- R84, R89: a deferral of an UNCERTAIN attempt moves it to the end of the unsettled list and closes the trip UNSETTLED; what
neither a tender nor the attempt covers is waived. SETTLE_REPORT carries the longer list, or is dropped and counted. In every
other case SETTLE_DEFER is refused. -/
def Obligations.DeferralClosesUnsettled : Prop :=
  (∀ s f a x r, s.delivers 47 f = true → s.meter = .settling → s.stu.attempt = some a →
    a.state = .uncertain → s.stu.session = some x → s.trc.record = some r →
    ∃ u e, exec (.settleDefer f) s = .next (answer 47 f .done u)
      ∧ TripClosed s u r s.stu.tenders .unsettled
          (x.total - (s.stu.tenders.map (·.tender.amount)).sum - a.requested)
      ∧ u.stu.attempt = none ∧ u.stu.unsettled = s.stu.unsettled ++ [e]
      ∧ u.stu.lastEnding = s.stu.lastEnding
      ∧ e.trip = a.trip ∧ e.shift = a.shift ∧ e.attempt = a.number ∧ e.requested = a.requested
      ∧ e.queries = a.queries ∧ e.left = 6 - a.queries ∧ e.timer = a.timer
      ∧ e.reference = a.reference ∧ e.waits = a.waits ∧ e.closingWaits = false
      ∧ (s.cbi.boxes.length = 8 → (received s).cbi.reported u.cbi
          ({ s.stu with attempt := none, unsettled := s.stu.unsettled ++ [e] } : Stu).reportBytes)
      ∧ u.cau.chime = s.cau.chime ∧ u.cau.queue = s.cau.queue)
  ∧ (∀ s f, s.delivers 47 f = true →
    (s.meter = .inoperative → exec (.settleDefer f) s = .next (answer 47 f .refusedParams (received s)))
    ∧ (s.meter ≠ .inoperative →
      (s.meter ≠ .settling ∨ ∀ a, s.stu.attempt = some a → a.state ≠ .uncertain) →
      exec (.settleDefer f) s = .next (answer 47 f .refusedState (received s))))

/-- R74 to R76, R78, R79, R89: a PAY_ACCEPTED for the open attempt moves OFFERED to AT_TERMINAL with the result timer at 480,
is ignored in AT_TERMINAL, CANCELLING and UNCERTAIN, and in QUEUED moves to AT_TERMINAL, or to CANCELLING where a cancel was
requested, with the PAY_REQUEST aborted. It is not answered. The outcome of the PAY_REQUEST's mailbox moves a QUEUED attempt:
SENT to OFFERED with the offer timer at 20, or to CANCELLING; ABORTED ends it CANCELLED and FAILED NOT_TAKEN. A PAY_CANCEL
that does not wait stands in a mailbox; SETTLE_REPORT carries a changed attempt, or is dropped and counted. R82, R90: in
INOPERATIVE, or for an unsettled entry, a PAY_ACCEPTED changes nothing; for neither it is stray. The model's choices: that one
EMPTY mailbox goes to PAY_CANCEL (`waits`) before SETTLE_REPORT (log 9) and before the PAY_REQUEST is aborted, SETTLE_REPORT
coming after an abort (log 38), and placed and cancel requested outside QUEUED (log 42). -/
def Obligations.PayAcceptedStartsTheResultTimer : Prop :=
  (∀ s f a, s.delivers 64 f = true → s.meter ≠ .inoperative → s.stu.attempt = some a →
    a.trip < 65536 → a.number < 256 → f.payload = be 2 a.trip ++ be 1 a.number →
    (a.state = .offered →
      ∃ u, exec (.payAccepted f) s = .next u
        ∧ u.stu = { s.stu with attempt := some { a with state := .atTerminal, timer := some 480 } }
        ∧ (s.cbi.boxes.length = 8 → (received s).cbi.reported u.cbi u.stu.reportBytes)
        ∧ (received s).cbi.onlyMailboxes u.cbi ∧ u = { s with stu := u.stu, cbi := u.cbi })
    ∧ (a.state = .queued →
      ∃ u, exec (.payAccepted f) s = .next u
        ∧ (a.cancelRequested = false →
            u.stu = { s.stu with attempt := some { a with state := .atTerminal, timer := some 480 } })
        ∧ (a.cancelRequested = true → u.stu = { s.stu with attempt := some { a with
            state := .cancelling
            cancelRequested := false
            timer := some 120
            waits := s.cbi.firstEmpty.isNone } })
        ∧ (s.cbi.boxes.length = 8 →
            (a.cancelRequested = true → s.cbi.firstEmpty.isSome = true →
              u.cbi.carries 46 (be 2 a.trip ++ be 1 a.number))
            ∧ (received s).cbi.reported u.cbi u.stu.reportBytes)
        ∧ u.cbi.freeOf 80 a.trip a.number
        ∧ (received s).cbi.onlyMailboxes u.cbi ∧ u = { s with stu := u.stu, cbi := u.cbi })
    ∧ ((a.state = .atTerminal ∨ a.state = .cancelling ∨ a.state = .uncertain) →
      exec (.payAccepted f) s = .next (received s)))
  ∧ (∀ s i f a, s.cbi.dormant = false → s.stu.attempt = some a → a.state = .queued → a.placed = true →
    f.owner = .stu → f.topic = 80 → f.payload.take 3 = be 2 a.trip ++ be 1 a.number →
    ∀ o u, u = mailboxOutcome i f o s →
      (o = .sent → a.cancelRequested = false →
        u.stu = { s.stu with attempt := some { a with state := .offered, timer := some 20 } })
      ∧ (o = .sent → a.cancelRequested = true →
        u.stu = { s.stu with attempt := some { a with
          state := .cancelling
          cancelRequested := false
          timer := some 120
          waits := s.cbi.firstEmpty.isNone } })
      ∧ (o = .aborted → u.stu = { s.stu with attempt := none, lastEnding := .cancelled })
      ∧ (o = .failed → u.stu = { s.stu with attempt := none, lastEnding := .notTaken })
      ∧ (s.cbi.boxes.length = 8 →
          (o = .sent → a.cancelRequested = true →
            u.cbi.enqueued s.cbi.firstEmpty.isSome 46 (be 2 a.trip ++ be 1 a.number))
          ∧ s.cbi.reported u.cbi u.stu.reportBytes)
      ∧ s.cbi.onlyMailboxes u.cbi ∧ u = { s with stu := u.stu, cbi := u.cbi })
  ∧ (∀ s f trip number, s.delivers 64 f = true → trip < 65536 → number < 256 →
    f.payload = be 2 trip ++ be 1 number →
    (∀ a, s.stu.attempt = some a → a.trip = trip → a.number = number → s.meter = .inoperative →
      exec (.payAccepted f) s = .next (received s))
    ∧ ((∀ a, s.stu.attempt = some a → a.trip ≠ trip ∨ a.number ≠ number) →
      ((∃ e ∈ s.stu.unsettled, e.trip = trip ∧ e.attempt = number) →
        exec (.payAccepted f) s = .next (received s))
      ∧ ((∀ e ∈ s.stu.unsettled, e.trip ≠ trip ∨ e.attempt ≠ number) → s.sau.shift ≠ .closed →
        exec (.payAccepted f) s = .next ((received s).setSau { s.sau with
          counters := { s.sau.counters with
            strayFrames := min (s.sau.counters.strayFrames + 1) 65535 } }))
      ∧ ((∀ e ∈ s.stu.unsettled, e.trip ≠ trip ∨ e.attempt ≠ number) → s.sau.shift = .closed →
        exec (.payAccepted f) s = .next (received s))))

/-- R74, R80, R81, R89, R99: a result for the open attempt, in any of its states, ends it: DECLINED (also for APPROVED of 0),
CANCELLED, or APPROVED, which appends a card tender of the approved amount, or of the requested amount where more was
approved, the rest being reported as terminal excess, and closes the trip PAID where it covers the due. No frame of the
attempt is left to be sent. SETTLE_REPORT carries the figures as they then stand, or is dropped and counted; that the frames
are aborted before it is enqueued is the model's choice (log 38). -/
def Obligations.PayResultEndsTheAttempt : Prop :=
  ∀ s f a x o approved tip paid, s.delivers 65 f = true → s.meter = .settling → s.stu.attempt = some a →
    a.trip < 65536 → a.number < 256 → approved ≤ 9999999 → tip ≤ 9999999 → s.stu.session = some x →
    f.payload = be 2 a.trip ++ be 1 a.number ++ be 1 o ++ be 3 approved ++ be 3 tip →
    paid = (s.stu.tenders.map (·.tender.amount)).sum →
    ((o = 2 ∨ (o = 1 ∧ approved = 0)) →
      ∃ u, exec (.payResult f) s = .next u
        ∧ u.stu = { s.stu with attempt := none, lastEnding := .declined }
        ∧ u.cau = (requestChime .declined s).cau
        ∧ (s.cbi.boxes.length = 8 → (received s).cbi.reported u.cbi (be 2 x.trip ++ be 3 (x.total - paid)
            ++ [codeByte s.stu.tenders.length, 0, 0, 2, codeByte s.stu.unsettled.length]))
        ∧ u.cbi.freeOf 80 a.trip a.number ∧ u.cbi.freeOf 46 a.trip a.number
        ∧ u.cbi.freeOf 81 a.trip a.number
        ∧ (received s).cbi.onlyMailboxes u.cbi ∧ u = { s with stu := u.stu, cau := u.cau, cbi := u.cbi })
    ∧ (o = 3 →
      ∃ u, exec (.payResult f) s = .next u
        ∧ u.stu = { s.stu with attempt := none, lastEnding := .cancelled }
        ∧ (s.cbi.boxes.length = 8 → (received s).cbi.reported u.cbi (be 2 x.trip ++ be 3 (x.total - paid)
            ++ [codeByte s.stu.tenders.length, 0, 0, 3, codeByte s.stu.unsettled.length]))
        ∧ u.cbi.freeOf 80 a.trip a.number ∧ u.cbi.freeOf 46 a.trip a.number
        ∧ u.cbi.freeOf 81 a.trip a.number
        ∧ (received s).cbi.onlyMailboxes u.cbi ∧ u = { s with stu := u.stu, cbi := u.cbi })
    ∧ (∀ v, o = 1 → 0 < approved →
      v = (if a.requested < approved ∧ s.sau.shift ≠ .closed
        then s.setSau { s.sau with
          counters := { s.sau.counters with
            terminalExcess := min (s.sau.counters.terminalExcess + (approved - a.requested)) 281474976710655 } }
        else s) →
      (paid + min approved a.requested < x.total →
        ∃ u, exec (.payResult f) s = .next u
          ∧ u.stu = { s.stu with
              attempt := none
              lastEnding := .approved
              tenders := s.stu.tenders
                ++ [⟨⟨.card, min approved a.requested, tip, a.reference⟩, some a.number⟩] }
          ∧ u.sau = v.sau
          ∧ (s.cbi.boxes.length = 8 → (received s).cbi.reported u.cbi
              (be 2 x.trip ++ be 3 (x.total - (paid + min approved a.requested))
                ++ [codeByte (s.stu.tenders.length + 1), 0, 0, 1, codeByte s.stu.unsettled.length]))
          ∧ u.cbi.freeOf 80 a.trip a.number ∧ u.cbi.freeOf 46 a.trip a.number
          ∧ u.cbi.freeOf 81 a.trip a.number
          ∧ (received s).cbi.onlyMailboxes u.cbi
          ∧ u = { s with stu := u.stu, sau := u.sau, cbi := u.cbi })
      ∧ (∀ r, x.total ≤ paid + min approved a.requested → s.trc.record = some r →
        ∃ u, exec (.payResult f) s = .next u
          ∧ TripClosed v u r (s.stu.tenders
              ++ [⟨⟨.card, min approved a.requested, tip, a.reference⟩, some a.number⟩]) .paid 0
          ∧ u.stu = { s.stu with
              session := none
              tenders := []
              attempt := none
              lastEnding := .approved }
          ∧ u.cau.chime = (requestChime .paid s).cau.chime
          ∧ u.cau.queue = (requestChime .paid s).cau.queue
          ∧ (s.cbi.boxes.length = 8 → (received s).cbi.reported u.cbi (be 2 x.trip ++ be 3 0
              ++ [codeByte (s.stu.tenders.length + 1), 0, 0, 1, codeByte s.stu.unsettled.length]))
          ∧ u.cbi.freeOf 80 a.trip a.number ∧ u.cbi.freeOf 46 a.trip a.number
          ∧ u.cbi.freeOf 81 a.trip a.number))

/-- R82, R86, R89, R90, R102, R103: a result whose numbers are not those of an open attempt, for an unsettled entry, removes
it and is counted; its journal record gains the card tender and becomes PAID, or becomes UNPAID; SETTLE_REPORT carries the
shorter list, or is dropped and counted. One that matches nothing is counted as a stray frame while the shift is not CLOSED,
and so is a malformed one, whatever its numbers. In INOPERATIVE one for the open attempt is ignored. -/
def Obligations.LateResultsAreResolvedOrStray : Prop :=
  (∀ s f trip number o approved tip, s.delivers 65 f = true →
    (∀ a, s.stu.attempt = some a → a.trip ≠ trip ∨ a.number ≠ number) → trip < 65536 →
    number < 256 → approved ≤ 9999999 → tip ≤ 9999999 →
    f.payload = be 2 trip ++ be 1 number ++ be 1 o ++ be 3 approved ++ be 3 tip →
    (∀ e, s.entryOf trip number = some e → o = 1 → 0 < approved →
      ∃ u x, exec (.payResult f) s = .next u
        ∧ x = (⟨e.trip, e.requested, true, min approved e.requested, tip, approved - e.requested,
            e.reference⟩ : Resolution)
        ∧ u.stu = { s.stu with unsettled := s.stu.unsettled.eraseP fun y => y.trip == e.trip }
        ∧ u.sau = { s.sau with
            counters := s.sau.counters.resolve x
            journal := s.sau.journal.map fun r => if r.trip = e.trip then { r with
                tenders := r.tenders ++ [⟨.card, min approved e.requested, tip, e.reference⟩]
                outcome := some .paid } else r }
        ∧ (s.cbi.boxes.length = 8 → (received s).cbi.reported u.cbi u.stu.reportBytes)
        ∧ (received s).cbi.onlyMailboxes u.cbi ∧ u = { s with stu := u.stu, sau := u.sau, cbi := u.cbi })
    ∧ (∀ e, s.entryOf trip number = some e → (o = 2 ∨ o = 3 ∨ (o = 1 ∧ approved = 0)) →
      ∃ u x, exec (.payResult f) s = .next u
        ∧ x = (⟨e.trip, e.requested, false, 0, 0, 0, e.reference⟩ : Resolution)
        ∧ u.stu = { s.stu with unsettled := s.stu.unsettled.eraseP fun y => y.trip == e.trip }
        ∧ u.sau = { s.sau with
            counters := s.sau.counters.resolve x
            journal := s.sau.journal.map fun r =>
              if r.trip = e.trip then { r with outcome := some .unpaid } else r }
        ∧ (s.cbi.boxes.length = 8 → (received s).cbi.reported u.cbi u.stu.reportBytes)
        ∧ (received s).cbi.onlyMailboxes u.cbi ∧ u = { s with stu := u.stu, sau := u.sau, cbi := u.cbi })
    ∧ (s.entryOf trip number = none → 1 ≤ o → o ≤ 3 → s.sau.shift ≠ .closed →
      exec (.payResult f) s = .next ((received s).setSau { s.sau with
        counters := { s.sau.counters with
          strayFrames := min (s.sau.counters.strayFrames + 1) 65535 } }))
    ∧ (s.entryOf trip number = none → 1 ≤ o → o ≤ 3 → s.sau.shift = .closed →
      exec (.payResult f) s = .next (received s)))
  ∧ (∀ s f trip number o approved tip, s.delivers 65 f = true → trip < 65536 → number < 256 → o < 256 →
    approved < 16777216 → tip < 16777216 →
    f.payload = be 2 trip ++ be 1 number ++ be 1 o ++ be 3 approved ++ be 3 tip →
    ((o = 0 ∨ 3 < o ∨ 9999999 < approved ∨ 9999999 < tip) →
      (s.sau.shift ≠ .closed → exec (.payResult f) s = .next ((received s).setSau { s.sau with
        counters := { s.sau.counters with
          strayFrames := min (s.sau.counters.strayFrames + 1) 65535 } }))
      ∧ (s.sau.shift = .closed → exec (.payResult f) s = .next (received s)))
    ∧ (∀ a, s.stu.attempt = some a → a.trip = trip → a.number = number → s.meter = .inoperative →
      1 ≤ o → o ≤ 3 → approved ≤ 9999999 → tip ≤ 9999999 → exec (.payResult f) s = .next (received s)))

/-- R82, R83: a PAY_REFERENCE is placed in the open attempt whose numbers it bears; else in the card tender of that trip and
attempt in the session, whether or not another attempt is open; else in the unsettled entry; and changes nothing else. One
that matches none of them changes nothing. -/
def Obligations.PayReferenceIsPlaced : Prop :=
  ∀ s f trip number ref, s.delivers 66 f = true → trip < 65536 → number < 256 → ref.length = 6 →
    f.payload = be 2 trip ++ be 1 number ++ ref →
    (∀ a, s.stu.attempt = some a → a.trip = trip → a.number = number →
      exec (.payReference f) s = .next ((received s).setStu { s.stu with
        attempt := some { a with reference := some ref } }))
    ∧ ((∀ a, s.stu.attempt = some a → a.trip ≠ trip ∨ a.number ≠ number) →
      (∀ x, s.stu.session = some x → x.trip = trip → (∃ e ∈ s.stu.tenders, e.attempt = some number) →
        exec (.payReference f) s = .next ((received s).setStu { s.stu with
          tenders := s.stu.tenders.map fun e =>
            if e.attempt = some number then { e with tender := { e.tender with reference := some ref } }
            else e }))
      ∧ ((∀ x, s.stu.session = some x → x.trip ≠ trip ∨ ∀ e ∈ s.stu.tenders, e.attempt ≠ some number) →
        (∀ e, s.entryOf trip number = some e →
          exec (.payReference f) s = .next ((received s).setStu { s.stu with
            unsettled := s.stu.unsettled.map fun y =>
              if y.trip = trip then { y with reference := some ref } else y }))
        ∧ (s.entryOf trip number = none → exec (.payReference f) s = .next (received s))))

/-- R75, R76, R78, R79, R85, R89: what the expiry of each settlement timer does, the meter not INOPERATIVE. An entry into
UNCERTAIN aborts any PAY_CANCEL of the attempt first; `taken` says whether a mailbox is then EMPTY for the query. A query
taken is counted, stands in a mailbox and starts the query timer; else it waits. SETTLE_REPORT carries a changed attempt, or
is dropped and counted. The model's choices: the count stops at 255 (log 16), a due expiry has its own command (log 5), one
EMPTY mailbox goes to the query and not to SETTLE_REPORT (log 9), the frames of an ending aborted before SETTLE_REPORT is
enqueued (log 38), and placed and cancel requested outside QUEUED (log 42). -/
def Obligations.SettlementTimersExpire : Prop :=
  ∀ s, s.running = true → s.meter ≠ .inoperative → s.cbi.dormant = false →
    (∀ a, s.stu.attempt = some a → a.timer = some 0 →
      (a.state = .offered →
        ∃ u, exec .offerTimerExpiry s = .next u
          ∧ u.stu = { s.stu with attempt := none, lastEnding := .notTaken }
          ∧ (s.cbi.boxes.length = 8 → s.cbi.reported u.cbi u.stu.reportBytes)
          ∧ u.cbi.freeOf 80 a.trip a.number
          ∧ s.cbi.onlyMailboxes u.cbi ∧ u = { s with stu := u.stu, cbi := u.cbi })
      ∧ (∀ c taken, ((a.state = .atTerminal ∧ c = .resultTimerExpiry)
          ∨ (a.state = .cancelling ∧ c = .cancelTimerExpiry)) →
        taken = (s.cbi.abortWhere (isAttemptFrame 46 a.trip a.number)).firstEmpty.isSome →
        ∃ u, exec c s = .next u
          ∧ u.stu = { s.stu with attempt := some { a with
              state := .uncertain
              queries := if taken then min (a.queries + 1) 255 else a.queries
              timer := if taken then some 40 else none
              waits := !taken } }
          ∧ (taken = true → s.cbi.boxes.length = 8 → u.cbi.carries 81 (be 2 a.trip ++ be 1 a.number))
          ∧ (s.cbi.boxes.length = 8 → s.cbi.reported u.cbi u.stu.reportBytes)
          ∧ u.cbi.freeOf 46 a.trip a.number
          ∧ s.cbi.onlyMailboxes u.cbi ∧ u = { s with stu := u.stu, cbi := u.cbi })
      ∧ (a.state = .uncertain → a.queries < 6 →
        ∃ u, exec .queryTimerExpiry s = .next u
          ∧ u.stu = { s.stu with attempt := some { a with
              queries := if s.cbi.firstEmpty.isSome then a.queries + 1 else a.queries
              timer := if s.cbi.firstEmpty.isSome then some 40 else none
              waits := s.cbi.firstEmpty.isNone } }
          ∧ (s.cbi.firstEmpty.isSome = true → s.cbi.boxes.length = 8 →
              u.cbi.carries 81 (be 2 a.trip ++ be 1 a.number))
          ∧ s.cbi.onlyMailboxes u.cbi ∧ u = { s with stu := u.stu, cbi := u.cbi })
      ∧ (a.state = .uncertain → 6 ≤ a.queries →
        exec .queryTimerExpiry s =
          .next (s.setStu { s.stu with attempt := some { a with timer := none } })))
    ∧ (∀ e front back (trip : BitVec 16), s.stu.unsettled = front ++ e :: back → e.trip = trip.toNat →
      (∀ y ∈ front ++ back, y.trip ≠ trip.toNat) → e.timer = some 0 →
      (e.left = 0 →
        exec (.entryQueryTimerExpiry trip) s = .next (s.setStu { s.stu with
          unsettled := front ++ { e with timer := none } :: back }))
      ∧ (0 < e.left →
        ∃ u, exec (.entryQueryTimerExpiry trip) s = .next u
          ∧ u.stu = { s.stu with unsettled := front ++ { e with
              queries := if s.cbi.firstEmpty.isSome then min (e.queries + 1) 255 else e.queries
              left := if s.cbi.firstEmpty.isSome then e.left - 1 else e.left
              timer := if s.cbi.firstEmpty.isSome then some 40 else none
              waits := s.cbi.firstEmpty.isNone } :: back }
          ∧ (s.cbi.firstEmpty.isSome = true → s.cbi.boxes.length = 8 →
              u.cbi.carries 81 (be 2 e.trip ++ be 1 e.attempt))
          ∧ s.cbi.onlyMailboxes u.cbi ∧ u = { s with stu := u.stu, cbi := u.cbi }))

/-! ### Shift Accounts Unit -/

/-- R55, R64, R95, R114: the checks of SHIFT_OPEN in order, and what one that passes them does; METER_STATE and SHIFT_STATE
carry that, or are owed. -/
def Obligations.ShiftOpenBeginsTheAccounts : Prop :=
  ∀ s f, s.delivers 48 f = true →
    (s.meter = .inoperative →
      exec (.shiftOpen f) s = .next (answer 48 f .refusedParams (received s)))
    ∧ (s.meter ≠ .inoperative → s.sau.shift ≠ .closed →
      exec (.shiftOpen f) s = .next (answer 48 f .refusedState (received s)))
    ∧ (s.meter ≠ .inoperative → s.sau.shift = .closed → s.odu.clockSet = false →
      exec (.shiftOpen f) s = .next (answer 48 f .refusedClock (received s)))
    ∧ (s.meter = .offDuty → s.sau.shift = .closed → s.odu.clockSet = true →
      ∃ u, exec (.shiftOpen f) s = .next (answer 48 f .done u)
        ∧ u.sau = { s.sau with
            shift := .opened
            number := if s.sau.number = 65535 then 1 else s.sau.number + 1
            counters := Counters.zero
            journal := []
            reconciliation := none
            recordedCheck := s.pld.tariffCheck
            openTime := s.odu.clock
            closeTime := 0
            retainedLost := false
            owed := u.sau.owed }
        ∧ u.trc = { s.trc with held := .free, lastTrip := 0, owed := u.trc.owed }
        ∧ (s.cbi.boxes.length = 8 →
            u.cbi.carriesOrOwes u.trc.owed 113 (meterBytes 2 0 s.trc.restricted .opened)
            ∧ u.cbi.enqueued (!u.sau.owed) 115 ([1, codeByte s.sau.stage] ++ be 2 u.sau.number
                ++ be 4 s.odu.clock.toNat
                ++ [codeByte (recCode (s.sau.summary.reconciliation.map (·.result))), 0]))
        ∧ u.rsd = { s.rsd with freeLamp := s.rsd.lampTest.isNone }
        ∧ (received s).cbi.onlyMailboxes u.cbi
        ∧ u = { s with sau := u.sau, trc := u.trc, rsd := u.rsd, cbi := u.cbi })

/-- R55, R64, R87, R89, R96, R107, R108, R114: the checks of SHIFT_CLOSE in order. With a TERMINAL it makes the shift CLOSING,
the meter OFF_DUTY, and waits in stage 2 with the totals timer at 120; the unsettled list keeps its entries, one query of each
and the TOTALS_OFFER are enqueued or wait; METER_STATE and SHIFT_STATE carry the change, or are owed. With no TERMINAL it
takes all five stages at one event (R109 to R111, R113): NO_ANSWER, every entry converted UNPAID with its SETTLE_REPORT, the
summary frozen, the shift CLOSED; METER_STATE and SHIFT_STATE carry that, or are owed. The model's: that the query count stops
at 255 (log 16), and stage 1 in the SHIFT_STATE of the change to CLOSING (DEDUCED, log 19). -/
def Obligations.ShiftCloseBeginsTheClosing : Prop :=
  ∀ s f, s.delivers 49 f = true →
    (s.meter = .inoperative → exec (.shiftClose f) s = .next (answer 49 f .refusedParams (received s)))
    ∧ (s.meter ≠ .inoperative → (s.sau.shift ≠ .opened ∨ s.meter ≠ .free) →
      exec (.shiftClose f) s = .next (answer 49 f .refusedState (received s)))
    ∧ (s.meter = .free → s.sau.shift = .opened → s.hasTerminal = true →
      ∃ u, exec (.shiftClose f) s = .next (answer 49 f .done u)
        ∧ u.sau = { s.sau with
            shift := .closing
            stage := 2
            totalsTimer := some 120
            totalsWaits := u.sau.totalsWaits
            owed := u.sau.owed }
        ∧ u.trc = { s.trc with held := .offDuty, owed := u.trc.owed }
        ∧ u.stu = { s.stu with unsettled := u.stu.unsettled }
        ∧ u.stu.unsettled.map (fun e => (e.trip, e.attempt, e.requested, e.left, e.timer))
            = s.stu.unsettled.map (fun e => (e.trip, e.attempt, e.requested, e.left, e.timer))
        ∧ ((s.stu.unsettled.map (·.trip)).Nodup → s.cbi.boxes.length = 8 →
          ∀ (k : Nat) (e : UnsettledEntry), s.stu.unsettled[k]? = some e →
            ∃ ok : Bool, u.stu.unsettled[k]? = some { e with
                queries := if ok then min (e.queries + 1) 255 else e.queries
                closingWaits := !ok }
              ∧ u.cbi.enqueued ok 81 (be 2 e.trip ++ be 1 e.attempt))
        ∧ (s.cbi.boxes.length = 8 → u.cbi.enqueued (!u.sau.totalsWaits) 82 (be 2 s.sau.number
            ++ be 3 s.sau.counters.cardApprovals ++ be 6 (s.sau.counters.card + s.sau.counters.cardTips)))
        ∧ (s.cbi.boxes.length = 8 →
            u.cbi.carriesOrOwes u.trc.owed 113 (meterBytes 1 s.trc.lastTrip s.trc.restricted .closing)
            ∧ u.cbi.enqueued (!u.sau.owed) 115 ([2, 1] ++ be 2 s.sau.number ++ be 4 s.sau.openTime.toNat
                ++ [codeByte (recCode (s.sau.summary.reconciliation.map (·.result))),
                  if s.sau.retainedLost then 1 else 0]))
        ∧ u.rsd = { s.rsd with freeLamp := false } ∧ (received s).cbi.onlyMailboxes u.cbi
        ∧ u = { s with sau := u.sau, trc := u.trc, stu := u.stu, rsd := u.rsd, cbi := u.cbi })
    ∧ (∀ rec, s.meter = .free → s.sau.shift = .opened → s.hasTerminal = false →
      rec = (⟨s.sau.counters.cardApprovals, s.sau.counters.card + s.sau.counters.cardTips, 0, 0, .noAnswer, 0⟩ :
        Reconciliation) →
      ∃ u, exec (.shiftClose f) s = .next (answer 49 f .done u)
        ∧ u.sau = { s.sau with
            shift := .closed
            stage := 0
            totalsTimer := none
            totalsWaits := false
            reconciliation := some rec
            counters := s.stu.unsettled.foldl (fun x e => { x with
                outstanding := x.outstanding - e.requested
                unpaid := min (x.unpaid + e.requested) 281474976710655
                unsettledCount := x.unsettledCount - 1
                unpaidCount := min (x.unpaidCount + 1) 65535 }) s.sau.counters
            journal := s.stu.unsettled.foldl
                (fun j e => j.map fun r => if r.trip = e.trip then { r with outcome := some .unpaid } else r)
                s.sau.journal
            closeTime := s.odu.clock
            summary := ⟨s.sau.number, s.sau.openTime, s.odu.clock, u.sau.counters, some rec⟩
            lifetime := s.sau.lifetime.add u.sau.counters
            owed := u.sau.owed }
        ∧ u.stu = { s.stu with unsettled := [] }
        ∧ u.trc = { s.trc with held := .offDuty, restricted := false, owed := u.trc.owed }
        ∧ (s.cbi.boxes.length = 8 →
            (u.trc.owed = true ∨ u.cbi.carries 113 ([1] ++ be 2 s.trc.lastTrip ++ [0, 0]))
            ∧ u.cbi.enqueued (!u.sau.owed) 115 ([0, 0] ++ be 2 s.sau.number ++ be 4 s.sau.openTime.toNat
                ++ [3, if s.sau.retainedLost then 1 else 0])
            ∧ ConversionReported s u)
        ∧ u.rsd = { s.rsd with freeLamp := false } ∧ (received s).cbi.onlyMailboxes u.cbi
        ∧ u = { s with sau := u.sau, trc := u.trc, stu := u.stu, rsd := u.rsd, cbi := u.cbi })

/-- R64, R87, R89, R103, R108 to R111, R113, R114: the end of stage 2, at a TERMINAL_TOTALS or at the timer's expiry (its own
command: log 5), reconciles, converts every unsettled entry in the counters and the journal, each with its SETTLE_REPORT,
empties the list, freezes the summary, adds to the totalizers and makes the shift CLOSED. METER_STATE and SHIFT_STATE carry
the state as it then stands, or are owed. At any other time a TERMINAL_TOTALS is ignored. -/
def Obligations.ClosingEndsInOneEvent : Prop :=
  ∀ s, s.cbi.dormant = false →
    (∀ f n m, s.delivers 68 f = true → f.payload = be 3 n ++ be 6 m → n < 16777216 →
      m < 281474976710656 → s.stage2Lasts = false → exec (.terminalTotals f) s = .next (received s))
    ∧ (∀ c rec,
      ((∃ f n m, c = .terminalTotals f ∧ s.delivers 68 f = true ∧ f.payload = be 3 n ++ be 6 m
          ∧ n < 16777216 ∧ m < 281474976710656
          ∧ rec = ⟨s.sau.counters.cardApprovals, s.sau.counters.card + s.sau.counters.cardTips, n, m,
              if n = s.sau.counters.cardApprovals ∧ m = s.sau.counters.card + s.sau.counters.cardTips
                then .matched else .mismatch,
              (m : Int) - (s.sau.counters.card + s.sau.counters.cardTips : Nat)⟩)
        ∨ (c = .totalsTimerExpiry ∧ s.running = true ∧ s.sau.totalsTimer = some 0
          ∧ rec = ⟨s.sau.counters.cardApprovals, s.sau.counters.card + s.sau.counters.cardTips, 0, 0,
              .noAnswer, 0⟩)) →
      s.stage2Lasts = true →
      ∃ u, exec c s = .next u
        ∧ u.sau = { s.sau with
            shift := .closed
            stage := 0
            totalsTimer := none
            totalsWaits := false
            reconciliation := some rec
            counters := s.stu.unsettled.foldl (fun x e => { x with
                outstanding := x.outstanding - e.requested
                unpaid := min (x.unpaid + e.requested) 281474976710655
                unsettledCount := x.unsettledCount - 1
                unpaidCount := min (x.unpaidCount + 1) 65535 }) s.sau.counters
            journal := s.stu.unsettled.foldl
                (fun j e => j.map fun r => if r.trip = e.trip then { r with outcome := some .unpaid } else r)
                s.sau.journal
            closeTime := s.odu.clock
            summary := ⟨s.sau.number, s.sau.openTime, s.odu.clock, u.sau.counters, some rec⟩
            lifetime := s.sau.lifetime.add u.sau.counters
            owed := u.sau.owed }
        ∧ u.stu = { s.stu with unsettled := [] }
        ∧ u.trc = { s.trc with restricted := false, owed := u.trc.owed }
        ∧ (s.cbi.boxes.length = 8 →
            (u.trc.owed = true ∨ u.cbi.carries 113 ([codeByte s.meter.code] ++ be 2 s.trc.lastTrip ++ [0, 0]))
            ∧ (u.sau.owed = true ∨ u.cbi.carries 115 ([0, 0] ++ be 2 s.sau.number
                ++ be 4 s.sau.openTime.toNat
                ++ [if rec.result = .matched then 1 else if rec.result = .mismatch then 2 else 3,
                    if s.sau.retainedLost then 1 else 0]))
            ∧ ConversionReported s u)
        ∧ (∃ v, v = (if c = .totalsTimerExpiry then s else received s) ∧ v.cbi.onlyMailboxes u.cbi)
        ∧ u = { s with sau := u.sau, stu := u.stu, trc := u.trc, cbi := u.cbi })

/-- R104, R105, R106: a read that names a record, or any SUMMARY_READ, is answered DONE and then begins its answer at part 1
of the serialized copy; an index at or past the end of the journal is refused. The outcome of the mailbox that holds a part
moves the answer: SENT enqueues the next part, or ends the answer after the last; FAILED ends it; no other mailbox moves it.
Which EMPTY mailbox takes the next part is the model's choice (log 11). -/
def Obligations.ReadsBeginAnAnswer : Prop :=
  (∀ s f b, s.delivers 50 f = true → f.payload = [b] →
    (s.sau.journal.length ≤ b.toNat →
      exec (.journalRead f) s = .next (answer 50 f .refusedAbsent (received s)))
    ∧ (∀ front r back, s.sau.journal = front ++ r :: back → back.length = b.toNat →
      ∃ u box, exec (.journalRead f) s = .next u
        ∧ u = startAnswer .journal r.trip r.bytes (answer 50 f .done (received s))
        ∧ u.sau = { s.sau with journalAnswer := some ⟨r.trip, r.bytes, 1, box⟩ }
        ∧ (received s).cbi.onlyMailboxes u.cbi ∧ u = { s with sau := u.sau, cbi := u.cbi }))
  ∧ (∀ s f x, s.delivers 51 f = true →
    x = (if s.sau.shift = .closed then s.sau.summary
      else ⟨s.sau.number, s.sau.openTime, 0, s.sau.counters, s.sau.reconciliation⟩) →
    ∃ u box, exec (.summaryRead f) s = .next u
      ∧ u = startAnswer .summary x.number (summaryBytes x s.sau.lifetime)
          (answer 51 f .done (received s))
      ∧ u.sau = { s.sau with
          summaryAnswer := some ⟨x.number, summaryBytes x s.sau.lifetime, 1, box⟩ }
      ∧ (received s).cbi.onlyMailboxes u.cbi ∧ u = { s with sau := u.sau, cbi := u.cbi })
  ∧ (∀ s i f (topic : Nat) (put : Option Answer → Sau) a, s.cbi.dormant = false → f.owner = .sau → f.topic = topic →
    ((topic = 116 ∧ s.sau.journalAnswer = some a ∧ put = fun y => { s.sau with journalAnswer := y })
      ∨ (topic = 117 ∧ s.sau.summaryAnswer = some a ∧ put = fun y => { s.sau with summaryAnswer := y })) →
    (a.box = some i → a.part < partCount a.bytes →
      ∃ u, mailboxOutcome i f .sent s = u
        ∧ u.sau = put (some { a with part := a.part + 1, box := s.cbi.firstEmpty })
        ∧ (s.cbi.firstEmpty.isSome = true → s.cbi.boxes.length = 8 →
            u.cbi.carries topic ({ a with part := a.part + 1 } : Answer).payload)
        ∧ s.cbi.onlyMailboxes u.cbi ∧ u = { s with sau := u.sau, cbi := u.cbi })
    ∧ (a.box = some i → partCount a.bytes ≤ a.part → mailboxOutcome i f .sent s = s.setSau (put none))
    ∧ (a.box = some i → mailboxOutcome i f .failed s = s.setSau (put none))
    ∧ (∀ o, a.box ≠ some i → mailboxOutcome i f o s = s))

/-- R196, Tables 11-4 and 11-5: a trip record is 131 bytes in 17 parts, a summary 182 bytes in 23. -/
def Obligations.SerializedLengths : Prop :=
  (∀ r : TripRecord, r.changes.length ≤ 4 → r.extras.length ≤ 8 → r.tenders.length ≤ 3 →
    (∀ ref, r.reference = some ref → ref.length = 8) →
    (∀ t ∈ r.tenders, ∀ ref, t.reference = some ref → ref.length = 6) →
    r.bytes.length = 131 ∧ partCount r.bytes = 17)
  ∧ (∀ x l, (summaryBytes x l).length = 182 ∧ partCount (summaryBytes x l) = 23)

/-- R101: the append keeps the journal at 48 records or fewer where not all 48 are UNSETTLED; it loses no UNSETTLED record and
puts the new one last; a journal with room loses nothing. -/
def Obligations.JournalKeepsItsLimit : Prop :=
  ∀ (j : List TripRecord) (r : TripRecord), j.length ≤ 48 →
    ((∃ x ∈ j, x.outcome ≠ some .unsettled) ∨ j.length < 48) →
    (journalAppend j r).length ≤ 48
      ∧ (journalAppend j r).getLast? = some r
      ∧ (∀ x ∈ j, x.outcome = some .unsettled → x ∈ journalAppend j r)
      ∧ (j.length < 48 → journalAppend j r = j ++ [r])
      ∧ (∀ front x back, j = front ++ x :: back → j.length = 48 → x.outcome ≠ some .unsettled →
          (∀ y ∈ front, y.outcome = some .unsettled) → journalAppend j r = front ++ back ++ [r])

/-- R97, R100, R102, R103, R113: what a trip close arrival and a resolution report add to each counter, and a closing to each
totalizer; both keep the money balance below the top of the 48-bit range; and every step keeps the balance of the shift's
money, with outstanding 0 in CLOSED. -/
def Obligations.MoneyStaysBalanced : Prop :=
  (∀ (c : Counters) (r : TripRecord) (waived : Nat), c.balanced →
    c.fareTotals + r.total ≤ 281474976710655 →
    (r.outcome = some .unsettled → (r.tenders.map (·.amount)).sum + waived ≤ r.total) →
    (r.outcome ≠ some .unsettled → (r.tenders.map (·.amount)).sum + waived = r.total) →
    (c.addTrip r waived).balanced)
  ∧ (∀ (c : Counters) (x : Resolution), c.balanced → c.fareTotals ≤ 281474976710655 →
    x.requested ≤ c.outstanding → x.recorded ≤ x.requested → (c.resolve x).balanced)
  ∧ (∀ (c : Counters) (r : TripRecord) (waived : Nat) (sum : TenderKind → (Tender → Nat) → Nat),
    sum = (fun k g => ((r.tenders.filter (·.kind == k)).map g).sum) →
    c.addTrip r waived = { c with
      tripsClosed := min (c.tripsClosed + 1) 65535
      paid := if r.outcome = some .paid then min (c.paid + 1) 65535 else c.paid
      waivedCount := if r.outcome = some .waived then min (c.waivedCount + 1) 65535 else c.waivedCount
      partWaivedCount :=
        if r.outcome = some .partWaived then min (c.partWaivedCount + 1) 65535 else c.partWaivedCount
      unsettledCount :=
        if r.outcome = some .unsettled then min (c.unsettledCount + 1) 65535 else c.unsettledCount
      fareTotals := min (c.fareTotals + r.total) 281474976710655
      meteredSum := min (c.meteredSum + r.metered) 281474976710655
      extrasSum := min (c.extrasSum + (r.extras.map (·.amount)).sum) 281474976710655
      bookingFees := min (c.bookingFees + r.bookingFee) 281474976710655
      cash := min (c.cash + sum .cash (·.amount)) 281474976710655
      cashTips := min (c.cashTips + sum .cash (·.tip)) 281474976710655
      card := min (c.card + sum .card (·.amount)) 281474976710655
      cardTips := min (c.cardTips + sum .card (·.tip)) 281474976710655
      cardApprovals := min (c.cardApprovals + sum .card (fun _ => 1)) 16777215
      waived := min (c.waived + waived) 281474976710655
      outstanding := if r.outcome = some .unsettled
        then min (c.outstanding + (r.total - (r.tenders.map (·.amount)).sum - waived)) 281474976710655
        else c.outstanding })
  ∧ (∀ (c : Counters) (x : Resolution),
    (x.approved = true → c.resolve x = { c with
      outstanding := c.outstanding - x.requested
      card := min (c.card + x.recorded) 281474976710655
      cardTips := min (c.cardTips + x.tip) 281474976710655
      cardApprovals := min (c.cardApprovals + 1) 16777215
      unpaid := min (c.unpaid + (x.requested - x.recorded)) 281474976710655
      terminalExcess := min (c.terminalExcess + x.excess) 281474976710655
      unsettledCount := c.unsettledCount - 1
      paid := min (c.paid + 1) 65535
      lateSettled := min (c.lateSettled + 1) 65535 })
    ∧ (x.approved = false → c.resolve x = { c with
      outstanding := c.outstanding - x.requested
      unpaid := min (c.unpaid + x.requested) 281474976710655
      unsettledCount := c.unsettledCount - 1
      unpaidCount := min (c.unpaidCount + 1) 65535 }))
  ∧ (∀ (l : Lifetime) (c : Counters), l.add c = ⟨
      min (l.totalPulses + c.allPulses) 281474976710655, min (l.hiredPulses + c.hiredPulses) 281474976710655,
      min (l.trips + c.tripsClosed) 4294967295, min (l.fareTotals + c.fareTotals) 72057594037927935,
      min (l.shifts + 1) 4294967295⟩)
  ∧ (∀ s t, FareSound s.fen → LedgerSound s → MoneySound s → step s = .next t →
    MoneySound t ∧ (t.sau.shift = .closed → t.sau.counters.outstanding = 0))

/-- R101: every step keeps the journal at 48 records or fewer in rising trip number, the unsettled list at 4 entries or fewer,
one for each UNSETTLED record of the journal, and the list empty in CLOSED. -/
def Obligations.StepKeepsLedgerSound : Prop :=
  ∀ s t, LedgerSound s → step s = .next t → LedgerSound t

/-- R113: the lifetime totalizers never decrease at a step, but for the load completion of a cold start; and every step keeps
their ranges. -/
def Obligations.LifetimeTotalsNeverFall : Prop :=
  ∀ s t, LifetimeInRange s.sau.lifetime → step s = .next t →
    LifetimeInRange t.sau.lifetime
      ∧ ((∀ img rest, s.pending = .loadCompletion img :: rest → s.pld.kind = .warm) →
          s.sau.lifetime.le t.sau.lifetime)

/-! ### Alarm Unit -/

/-- R58, R99, R128, R152, R154, R157, R161, R162: entry into ACTIVE (its own command: log 5), with mailbox 0 EMPTY. -/
def Obligations.AlarmEntryCallsForHelp : Prop :=
  ∀ s, s.running = true → s.alm.state = .clear → s.alm.holdCount = 8 → s.cbi.boxes.length = 8 →
    (s.cbi.box 0).state = .empty →
    ∃ u, exec .alarmEntry s = .next u
      ∧ u.alm = { s.alm with
          state := .active
          acknowledged := false
          holdCount := 0
          repeatTimer := some 20 }
      ∧ (u.cbi.box 0).state = .pending
      ∧ (u.cbi.box 0).frame.payload = be 2 ((s.trc.record.map (·.trip)).getD 0) ++ [codeByte s.meter.code]
          ++ be 3 (if s.trc.record.isSome then s.fen.record.total else 0)
          ++ be 4 s.odu.clock.toNat ++ [if s.odu.clockSet then 1 else 0]
      ∧ u.trc = { s.trc with record := s.trc.record.map fun r => { r with alarmDuring := true } }
      ∧ (s.sau.shift = .closed → u.sau = s.sau)
      ∧ (s.sau.shift ≠ .closed → u.sau = { s.sau with counters := { s.sau.counters with
          alarms := min (s.sau.counters.alarms + 1) 65535 } })
      ∧ u.rsd.lampTest = none ∧ u.cbi.dormant = false ∧ TalkReported s u
      ∧ u.cau.floor = .none ∧ u.cau.rearWaiting = false ∧ u.cau.frontHeld = false
      ∧ u.cau.rearHeld = false ∧ u.cau.queue = [] ∧ u.cau.chime = none
      ∧ u.cau.routing.radioOut = ⟨s.cau.gAlarm, s.cau.gAlarm, 0, 0⟩
      ∧ u.cau.routing.frontSpk = ⟨0, 0, 0, 0⟩ ∧ u.cau.routing.rearSpk = ⟨0, 0, 0, 0⟩
      ∧ u = { s with alm := u.alm, trc := u.trc, sau := u.sau, rsd := u.rsd, cau := u.cau, cbi := u.cbi }

/-- R145, R162 to R165: the repeat (its own command: log 5) restarts the timer and places the notice: written into mailbox 0
where it is EMPTY, its payload replaced where it is PENDING, owed where it is SENDING or ABORTING; an outcome of mailbox 0
places a notice that is owed. The acknowledgement, and the return to CLEAR, which outside the hired states skips slot 1;
ALARM_ACK and ALARM_CLEAR in CLEAR are refused. -/
def Obligations.AlarmRepeatsUntilAcknowledged : Prop :=
  (∀ s, s.running = true → s.alm.state = .active → s.cbi.dormant = false → s.cbi.boxes.length = 8 →
    ∀ notice, notice = be 2 ((s.trc.record.map (·.trip)).getD 0) ++ [codeByte s.meter.code]
          ++ be 3 (if s.trc.record.isSome then s.fen.record.total else 0)
          ++ be 4 s.odu.clock.toNat ++ [if s.odu.clockSet then 1 else 0] →
    (s.alm.acknowledged = false → s.alm.repeatTimer = some 0 →
      ∃ u, exec .repeatTimerExpiry s = .next u
        ∧ u.alm = { s.alm with
            repeatTimer := some 20
            noticeOwed := s.alm.noticeOwed || (s.cbi.box 0).state == .sending || (s.cbi.box 0).state == .aborting }
        ∧ ((s.cbi.box 0).state = .empty → u.cbi = { s.cbi with
            boxes := s.cbi.boxes.set 0 ⟨.pending, ⟨0, 1, notice, .alm, .state⟩, s.cbi.nextAge⟩
            nextAge := s.cbi.nextAge + 1 })
        ∧ ((s.cbi.box 0).state = .pending → u.cbi = { s.cbi with
            boxes := s.cbi.boxes.set 0 { s.cbi.box 0 with
              frame := { (s.cbi.box 0).frame with payload := notice } } })
        ∧ (((s.cbi.box 0).state = .sending ∨ (s.cbi.box 0).state = .aborting) → u.cbi = s.cbi)
        ∧ u = { s with alm := u.alm, cbi := u.cbi })
    ∧ (∀ i f o, f.owner = .alm → s.alm.noticeOwed = true → (s.cbi.box 0).state = .empty →
      mailboxOutcome i f o s = (s.setAlm { s.alm with noticeOwed := false }).setCbi { s.cbi with
        boxes := s.cbi.boxes.set 0 ⟨.pending, ⟨0, 1, notice, .alm, .state⟩, s.cbi.nextAge⟩
        nextAge := s.cbi.nextAge + 1 })
    ∧ (∀ i f o, f.owner = .alm → s.alm.noticeOwed = false → mailboxOutcome i f o s = s))
  ∧ (∀ s f, s.delivers 2 f = true →
    (s.alm.state = .active → exec (.alarmAck f) s = .next (answer 2 f .done ((received s).setAlm
      { s.alm with acknowledged := true, repeatTimer := none })))
    ∧ (s.alm.state = .clear → exec (.alarmAck f) s = .next (answer 2 f .refusedState (received s))))
  ∧ (∀ s f, s.delivers 3 f = true →
    (s.alm.state = .active →
      ∃ u, exec (.alarmClear f) s = .next (answer 3 f .done u)
        ∧ u.alm = { s.alm with state := .clear, repeatTimer := none, noticeOwed := false }
        ∧ ((s.cbi.box 0).frame.owner = .alm → (s.cbi.box 0).frame.topic = 1 →
            (s.cbi.box 0).state = .pending → (u.cbi.box 0).state = .empty)
        ∧ u.cau.routing.radioOut = ⟨0, 0, 0, 0⟩
        ∧ (s.meter.inTrip = false → s.cau.RearSkipped u.cau)
        ∧ (s.meter.inTrip = true → u.cau.rearMic = s.cau.rearMic ∧ u.cau.scan = s.cau.scan)
        ∧ u.cau = { s.cau with
            routing := u.cau.routing
            rearMic := u.cau.rearMic
            scan := u.cau.scan }
        ∧ (received s).cbi.onlyMailboxes u.cbi
        ∧ u = { s with alm := u.alm, cau := u.cau, cbi := u.cbi })
    ∧ (s.alm.state = .clear → exec (.alarmClear f) s = .next (answer 3 f .refusedState (received s))))

/-! ### Roof Sign Driver -/

/-- R126, R127, R128: SIGN_TEST, its two refusals, and the end of the lamp test (its own command: log 5). -/
def Obligations.LampTestRunsAndEnds : Prop :=
  (∀ s f, s.delivers 56 f = true →
    (s.alm.state = .active → exec (.signTest f) s = .next (answer 56 f .refusedAlarm (received s)))
    ∧ (s.alm.state = .clear → s.meter ≠ .offDuty →
      exec (.signTest f) s = .next (answer 56 f .refusedState (received s)))
    ∧ (s.alm.state = .clear → s.meter = .offDuty →
      exec (.signTest f) s = .next (answer 56 f .done ((received s).setRsd
        { s.rsd with lampTest := some 12, freeLamp := false }))))
  ∧ (∀ s, s.running = true → s.rsd.lampTest = some 0 →
    exec .lampTestEnd s = .next (s.setRsd
      { s.rsd with lampTest := none, freeLamp := s.meter == .free && !s.cbi.dormant }))

/-- R129 to R133: a SIGN_WRITE moves the pointer of its source and page 3 alone and is answered DONE; a complete POINTER unit
moves the pointer to the clamped column and row; a pixel byte writes its two levels at pixel `n` of the page in reading order
and the one after, the pointer running on from (79, r) to (0, r + 1) and from (79, 11) to (0, 0). With continuation set a
control byte follows the unit; with it clear the units of its kind go on to the end of the frame. Open pointers are completed
first. That a frame ending between two POINTER units leaves no pointer open is DEDUCED (log 20). -/
def Obligations.SignWriteActsOnItsPointer : Prop :=
  (∀ s f, s.delivers 57 f = true →
    (s.fromConsole f = true →
      exec (.signWrite f) s = .next (answer 57 f .done ((received s).setRsd { s.rsd with
        console := (readChain s.rsd.console s.rsd.marquee f.payload).1
        marquee := (readChain s.rsd.console s.rsd.marquee f.payload).2 })))
    ∧ (s.fromConsole f = false →
      exec (.signWrite f) s = .next (answer 57 f .done ((received s).setRsd { s.rsd with
        dispatch := (readChain s.rsd.dispatch s.rsd.marquee f.payload).1
        marquee := (readChain s.rsd.dispatch s.rsd.marquee f.payload).2 }))))
  ∧ (∀ (p : WritePointer) (page : List Nat) (b c r : Byte), p.state = .closed →
    b.getLsbD 7 = true →
    (b.getLsbD 6 = true → readChain p page [b, c, r] =
      (⟨min c.toNat 79, min r.toNat 11, .closed⟩, page))
    ∧ (b.getLsbD 6 = true → readChain p page [b, c] =
      (⟨p.column, p.row, .awaitingRow (min c.toNat 79)⟩, page))
    ∧ (b.getLsbD 6 = true → readChain p page [b] = (⟨p.column, p.row, .awaitingColumn⟩, page))
    ∧ (b.getLsbD 6 = false → p.column < 78 → readChain p page [b, c] =
      (⟨p.column + 2, p.row, .closed⟩,
        (page.set (p.row * 80 + p.column) (c.toNat / 16)).set
          (p.row * 80 + p.column + 1) (c.toNat % 16))))
  ∧ (∀ (p : WritePointer) (page : List Nat) (b c r : Byte) (rest : List Byte) (n : Nat), p.state = .closed →
    p.column < 80 → p.row < 12 → n = p.row * 80 + p.column →
    (b.getLsbD 7 = true → b.getLsbD 6 = true →
      readChain p page (b :: c :: r :: rest) = readChain ⟨min c.toNat 79, min r.toNat 11, .closed⟩ page rest)
    ∧ (b.getLsbD 7 = true → b.getLsbD 6 = false →
      readChain p page (b :: c :: rest) = readChain ⟨(n + 2) % 960 % 80, (n + 2) % 960 / 80, .closed⟩
        ((page.set n (c.toNat / 16)).set ((n + 1) % 960) (c.toNat % 16)) rest)
    ∧ readChain p page [b] = (⟨p.column, p.row,
        if b.getLsbD 7 = true ∧ b.getLsbD 6 = true then .awaitingColumn else .closed⟩, page)
    ∧ (b.getLsbD 7 = false → b.getLsbD 6 = true → rest.length % 2 = 0 →
      readChain p page (b :: rest ++ [c, r]) = (⟨min c.toNat 79, min r.toNat 11, .closed⟩, page)
      ∧ (readChain p page (b :: rest ++ [c])).1.state = .awaitingRow (min c.toNat 79)))
  ∧ (∀ (p q : WritePointer) (page after : List Nat) (b c : Byte) (rest : List Byte) (n : Nat), p.state = .closed →
    b.getLsbD 7 = false → b.getLsbD 6 = false → readChain p page (b :: rest) = (q, after) →
    q.column < 80 → q.row < 12 → n = q.row * 80 + q.column →
    readChain p page (b :: rest ++ [c]) = (⟨(n + 2) % 960 % 80, (n + 2) % 960 / 80, .closed⟩,
      (after.set n (c.toNat / 16)).set ((n + 1) % 960) (c.toNat % 16)))
  ∧ (∀ (p : WritePointer) (page : List Nat) (c r : Byte) (rest : List Byte),
    readChain p page [] = (p, page)
    ∧ (p.state = .awaitingColumn →
      readChain p page [c] = (⟨p.column, p.row, .awaitingRow (min c.toNat 79)⟩, page)
      ∧ readChain p page (c :: r :: rest) = readChain ⟨min c.toNat 79, min r.toNat 11, .closed⟩ page rest)
    ∧ (∀ k, p.state = .awaitingRow k →
      readChain p page (r :: rest) = readChain ⟨k, min r.toNat 11, .closed⟩ page rest))

/-- R120 to R125: a refresh pass (a scroll step that is due has its own command: log 5) chooses by Table 6-3 and sends, for
face A and then face B, 80 columns of 12 intensities, each pixel level × the effective level: the page column shifted by the
scroll column under SCROLL, face B's columns reversed where the mirror is on, all dark under DARK and in the dark half of a
BLINK. Then the blink phase rises, and in SCROLL the pass count; a scroll step moves the window one column. Only the RSD
changes. The model's choice: a level of 1 to 7 is raised to 8 at ambient level 15 too, GATEWAY or none (log 46). -/
def Obligations.RefreshPassShowsTheLegend : Prop :=
  (∀ s src page mode level blink scroll eff, s.running = true → s.rsd.scrollCount ≠ s.rsd.scrollStep →
    src = (if s.alm.state = .active then .alarm
      else if s.rsd.lampTest.isSome then .lampTest
      else if s.cbi.dormant = true ∨ s.meter = .inoperative then .dark
      else .meter s.meter : LegendSource) →
    (page, mode, level) = (match src with
      | .alarm => (s.rsd.map.alarm.page.map s.rsd.page, s.rsd.map.alarm.mode, s.rsd.map.alarm.level)
      | .lampTest => (some (List.replicate 960 15), .steady, 255)
      | .dark => (none, .steady, 0)
      | .meter m => ((s.rsd.map.entry m).page.map s.rsd.page, (s.rsd.map.entry m).mode,
          (s.rsd.map.entry m).level) : Option (List Nat) × LegendMode × Nat) →
    blink = (if s.rsd.chosen = some src then s.rsd.blink else 0) →
    scroll = (if s.rsd.chosen = some src then s.rsd.scrollColumn else 0) →
    eff = (if level = 0 then 0 else max 8 (level * (s.odu.report.ambient + 1) / 16)) →
    ∃ u, exec .refreshPass s = .next u
      ∧ u.rsd.chosen = some src ∧ u.rsd.chain.length = 1920
      ∧ ((page = none ∨ (mode = .blink ∧ 50 ≤ blink)) → u.rsd.chain = List.replicate 1920 0)
      ∧ (∀ p, page = some p → ¬(mode = .blink ∧ 50 ≤ blink) → ∀ k row shown, k < 80 → row < 12 →
          shown = (if mode = .scroll then (k + scroll) % 80 else k) →
          u.rsd.chain[k * 12 + row]? = some (p.getD (row * 80 + shown) 0 * eff)
          ∧ u.rsd.chain[960 + (if s.rsd.mirror then 79 - k else k) * 12 + row]?
              = some (p.getD (row * 80 + shown) 0 * eff))
      ∧ (blink < 100 → u.rsd.blink = (blink + 1) % 100) ∧ u.rsd.scrollColumn = scroll
      ∧ u.rsd.scrollCount = (if s.rsd.chosen = some src then s.rsd.scrollCount else 0)
          + (if mode = .scroll then 1 else 0)
      ∧ u.rsd = { s.rsd with
          chosen := u.rsd.chosen
          chain := u.rsd.chain
          blink := u.rsd.blink
          scrollColumn := u.rsd.scrollColumn
          scrollCount := u.rsd.scrollCount }
      ∧ u = { s with rsd := u.rsd })
  ∧ (∀ s, s.running = true → s.rsd.scrollCount = s.rsd.scrollStep → s.rsd.scrollColumn < 80 →
    exec .scrollStep s = .next (s.setRsd
      { s.rsd with scrollCount := 0, scrollColumn := (s.rsd.scrollColumn + 1) % 80 }))

/-- R118, R119, R136: between starts no command changes the legend pages, the legend map, the mirror setting or the scroll
step. A load completion takes them from the image, two pixels a byte, high half first, an entry out of range as {DARK, STEADY,
0} and a scroll step of 0 as 1; with an INVALID image the pages and the map are dark. A byte past the end of the image reads
as 0 (the model's choice, log 24). -/
def Obligations.LegendPagesAreSealed : Prop :=
  (∀ s img, s.supply.main = true → s.pld.phase = .reading →
    ∃ u, exec (.loadCompletion img) s = .next u
      ∧ u.rsd.marquee = List.replicate 960 0 ∧ u.rsd.chosen = none ∧ u.rsd.lampTest = none
      ∧ u.rsd.console = ⟨0, 0, .closed⟩ ∧ u.rsd.dispatch = ⟨0, 0, .closed⟩
      ∧ (imageUsable img = false → u.rsd.legendPages = List.replicate 3 (List.replicate 960 0)
          ∧ u.rsd.map = LegendMap.dark ∧ u.rsd.mirror = false ∧ u.rsd.scrollStep = 1)
      ∧ (imageUsable img = true →
          u.rsd.mirror = decide (field img 171 1 ≠ 0)
          ∧ u.rsd.scrollStep = (if field img 172 1 = 0 then 1 else field img 172 1)
          ∧ u.rsd.legendPages.length = 3
          ∧ (∀ i, i < 3 → ∃ page, u.rsd.legendPages[i]? = some page ∧ page.length = 960
              ∧ ∀ k, k < 480 → page[2 * k]? = some (field img (173 + 480 * i + k) 1 / 16)
                ∧ page[2 * k + 1]? = some (field img (173 + 480 * i + k) 1 % 16))
          ∧ (∀ i e, [u.rsd.map.offDuty, u.rsd.map.free, u.rsd.map.booked, u.rsd.map.hired, u.rsd.map.stopped,
                u.rsd.map.settling, u.rsd.map.inoperative, u.rsd.map.alarm][i]? = some e →
              (¬LegendInRange img i → e = ⟨none, .steady, 0⟩)
              ∧ (LegendInRange img i →
                  e.page = (if field img (147 + 3 * i) 1 = 255 then none else some (field img (147 + 3 * i) 1))
                  ∧ e.mode = (if field img (148 + 3 * i) 1 = 0 then .steady
                      else if field img (148 + 3 * i) 1 = 1 then .blink else .scroll)
                  ∧ e.level = field img (149 + 3 * i) 1))))
  ∧ ∀ c s t, exec c s = .next t → (∀ img, c ≠ .loadCompletion img) → c ≠ .mainSupplyLoss →
    c ≠ .mainSupplyReturn → c ≠ .resetPin →
    t.rsd.legendPages = s.rsd.legendPages ∧ t.rsd.map = s.rsd.map ∧ t.rsd.mirror = s.rsd.mirror
      ∧ t.rsd.scrollStep = s.rsd.scrollStep

/-- R126: every step keeps the FREE lamp lit in FREE with the part AWAKE and no lamp test, and dark otherwise; it is never lit
in BOOKED, HIRED, STOPPED, SETTLING or INOPERATIVE. -/
def Obligations.StepKeepsFreeLampHonest : Prop :=
  ∀ s t, LampSound s → step s = .next t →
    LampSound t
      ∧ ((t.meter = .booked ∨ t.meter = .hired ∨ t.meter = .stopped ∨ t.meter = .settling
          ∨ t.meter = .inoperative) → t.rsd.freeLamp = false)

/-! ### Cabin Audio Unit -/

/-- R137, R138, R143, R156: the three output samples of a period, from the input samples, the chime sample and the matrix,
each product shifted right by six places toward minus infinity and the sum limited to 16 bits; the level scan adds the
magnitude of its slot's source; the chime gives 8,000 with its sign, or 0 at a rest, and moves on by one sample. No end is due
from the period before. What a rest holds as half period and sign (log 39) is not stated; that a finished chime stays with no
sample left until its end is taken is the model's choice (log 5). -/
def Obligations.SamplePeriodMixesTheSources : Prop :=
  ∀ s (a b c : Sample) (h : Int), s.running = true → s.cbi.dormant = false →
    (∀ k, s.cau.scan = some k → k.samples < 320) → (∀ p, s.cau.chime = some p → 0 < p.samplesLeft) →
    h = (s.cau.chime.map ChimePlay.sample).getD 0 →
    ∃ u, exec (.samplePeriod a b c) s = .next u
      ∧ u.cau.frontSpk = max (-32768) (min 32767
          ((a.toInt * s.cau.routing.frontSpk.frontMic) / 64 + (b.toInt * s.cau.routing.frontSpk.rearMic) / 64
            + (c.toInt * s.cau.routing.frontSpk.radioIn) / 64 + (h * s.cau.routing.frontSpk.chime) / 64))
      ∧ u.cau.rearSpk = max (-32768) (min 32767
          ((a.toInt * s.cau.routing.rearSpk.frontMic) / 64 + (b.toInt * s.cau.routing.rearSpk.rearMic) / 64
            + (c.toInt * s.cau.routing.rearSpk.radioIn) / 64 + (h * s.cau.routing.rearSpk.chime) / 64))
      ∧ u.cau.radioOut = max (-32768) (min 32767
          ((a.toInt * s.cau.routing.radioOut.frontMic) / 64 + (b.toInt * s.cau.routing.radioOut.rearMic) / 64
            + (c.toInt * s.cau.routing.radioOut.radioIn) / 64 + (h * s.cau.routing.radioOut.chime) / 64))
      ∧ u.cau = { s.cau with
          frontSpk := u.cau.frontSpk
          rearSpk := u.cau.rearSpk
          radioOut := u.cau.radioOut
          chime := u.cau.chime
          scan := u.cau.scan }
      ∧ u.cau.scan = (s.cau.scan.map fun k => { k with
          samples := k.samples + 1
          sum := k.sum
            + (if k.slot = 0 then a.toInt.natAbs else if k.slot = 1 then b.toInt.natAbs else c.toInt.natAbs) })
      ∧ (s.cau.chime = none → h = 0 ∧ u.cau.chime = none)
      ∧ (∀ p rest half, s.cau.chime = some p → p.note < p.kind.notes.length →
          rest = ((p.kind = .declined ∨ p.kind = .callWaiting) ∧ p.note = 1) →
          half = 8000 / (p.kind.note p.note).hz →
          (rest → h = 0) ∧ (¬rest → h = if p.sign then 8000 else -8000)
          ∧ (p.samplesLeft = 1 → p.note + 1 < p.kind.notes.length →
              ∃ halfLeft sign, u.cau.chime = some ⟨p.kind, p.note + 1, (p.kind.note (p.note + 1)).ms * 16,
                halfLeft, sign⟩
              ∧ (¬((p.kind = .declined ∨ p.kind = .callWaiting) ∧ p.note = 0) →
                  halfLeft = 8000 / (p.kind.note (p.note + 1)).hz ∧ sign = true))
          ∧ (p.samplesLeft = 1 → p.note + 1 = p.kind.notes.length →
              u.cau.chime = some { p with samplesLeft := 0 })
          ∧ (rest → 1 < p.samplesLeft → ∃ halfLeft sign,
              u.cau.chime = some ⟨p.kind, p.note, p.samplesLeft - 1, halfLeft, sign⟩)
          ∧ (¬rest → 1 < p.samplesLeft → 1 < p.halfLeft →
              u.cau.chime = some { p with samplesLeft := p.samplesLeft - 1, halfLeft := p.halfLeft - 1 })
          ∧ (¬rest → 1 < p.samplesLeft → p.halfLeft ≤ 1 →
              u.cau.chime = some { p with
                samplesLeft := p.samplesLeft - 1
                halfLeft := half
                sign := !p.sign }))
      ∧ u = { s with cau := u.cau }

/-- R140, R141, R146: every step keeps the routing matrix as Table 7-3 gives it and the floor inside the hired states with the
alarm CLEAR; so the rear microphone and speaker carry intercom audio only there, and under the alarm every speaker gain is 0.
-/
def Obligations.StepKeepsCabinPrivate : Prop :=
  ∀ s t, CabinSound s → step s = .next t →
    CabinSound t
      ∧ ((t.cau.routing.frontSpk.rearMic ≠ 0 ∨ t.cau.routing.rearSpk.frontMic ≠ 0) →
          t.meter.inTrip = true ∧ t.alm.state = .clear)
      ∧ (t.alm.state = .active →
          t.cau.routing.frontSpk = ⟨0, 0, 0, 0⟩ ∧ t.cau.routing.rearSpk = ⟨0, 0, 0, 0⟩)

/-- R142 to R145, R151, R154 to R156: the end of a slot stores and judges the level by R144 and begins the next slot; a
discarded slot 1 changes nothing else; in PTT_ONLY no floor moves, and in VOX, in the hired states with the alarm CLEAR, a
newly ACTIVE source takes a floor that is NONE, and a holder that becomes SILENT with its button not held gives it up, the
front to a waiting rear; a moved floor is reported by TALK_STATE or owed. The end of a chime lets the oldest queued one begin.
That either end, when due, has its own command is the model's choice (log 5). -/
def Obligations.SlotAndChimeEnd : Prop :=
  (∀ s k level, s.running = true → s.cbi.dormant = false → s.cau.scan = some k → k.samples = 320 →
    k.slot ≤ 2 → level = k.sum / 320 →
    ∀ n x, n = (if k.slot = 0 then
          (if s.meter = .hired ∨ s.meter = .stopped ∨ s.meter = .settling ∨ s.alm.state = .active then 1 else 2)
        else if k.slot = 1 then 2 else 0) →
      x = (if k.slot = 0 then s.cau.frontMic else if k.slot = 1 then s.cau.rearMic else s.cau.radio) →
      (k.discard = true → exec .slotEnd s = .next (s.setCau
        { s.cau with scan := some ⟨n, 0, 0, s.cau.thresholds.getD n ⟨0, 0⟩, false⟩ }))
      ∧ (k.discard = false → s.cau.mode = .pttOnly →
        ∃ u y, exec .slotEnd s = .next u ∧ x.JudgedAs y k.threshold level
          ∧ u.cau = { s.cau with
              frontMic := if k.slot = 0 then y else s.cau.frontMic
              rearMic := if k.slot = 1 then y else s.cau.rearMic
              radio := if k.slot = 2 then y else s.cau.radio
              routing := u.cau.routing
              scan := some ⟨n, 0, 0, s.cau.thresholds.getD n ⟨0, 0⟩, false⟩ }
          ∧ u = { s with cau := u.cau })
      ∧ (k.discard = false → s.cau.mode = .vox → k.slot ≤ 1 →
        (s.meter = .hired ∨ s.meter = .stopped ∨ s.meter = .settling) → s.alm.state = .clear →
        s.cbi.boxes.length = 8 →
        ∃ u y, exec .slotEnd s = .next u ∧ x.JudgedAs y k.threshold level
          ∧ ∀ side held takes gives, side = (if k.slot = 0 then .front else .rear : Floor) →
              held = (if k.slot = 0 then s.cau.frontHeld else s.cau.rearHeld) →
              takes = (s.cau.floor = .none ∧ x.active = false ∧ y.active = true) →
              gives = (s.cau.floor = side ∧ x.active = true ∧ y.active = false ∧ held = false) →
              (takes → u.cau.floor = side ∧ u.cau.rearWaiting = s.cau.rearWaiting)
              ∧ (gives → side = .front → s.cau.rearWaiting = true →
                  u.cau.floor = .rear ∧ u.cau.rearWaiting = false)
              ∧ (gives → (side = .rear ∨ s.cau.rearWaiting = false) →
                  u.cau.floor = .none ∧ u.cau.rearWaiting = s.cau.rearWaiting)
              ∧ (¬takes → ¬gives → u.cau.floor = s.cau.floor ∧ u.cau.rearWaiting = s.cau.rearWaiting
                  ∧ u.cbi = s.cbi)
              ∧ ((takes ∨ gives) → u.cau.owed = true ∨ u.cbi.carries 114
                  [codeByte u.cau.floor.code, if u.cau.rearWaiting then 1 else 0])
              ∧ u.cau = { s.cau with
                  frontMic := if k.slot = 0 then y else s.cau.frontMic
                  rearMic := if k.slot = 1 then y else s.cau.rearMic
                  floor := u.cau.floor
                  rearWaiting := u.cau.rearWaiting
                  routing := u.cau.routing
                  owed := u.cau.owed
                  scan := some ⟨n, 0, 0, s.cau.thresholds.getD n ⟨0, 0⟩, false⟩ }
              ∧ s.cbi.onlyMailboxes u.cbi ∧ u = { s with cau := u.cau, cbi := u.cbi }))
  ∧ (∀ s p, s.running = true → s.cau.chime = some p → p.samplesLeft = 0 →
    (s.cau.queue = [] → exec .chimeEnd s = .next (s.setCau { s.cau with chime := none }))
    ∧ (∀ k rest, s.cau.queue = k :: rest → exec .chimeEnd s = .next (s.setCau { s.cau with
        queue := rest
        chime := some ⟨k, 0, (k.note 0).samples, (k.note 0).half, true⟩ })))

/-- R146 to R150, R154, R155: the floor requests in the hired states with the alarm CLEAR. A CALL_PRESS that finds the floor
FRONT and the rear not waiting requests the CALL_WAITING chime, dropped where the queue is full; no other of them requests
one. TALK_STATE carries a floor holder or a rear-waiting flag that has changed, or is owed; with neither changed nothing is
enqueued before the answer. Outside the hired states the four are refused REFUSED_STATE, and with the alarm ACTIVE
REFUSED_ALARM. -/
def Obligations.FloorFollowsTheButtons : Prop :=
  (∀ s f topic c, s.delivers topic f = true →
    ((topic = 52 ∧ c = .talkPress f) ∨ (topic = 53 ∧ c = .talkRelease f) ∨ (topic = 54 ∧ c = .callPress f)
      ∨ (topic = 55 ∧ c = .callRelease f)) →
    (¬(s.meter = .hired ∨ s.meter = .stopped ∨ s.meter = .settling) →
      exec c s = .next (answer topic f .refusedState (received s)))
    ∧ ((s.meter = .hired ∨ s.meter = .stopped ∨ s.meter = .settling) → s.alm.state = .active →
      exec c s = .next (answer topic f .refusedAlarm (received s))))
  ∧ ∀ s f, (s.meter = .hired ∨ s.meter = .stopped ∨ s.meter = .settling) → s.alm.state = .clear →
    (s.delivers 52 f = true →
      ∃ u, exec (.talkPress f) s = .next (answer 52 f .done u)
        ∧ u.cau = { s.cau with
            floor := .front
            frontHeld := true
            rearWaiting := if s.cau.floor = .rear then s.cau.rearHeld else s.cau.rearWaiting
            routing := u.cau.routing
            owed := u.cau.owed }
        ∧ TalkReported s u
        ∧ (u.cau.floor = s.cau.floor → u.cau.rearWaiting = s.cau.rearWaiting → u.cbi = (received s).cbi)
        ∧ (received s).cbi.onlyMailboxes u.cbi ∧ u = { s with cau := u.cau, cbi := u.cbi })
    ∧ (s.delivers 53 f = true →
      ∃ u, exec (.talkRelease f) s = .next (answer 53 f .done u)
        ∧ u.cau = { s.cau with
            frontHeld := false
            floor :=
              if s.cau.floor = .front then (if s.cau.rearWaiting then .rear else .none) else s.cau.floor
            rearWaiting := if s.cau.floor = .front then false else s.cau.rearWaiting
            routing := u.cau.routing
            owed := u.cau.owed }
        ∧ TalkReported s u
        ∧ (u.cau.floor = s.cau.floor → u.cau.rearWaiting = s.cau.rearWaiting → u.cbi = (received s).cbi)
        ∧ (received s).cbi.onlyMailboxes u.cbi ∧ u = { s with cau := u.cau, cbi := u.cbi })
    ∧ (s.delivers 54 f = true →
      ∃ u, exec (.callPress f) s = .next (answer 54 f .done u)
        ∧ u.cau = { s.cau with
            rearHeld := true
            floor := if s.cau.floor = .front then .front else .rear
            rearWaiting := if s.cau.floor = .front then true else s.cau.rearWaiting
            queue := u.cau.queue
            chime := u.cau.chime
            routing := u.cau.routing
            owed := u.cau.owed }
        ∧ (s.cau.floor = .front → s.cau.rearWaiting = false → s.cau.queue.length < 4 →
            (s.cau.chime ≠ none → u.cau.chime = s.cau.chime ∧ u.cau.queue = s.cau.queue ++ [.callWaiting])
            ∧ (s.cau.chime = none → s.cau.queue = [] →
                u.cau.chime = some ⟨.callWaiting, 0, 1280, 5, true⟩ ∧ u.cau.queue = []))
        ∧ ((s.cau.floor ≠ .front ∨ s.cau.rearWaiting = true ∨ 4 ≤ s.cau.queue.length) →
            u.cau.chime = s.cau.chime ∧ u.cau.queue = s.cau.queue)
        ∧ TalkReported s u
        ∧ (u.cau.floor = s.cau.floor → u.cau.rearWaiting = s.cau.rearWaiting → u.cbi = (received s).cbi)
        ∧ (received s).cbi.onlyMailboxes u.cbi ∧ u = { s with cau := u.cau, cbi := u.cbi })
    ∧ (s.delivers 55 f = true →
      ∃ u, exec (.callRelease f) s = .next (answer 55 f .done u)
        ∧ u.cau = { s.cau with
            rearHeld := false
            floor :=
              if s.cau.floor = .rear ∧ ¬(s.cau.mode = .vox ∧ s.cau.rearMic.active = true) then .none
              else s.cau.floor
            rearWaiting := if s.cau.floor = .front then false else s.cau.rearWaiting
            routing := u.cau.routing
            owed := u.cau.owed }
        ∧ TalkReported s u
        ∧ (u.cau.floor = s.cau.floor → u.cau.rearWaiting = s.cau.rearWaiting → u.cbi = (received s).cbi)
        ∧ (received s).cbi.onlyMailboxes u.cbi ∧ u = { s with cau := u.cau, cbi := u.cbi })

/-! ### Cab Bus Interface -/

/-- R180, Table 11-2: pages 0, 1 and 2 are answered DONE and then by a STATUS_ANSWER of 12, 11 or 7 bytes that begins with the
page and carries the fields of the table as they stand after the answer (a dropped one is counted by then); any other page is
refused. Only the mailboxes change. -/
def Obligations.StatusReadAnswersAPage : Prop :=
  ∀ s f b, s.delivers 58 f = true → f.payload = [b] →
    (2 < b.toNat → exec (.statusRead f) s = .next (answer 58 f .refusedFormat (received s)))
    ∧ (b.toNat ≤ 2 →
      ∃ u v, v = answer 58 f .done (received s)
        ∧ exec (.statusRead f) s = .next u
        ∧ u = enqueueCounted v ⟨2, 97, v.statusPage b.toNat, .cbi, .event⟩
        ∧ (v.statusPage b.toNat).length = (if b.toNat = 0 then 12 else if b.toNat = 1 then 11 else 7)
        ∧ (v.statusPage b.toNat).head? = some b
        ∧ (b.toNat = 0 → v.statusPage 0 =
            [0, codeByte s.meter.code, codeByte s.trc.reason.code, codeByte s.sau.shift.code,
              codeByte s.odu.sensor.code, codeByte s.odu.motion.code, codeByte (received s).cbi.standing.code]
            ++ be 2 (received s).cbi.faultCounter
            ++ [codeByte s.stu.unsettled.length, codeByte s.pld.image.code,
              codeByte ((if s.trc.restricted then 128 else 0) + (if s.alm.state = .active then 64 else 0)
                + (if s.alm.acknowledged then 32 else 0) + (if s.sau.retainedLost then 16 else 0))])
        ∧ (b.toNat = 1 → v.statusPage 1 = [1] ++ be 2 s.cbi.receiveFaults
            ++ be 2 (if s.cbi.firstEmpty.isSome then s.cbi.droppedAnswers
                else min (s.cbi.droppedAnswers + 1) 65535)
            ++ be 2 (received s).cbi.faultCounter
            ++ [codeByte (received s).cbi.standing.code, codeByte (received s).cbi.idleGaps]
            ++ be 2 s.odu.speed)
        ∧ (b.toNat = 2 → v.statusPage 2 = [2] ++ be 2 s.cau.frontMic.level ++ be 2 s.cau.rearMic.level
            ++ be 2 s.cau.radio.level)
        ∧ (received s).cbi.onlyMailboxes u.cbi ∧ u = { s with cbi := u.cbi })

/-- R169, R172, R183: a receive fault in a frame discards it and is counted, after the acknowledge slot where it lies in the
end mark; ten recessive bits make the line idle; on an idle line a dominant bit begins a frame and sets the dormancy timer to
0. `received`: a complete frame ends the reception, its acknowledge slot driven unless SILENCED. The model's choices: the idle
count of 0 after a fault and of 7 after an end mark (log 8); a frame or fault with no frame in reception stands for the start
mark, the idle line and the idle gap before it, or changes nothing (log 7); a LINE_IDLE that counts the 128th gap leaves the
recovery due for its own command (log 5), and one with a frame in reception ends it uncounted (log 43); the acknowledge slot
stands as last driven (log 30); a fault in the end mark leaves the standing as it was whatever the frame's source (log 44). -/
def Obligations.ReceiverFollowsTheLine : Prop :=
  (∀ s, (s.cbi.inFrame = true ∨ s.cbi.idleCount = 10 ∨ s.cbi.standing ≠ .offline) →
    received s = s.setCbi { s.cbi with
      inFrame := false
      idleCount := 7
      ackDriven := s.cbi.standing != .silenced
      dormancyTimer := if s.cbi.inFrame then s.cbi.dormancyTimer else 0 })
  ∧ (∀ s, s.busOn = true → s.cbi.dormant = false → s.cbi.inFlight = none → s.cbi.inFrame = false →
    s.cbi.idleCount ≠ 10 → s.cbi.standing = .offline → s.cbi.idleGaps < 128 →
    received s = s.setCbi { s.cbi with
      idleCount := 7
      ackDriven := true
      dormancyTimer := 0
      faultCounter := if s.cbi.idleGaps = 127 then 0 else s.cbi.faultCounter
      standing := if s.cbi.idleGaps = 127 then .normal else .offline
      idleGaps := if s.cbi.idleGaps = 127 then 0 else s.cbi.idleGaps + 1 })
  ∧ ∀ s, s.busOn = true → s.cbi.dormant = false →
    (∀ fault, s.cbi.inFrame = true → fault ≠ .formatEndMark →
      exec (.receiveFault fault) s = .next (s.setCbi { s.cbi with
        inFrame := false
        idleCount := 0
        ackDriven := false
        receiveFaults := min (s.cbi.receiveFaults + 1) 65535 }))
    ∧ (∀ fault, (s.cbi.inFrame = true ∨ s.cbi.idleCount = 10
        ∨ (7 ≤ s.cbi.idleCount ∧ s.cbi.standing ≠ .offline)) →
      exec (.receiveFault fault) s = .next (s.setCbi { s.cbi with
        inFrame := false
        idleCount := 0
        ackDriven := decide (fault = .formatEndMark ∧ s.cbi.standing ≠ .silenced)
        dormancyTimer := if s.cbi.inFrame then s.cbi.dormancyTimer else 0
        receiveFaults := min (s.cbi.receiveFaults + 1) 65535 }))
    ∧ (∀ fault, s.cbi.inFrame = false → s.cbi.idleCount < 7 → exec (.receiveFault fault) s = .next s)
    ∧ (s.cbi.inFlight = none → s.cbi.standing ≠ .offline →
      exec .lineIdle s = .next (s.setCbi { s.cbi with idleCount := 10, inFrame := false }))
    ∧ (s.cbi.inFlight = none → s.cbi.standing = .offline → s.cbi.idleGaps < 128 →
      exec .lineIdle s = .next (s.setCbi { s.cbi with
        idleCount := 10
        inFrame := false
        idleGaps := s.cbi.idleGaps + 1 }))
    ∧ (s.cbi.inFlight = none → s.cbi.inFrame = false → s.cbi.idleCount = 10 →
      exec .startMark s = .next (s.setCbi { s.cbi with
        inFrame := true
        idleCount := 0
        dormancyTimer := 0 }))

/-- R177, R178, R179: a complete frame that matches no entry changes nothing but the receive state; a malformed request is
answered REFUSED_FORMAT; a malformed report is discarded. The acceptance table of Table 9-4; a frame matches an active entry
of its source whose topic agrees under the mask, is well formed where the entry names the topic and Table 11-1 gives its class
and length, and is then delivered. Which unnamed topics count as reports, and the class of the answer to a malformed request,
are the model's (DEDUCED, log 12), and so is when the receiver takes a frame (`receptive`, log 7). -/
def Obligations.UnmatchedFramesChangeNothing : Prop :=
  (∀ s (topic : BitVec 9) f, s.busOn = true → s.cbi.dormant = false → s.receptive = true →
    s.ownSource f = false →
    (s.entryFor topic.toNat f = none → exec (.unmatchedFrame topic f) s = .next (received s))
    ∧ (∀ e, s.entryFor topic.toNat f = some e → wellFormedFor e topic.toNat f = false →
      exec (.unmatchedFrame topic f) s =
        .next (if (64 ≤ topic.toNat ∧ topic.toNat ≤ 68) ∨ topic.toNat = 72 then received s
          else answer topic.toNat f .refusedFormat (received s))))
  ∧ (∀ (e : AcceptEntry) (topic : Nat) (f : RxFrame), wellFormedFor e topic f = true ↔ topic ∈ e.topics
      ∧ ∃ least most, least ≤ f.payload.length ∧ f.payload.length ≤ most
        ∧ (topic, f.cls.toNat, least, most) ∈ ([(2, 0, 0, 0), (3, 0, 0, 0), (32, 2, 0, 0), (33, 2, 0, 0),
            (34, 2, 0, 0), (35, 2, 0, 0), (36, 2, 0, 0), (38, 2, 9, 9), (39, 2, 8, 8), (40, 2, 1, 1),
            (41, 2, 1, 1), (42, 2, 1, 1), (44, 1, 6, 6), (45, 1, 3, 3), (46, 1, 0, 0), (47, 1, 0, 0),
            (48, 2, 0, 0), (49, 2, 0, 0), (50, 3, 1, 1), (51, 3, 0, 0), (52, 2, 0, 0), (53, 2, 0, 0),
            (54, 2, 0, 0), (55, 2, 0, 0), (56, 2, 0, 0), (57, 3, 0, 12), (58, 2, 1, 1), (59, 2, 4, 4),
            (64, 1, 3, 3), (65, 1, 10, 10), (66, 1, 9, 9), (68, 1, 9, 9), (72, 3, 4, 4)] :
              List (Nat × Nat × Nat × Nat)))
  ∧ (∀ (s : State) (topic : Nat) (f : RxFrame), s.delivers topic f = true ↔ s.busOn = true
      ∧ s.cbi.dormant = false ∧ s.receptive = true ∧ s.ownSource f = false
      ∧ ∃ e, s.entryFor topic f = some e ∧ wellFormedFor e topic f = true)
  ∧ (∀ (s : State) (topic : Nat) (f : RxFrame) e, s.entryFor topic f = some e →
      e ∈ s.cbi.acceptance ∧ e.active = true ∧ e.source = f.src.toNat
      ∧ ∀ i, e.mask.testBit i = true → topic.testBit i = e.topic.testBit i)
  ∧ (∀ (s : State) (topic : Nat) (f : RxFrame), s.entryFor topic f = none → ∀ e ∈ s.cbi.acceptance,
      e.active = false ∨ e.source ≠ f.src.toNat
        ∨ ∃ i, e.mask.testBit i = true ∧ topic.testBit i ≠ e.topic.testBit i)
  ∧ (∀ (p : PeerTable) (row : Nat → Nat → Nat → Block → List Nat → AcceptEntry) second,
      row = (fun topic mask source owner topics => ⟨topic, mask, source, owner, topics, source != 0⟩) →
      second = (if p.dispatch = 0 then p.console else p.dispatch) →
      acceptanceOf p = [row 32 504 p.console .trc [32, 33, 34, 35, 36, 39], row 40 508 p.console .fen [40, 41, 42],
        row 44 508 p.console .stu [44, 45, 46, 47], row 48 508 p.console .sau [48, 49, 50, 51],
        row 52 510 p.console .cau [52, 53], row 56 510 p.console .rsd [56, 57], row 58 511 p.console .cbi [58],
        row 64 508 p.terminal .stu [64, 65, 66], row 68 511 p.terminal .sau [68],
        row 54 510 p.rearPanel .cau [54, 55], row 72 511 p.gateway .odu [72],
        row 38 510 p.dispatch .trc [38, 39], row 59 511 second .odu [59],
        row 2 510 second .alm (if p.dispatch = 0 then [3] else [2, 3]),
        row 57 511 p.dispatch .rsd [57], row 58 511 p.dispatch .cbi [58]])

/-- R44, R64, R90, R145, R152, R154, R182: the part's own number on the line makes the standing SILENCED and the meter
INOPERATIVE with DUPLICATE_STATION, which METER_STATE carries, or is owed; the held state, the trip and the fare are kept, and
the settlement timers stop, with no count left (the model's, log 15). A meter in the hired states leaves them: the floor is
cleared and, with the alarm CLEAR, slot 1 skipped. -/
def Obligations.OwnNumberSilencesThePart : Prop :=
  ∀ s topic cls payload p, s.busOn = true → s.cbi.dormant = false → s.receptive = true →
    s.pld.peers = some p → p.own < 32 → s.trc.reason = .none →
    ∃ u, exec (.ownNumberFrame topic cls payload) s = .next u
      ∧ u.cbi.standing = .silenced ∧ u.meter = .inoperative
      ∧ u.trc = { s.trc with reason := .duplicateStation, owed := u.trc.owed }
      ∧ u.stu = { s.stu with
          attempt := s.stu.attempt.map fun a => { a with timer := none }
          unsettled := s.stu.unsettled.map fun e => { e with timer := none } }
      ∧ (s.meter.inTrip = true → HiredStatesLeft s u ∧ u.cau.chime = s.cau.chime ∧ u.cau.queue = s.cau.queue)
      ∧ (s.meter.inTrip = false → u.cau = s.cau)
      ∧ (s.cbi.boxes.length = 8 → u.cbi.carriesOrOwes u.trc.owed 113
          (meterBytes 0 s.trc.lastTrip s.trc.restricted s.sau.shift))
      ∧ ({ (received s).cbi with standing := .silenced } : Cbi).onlyMailboxes u.cbi
      ∧ u.cbi.faultCounter = (received s).cbi.faultCounter ∧ u.rsd = { s.rsd with freeLamp := false }
      ∧ u = { s with trc := u.trc, stu := u.stu, rsd := u.rsd, cau := u.cau, cbi := u.cbi }

/-- R170 to R172, R175, R181 to R184: an attempt that may begin offers the mailbox whose header is lowest, the older of two
equal ones; it becomes SENDING and its coded frame goes on the line. In NORMAL every PENDING mailbox may be offered, in
LIMITED those of class ALARM and SETTLE, in OFFLINE and SILENCED none; no attempt begins in the listen phase, in DORMANT, with
the line not idle, with another under way, or where none may be offered. How long the line shows the frame, and that the
acknowledge slot stands as last driven, is the model's choice (log 30). -/
def Obligations.AttemptOffersTheLowestHeader : Prop :=
  (∀ s p i, s.mayTransmit = true → s.pld.peers = some p → s.cbi.boxes.length = 8 → i < 8 →
    s.cbi.offers i = true → ∀ header : Nat → Nat,
    header = (fun j => (s.cbi.box j).frame.cls * 16384 + (s.cbi.box j).frame.topic * 32 + p.own) →
    (∀ j, j < 8 → j ≠ i → s.cbi.offers j = true →
      header i < header j ∨ (header i = header j ∧ (s.cbi.box i).age < (s.cbi.box j).age)) →
    ∃ u, exec .transmitAttempt s = .next u
      ∧ u.cbi = { s.cbi with
          boxes := s.cbi.boxes.set i { s.cbi.box i with state := .sending }
          inFlight := some i
          line := frameBits (header i) (s.cbi.box i).frame.payload
          idleCount := 0
          dormancyTimer := 0 }
      ∧ u = { s with cbi := u.cbi })
  ∧ (∀ s : State, s.mayTransmit = true ↔ s.busOn = true ∧ s.cbi.dormant = false ∧ s.cbi.idleCount = 10
      ∧ s.cbi.inFrame = false ∧ s.cbi.inFlight = none ∧ s.cbi.listen = none)
  ∧ (∀ (c : Cbi) i, c.offers i = true ↔ (c.box i).state = .pending
      ∧ (c.standing = .normal ∨ (c.standing = .limited ∧ (c.box i).frame.cls ≤ 1)))
  ∧ (∀ s, (s.mayTransmit = false ∨ ∀ i, i < 8 → s.cbi.offers i = false) → exec .transmitAttempt s = .next s)

/-- R38, R65, R114, R154, R170 to R172, R176, R182: the end of an attempt. Success empties the mailbox, lowers the counter and
reports SENT. Failure raises the counter by 8 and returns a SENDING mailbox to PENDING; lost arbitration returns it to
PENDING; an ABORTING one, or one whose topic has newer content PENDING, is emptied and reports ABORTED. At 256 the standing is
OFFLINE: mailboxes 1 to 7 are emptied and FAILED is reported for each that held a frame, but ABORTED for the failed one that
was ABORTING; mailbox 0 is kept. In SILENCED the end is quiet: no counter, no outcome (the emptying of a superseded mailbox
there: log 33). The idle count of 0 after a failed attempt and of 7 after a success is log 8's; how long the line shows the
frame and the acknowledge slot stands as last driven, log 30's; the order of the outcomes at OFFLINE, log 45's. FAILED makes
METER_STATE, FARE_STATUS, SHIFT_STATE and TALK_STATE owed. -/
def Obligations.AttemptsEndByTable : Prop :=
  (∀ s i m, s.busOn = true → s.cbi.standing ≠ .silenced → s.cbi.inFlight = some i → m = s.cbi.box i →
    (m.state = .sending ∨ m.state = .aborting) →
    (exec .attemptSucceeded s = .next (mailboxOutcome i m.frame .sent (s.setCbi { s.cbi with
        boxes := s.cbi.boxes.set i Mailbox.empty
        inFlight := none
        line := []
        idleCount := 7
        inFrame := false
        faultCounter := s.cbi.faultCounter - 1
        standing := standingOf (s.cbi.faultCounter - 1)
        ackDriven := false })))
    ∧ (∀ fault, s.cbi.faultCounter + 8 < 256 → m.state = .sending → s.cbi.superseded m.frame = false →
      ∃ u, exec (.attemptFailed fault) s = .next u
        ∧ u.cbi = { s.cbi with
            boxes := s.cbi.boxes.set i { m with state := .pending }
            inFlight := none
            line := []
            idleCount := 0
            inFrame := false
            faultCounter := s.cbi.faultCounter + 8
            standing := if s.cbi.faultCounter + 8 < 96 then .normal else .limited
            ackDriven := u.cbi.ackDriven }
        ∧ u = { s with cbi := u.cbi })
    ∧ (m.state = .sending → s.cbi.superseded m.frame = false →
      exec .arbitrationLost s = .next (s.setCbi { s.cbi with
        boxes := s.cbi.boxes.set i { m with state := .pending }
        inFlight := none
        line := []
        idleCount := 0
        inFrame := true }))
    ∧ ((m.state = .aborting ∨ s.cbi.superseded m.frame = true) →
      exec .arbitrationLost s = .next (mailboxOutcome i m.frame .aborted (s.setCbi { s.cbi with
        boxes := s.cbi.boxes.set i Mailbox.empty
        inFlight := none
        line := []
        idleCount := 0
        inFrame := true })))
    ∧ (∀ fault, s.cbi.faultCounter + 8 < 256 → (m.state = .aborting ∨ s.cbi.superseded m.frame = true) →
      ∃ c, exec (.attemptFailed fault) s = .next (mailboxOutcome i m.frame .aborted (s.setCbi c))
        ∧ c = { s.cbi with
            boxes := s.cbi.boxes.set i Mailbox.empty
            inFlight := none
            line := []
            idleCount := 0
            inFrame := false
            faultCounter := s.cbi.faultCounter + 8
            standing := if s.cbi.faultCounter + 8 < 96 then .normal else .limited
            ackDriven := c.ackDriven })
    ∧ (∀ fault failed, 256 ≤ s.cbi.faultCounter + 8 → s.cbi.boxes.length = 8 →
      failed = (([1, 2, 3, 4, 5, 6, 7].filter fun j => (s.cbi.box j).state != .empty
          && (j != i || m.state == .sending)).map fun j => (j, (s.cbi.box j).frame, BoxOutcome.failed)) →
      ∃ c v, v = reportAll failed (s.setCbi c)
        ∧ c = { s.cbi with
            boxes := (List.range 8).map fun j =>
              if j = 0 ∧ i = 0 then (if m.state = .sending then { m with state := .pending } else Mailbox.empty)
              else if j = 0 ∨ (s.cbi.box j).state = .empty then s.cbi.box j
              else Mailbox.empty
            inFlight := none
            line := []
            idleCount := 0
            inFrame := false
            faultCounter := 256
            standing := .offline
            idleGaps := 0
            ackDriven := c.ackDriven }
        ∧ (m.state = .sending → exec (.attemptFailed fault) s = .next v)
        ∧ (m.state = .aborting → exec (.attemptFailed fault) s = .next (mailboxOutcome i m.frame .aborted v))))
  ∧ (∀ s i m c idle receiving, s.busOn = true → s.cbi.standing = .silenced → s.cbi.inFlight = some i →
    m = s.cbi.box i → (m.state = .sending ∨ m.state = .aborting) →
    ((c = .attemptSucceeded ∧ idle = 7 ∧ receiving = false)
      ∨ ((∃ fault, c = .attemptFailed fault) ∧ idle = 0 ∧ receiving = false)
      ∨ (c = .arbitrationLost ∧ idle = 0 ∧ receiving = true)) →
    exec c s = .next (s.setCbi { s.cbi with
      boxes := if m.state = .aborting then s.cbi.boxes
        else s.cbi.boxes.set i (if s.cbi.superseded m.frame then Mailbox.empty else { m with state := .pending })
      inFlight := none
      line := []
      idleCount := idle
      inFrame := receiving }))
  ∧ (∀ s i f,
    (f.owner = .fen → mailboxOutcome i f .failed s = s.setFen { s.fen with owed := true })
    ∧ (f.owner = .trc → mailboxOutcome i f .failed s = s.setTrc { s.trc with owed := true })
    ∧ (f.owner = .cau → mailboxOutcome i f .failed s = s.setCau { s.cau with owed := true })
    ∧ (f.owner = .sau → f.topic = 115 → mailboxOutcome i f .failed s = s.setSau { s.sau with owed := true })
    ∧ (∀ o, o ≠ .failed →
        (f.owner = .fen ∨ f.owner = .trc ∨ f.owner = .cau ∨ (f.owner = .sau ∧ f.topic = 115)) →
        mailboxOutcome i f o s = s))

/-- R126, R135, R158, R172, R181, R183, R184: recovery from OFFLINE, the end of the listen phase, entry into dormancy (each
its own command: log 5), and the wake by a dominant edge. What becomes of the last acknowledge slot is log 30's. -/
def Obligations.InterfacePhasesEnd : Prop :=
  (∀ s, s.busOn = true → s.cbi.standing = .offline → s.cbi.idleGaps = 128 →
    exec .offlineRecovery s = .next (s.setCbi
      { s.cbi with faultCounter := 0, standing := .normal, idleGaps := 0 }))
  ∧ (∀ s, s.busOn = true → s.cbi.listen = some 8 →
    exec .listenPhaseEnd s = .next (s.setCbi { s.cbi with listen := none }))
  ∧ (∀ s, s.running = true → s.cbi.dormant = false → s.cbi.dormancyTimer = 240 → s.quiet = true →
    ∃ u, exec .dormancyEntry s = .next u
      ∧ u.cbi = { s.cbi with dormant := true }
      ∧ u.rsd = { s.rsd with lampTest := none, freeLamp := false }
      ∧ u.cau.scan = none ∧ u.cau.chime = none ∧ u.cau.queue = []
      ∧ u.cau.frontMic = ⟨0, false, 0⟩ ∧ u.cau.rearMic = ⟨0, false, 0⟩ ∧ u.cau.radio = ⟨0, false, 0⟩
      ∧ u.cau.frontSpk = 0 ∧ u.cau.rearSpk = 0 ∧ u.cau.radioOut = 0 ∧ u.cau.routing = Routing.zero
      ∧ u = { s with rsd := u.rsd, cau := u.cau, cbi := u.cbi })
  ∧ (∀ s, s.busOn = true → s.cbi.dormant = true →
    ∃ u, exec .wakeByLine s = .next u
      ∧ u.cbi = { s.cbi with
          dormant := false
          dormancyTimer := 0
          idleCount := 0
          inFrame := false
          ackDriven := false }
      ∧ u.cau.scan = some ⟨0, 0, 0, s.cau.thresholds.getD 0 ⟨0, 0⟩, false⟩
      ∧ u.rsd = { s.rsd with freeLamp := s.meter == .free && s.rsd.lampTest.isNone }
      ∧ u = { s with rsd := u.rsd, cau := u.cau, cbi := u.cbi })

/-- R171, R173: every step keeps mailbox 0 for the ALARM class and the others free of it, at most one PENDING mailbox for a
state topic, and the standing in step with the fault counter. -/
def Obligations.StepKeepsInterfaceSound : Prop :=
  ∀ s t, InterfaceSound s.cbi → step s = .next t → InterfaceSound t.cbi

/-- R173, R179, Table 11-2: an AWAKE part's answer takes the first EMPTY mailbox of 1 to 7 (which one: log 11), in the
request's class or, for class ALARM, in SETTLE; with none EMPTY it is dropped and counted. -/
def Obligations.AnswersArePlacedOrCounted : Prop :=
  ∀ s topic f code, s.cbi.dormant = false →
    (∀ i, s.cbi.firstEmpty = some i →
      answer topic f code s = s.setCbi { s.cbi with
        boxes := s.cbi.boxes.set i ⟨.pending,
          ⟨if f.cls = 0 then 1 else f.cls.toNat, 96,
            [BitVec.ofNat 8 f.src.toNat] ++ be 2 topic ++ [BitVec.ofNat 8 code.code], .cbi, .event⟩,
          s.cbi.nextAge⟩
        nextAge := s.cbi.nextAge + 1 })
    ∧ (s.cbi.firstEmpty = none →
      answer topic f code s =
        s.setCbi { s.cbi with droppedAnswers := min (s.cbi.droppedAnswers + 1) 65535 })

/-- R168: a coded frame of L bytes takes 54 + 10 × L bit times from its start mark to the end of its end mark, and its first
bit is dominant and its last eight recessive. -/
def Obligations.CodedFrameLength : Prop :=
  ∀ header payload,
    (frameBits header payload).length = 54 + 10 * payload.length
      ∧ (frameBits header payload).head? = some false
      ∧ (frameBits header payload).drop (46 + 10 * payload.length) = List.replicate 8 true

/-! ### Supplies and start -/

/-- R9, R14, R161, R188, R193, R194: a loss of the main supply keeps the retained records and darkens the outputs; its return,
and the reset pin, begin a start that is WARM with the integrity marker intact and COLD otherwise; a failure of the backup
supply in a power gap sets the latch. A loss and the reset pin leave nothing due behind: a second end is in the clock and an
alarm entry in the alarm state, the trip record and the counters; where nothing is due, every retained record is as it was.
The model's choices: that an event may be due till then (log 5); what the volatile state is without supply and before load
completion, the SAU's volatile records gone at once (logs 2 and 25); that the retained records stand in State as before after
a failure of the backup supply and until the COLD start has loaded (log 22). -/
def Obligations.SuppliesKeepTheRetainedRecords : Prop :=
  ∀ s,
    (∀ u c v secondDue alarmDue,
      ((c = .mainSupplyLoss ∧ s.supply.main = true ∧ v = settleDue s)
        ∨ (c = .mainSupplyReturn ∧ s.supply.main = false ∧ v = s)
        ∨ (c = .resetPin ∧ s.supply.main = true ∧ v = settleDue s)) → exec c s = .next u →
      secondDue = (s.running = true ∧ s.odu.phase = 4) →
      alarmDue = (s.running = true ∧ s.alm.state = .clear ∧ 8 ≤ s.alm.holdCount) →
      (secondDue → u.odu.clock = s.odu.clock + 1) ∧ (¬secondDue → u.odu.clock = s.odu.clock)
        ∧ u.odu.clockSet = s.odu.clockSet ∧ u.fen.record = s.fen.record
        ∧ u.trc.held = s.trc.held ∧ u.trc.lastTrip = s.trc.lastTrip ∧ u.trc.booking = s.trc.booking
        ∧ (alarmDue → u.trc.record = s.trc.record.map (fun r => { r with alarmDuring := true })
            ∧ u.alm.state = .active ∧ u.alm.acknowledged = false)
        ∧ (¬alarmDue → u.trc.record = s.trc.record ∧ u.alm.state = s.alm.state
            ∧ u.alm.acknowledged = s.alm.acknowledged)
        ∧ u.stu = v.stu
        ∧ u.sau = { v.sau with
            totalsTimer := none
            totalsWaits := false
            journalAnswer := none
            summaryAnswer := none
            owed := false }
        ∧ u.rtm = s.rtm
        ∧ u.rsd.freeLamp = false ∧ u.rsd.chain = List.replicate 1920 0
        ∧ u.cau.frontSpk = 0 ∧ u.cau.rearSpk = 0 ∧ u.cau.radioOut = 0
        ∧ u.running = false ∧ u.pending = s.pending
        ∧ (c = .mainSupplyLoss → u.supply.main = false)
        ∧ (c ≠ .mainSupplyLoss → u.supply.main = true ∧ u.pld.phase = .reading
            ∧ (u.pld.kind = .warm ↔ s.rtm.latch = false ∧ s.rtm.checkAgrees = true)))
    ∧ (∀ u c, (c = .mainSupplyLoss ∨ c = .resetPin) → s.supply.main = true → settleDue s = s →
      exec c s = .next u →
      u.odu.clock = s.odu.clock ∧ u.trc.record = s.trc.record ∧ u.stu = s.stu
        ∧ u.sau = { s.sau with
            totalsTimer := none
            totalsWaits := false
            journalAnswer := none
            summaryAnswer := none
            owed := false }
        ∧ u.alm.state = s.alm.state ∧ u.alm.acknowledged = s.alm.acknowledged)
    ∧ (s.running = false → settleDue s = s)
    ∧ (s.supply.main = true → (∃ u, exec .mainSupplyLoss s = .next u ∧ u.supply.main = false)
        ∧ (∃ u, exec .resetPin s = .next u ∧ u.pld.phase = .reading))
    ∧ (s.supply.main = false →
        (∃ u, exec .mainSupplyReturn s = .next u ∧ u.supply.main = true ∧ u.pld.phase = .reading)
        ∧ exec .backupSupplyFail s = .next (s.setRtm { s.rtm with latch := true }))

/-- R19, R20, R41, R62, R64, R67, R68, R92, R93, R114, R115 to R117, R139, R143, R154, R159, R167, R186, R187, R189 to R191,
R194: a load completion. The image is INVALID at a finding of R189, else DEGRADED at a substitution of R190, else VALID; its
tables, gains and thresholds go to their blocks. With an INVALID image the meter is INOPERATIVE and the interface silent. A
warm start with no present tariff keeps every record as it is, stops the settlement timers and enqueues no frame of the STU or
of the closing; a cold start gives every retained record its cold value; with a usable image the interface begins its listen
phase in NORMAL, and a warm start places the notice of an ACTIVE alarm not acknowledged. A warm start with a present tariff
decides the restriction, stops a HIRED trip with POWER_GAP, ends a QUEUED attempt NOT_TAKEN, makes another UNCERTAIN with a
query (that its count stops at 255: log 16), restarts the query timers and begins a CLOSING again. METER_STATE, SHIFT_STATE
and TALK_STATE carry what stands, or are owed (the closing apart). The model's choices besides: METER_STATE is the first of
the frames (log 9), a byte past the end of the image reads as 0 (log 24), a stopped timer keeps no count (log 15), a cold
start clears the latch in every part (log 41), and placed and cancel requested of an attempt made UNCERTAIN stand (log 42). -/
def Obligations.LoadCompletionStartsThePart : Prop :=
  (∀ img,
    (imageUsable img = true ↔ ImageSound img)
    ∧ (imageState img = .invalid ↔ ¬ImageSound img)
    ∧ (imageState img = .degraded ↔ ImageSound img ∧ ImageSubstituted img)
    ∧ (imageReason img = .imageInvalid ↔ ¬ImageSound img)
    ∧ (imageReason img = .noTariff ↔ ImageSound img ∧ ∀ i, i < 8 → ¬TariffInRange img i))
  ∧ (∀ s img, s.supply.main = true → s.pld.phase = .reading → imageUsable img = true →
    ∃ u, exec (.loadCompletion img) s = .next u
      ∧ u.fen.tariffs.length = 8 ∧ u.fen.catalogue.length = 8
      ∧ (∀ i, i < 8 → (¬TariffInRange img i → u.fen.tariffs[i]? = some none)
          ∧ (TariffInRange img i → u.fen.tariffs[i]? = some (some ⟨field img (16 + 12 * i) 3,
              field img (19 + 12 * i) 2, field img (21 + 12 * i) 2, field img (23 + 12 * i) 2,
              field img (25 + 12 * i) 2, if field img (27 + 12 * i) 1 = 1 then .single else .double⟩)))
      ∧ (∀ i, i < 8 → (¬KindInRange img i → u.fen.catalogue[i]? = some none)
          ∧ (KindInRange img i → u.fen.catalogue[i]? =
              some (some ⟨field img (112 + 4 * i) 3, field img (115 + 4 * i) 1⟩)))
      ∧ u.fen.bookingFee = (if field img 144 3 ≤ 99999 then field img 144 3 else 0)
      ∧ (u.fen.owed = true ↔ s.pld.kind = .warm ∧ s.fen.record.trip ≠ 0)
      ∧ u.cau.gIc = field img 1625 1 ∧ u.cau.gRadio = field img 1626 1 ∧ u.cau.gAlarm = field img 1627 1
      ∧ u.cau.gChime = field img 1628 1
      ∧ u.cau.mode = (if field img 1629 1 = 1 then .vox else .pttOnly)
      ∧ (∀ i, i < 3 → u.cau.thresholds[i]? = some ⟨min (field img (1613 + 4 * i) 2) 32767,
          min (min (field img (1615 + 4 * i) 2) 32767) (min (field img (1613 + 4 * i) 2) 32767)⟩)
      ∧ u.cau.scan = some ⟨0, 0, 0, u.cau.thresholds.getD 0 ⟨0, 0⟩, false⟩
      ∧ u.pld.peers = some ⟨field img 3 1, field img 5 1, field img 6 1, field img 7 1, field img 8 1,
          field img 9 1⟩
      ∧ u.cbi.bitRate = (if field img 4 1 = 1 then some .k125
          else if field img 4 1 = 2 then some .k250 else some .k500)
      ∧ u.odu.settings = some ⟨field img 10 2, field img 14 2,
          if field img 12 1 = 1 then .single else .quadrature,
          if field img 13 1 = 0 then .off else if field img 13 1 = 1 then .us10
            else if field img 13 1 = 2 then .us20 else .us40⟩)
  ∧ (∀ s img, s.supply.main = true → s.pld.phase = .reading → s.pld.kind = .warm → imageReason img ≠ .none →
    ∃ u, exec (.loadCompletion img) s = .next u
      ∧ u.meter = .inoperative
      ∧ u.trc = { s.trc with
          reason := imageReason img
          restricted := false
          preselected := 0
          owed := false }
      ∧ u.fen.record = s.fen.record
      ∧ u.stu = { s.stu with
          attempt := s.stu.attempt.map fun a => { a with timer := none }
          unsettled := s.stu.unsettled.map fun e => { e with timer := none } }
      ∧ u.sau = { s.sau with owed := false }
      ∧ ∀ m ∈ u.cbi.boxes, m.state ≠ .empty → m.frame.owner ≠ .stu ∧ m.frame.topic ≠ 82)
  ∧ ∀ s img, s.supply.main = true → s.pld.phase = .reading →
    ∃ u, exec (.loadCompletion img) s = .next u
      ∧ u.pld.phase = .complete ∧ u.pld.image = imageState img ∧ u.pld.kind = s.pld.kind
      ∧ u.pending = s.pending ∧ u.supply = s.supply
      ∧ (imageUsable img = false → u.meter = .inoperative ∧ u.trc.reason = .imageInvalid
          ∧ u.cbi.standing = .silenced ∧ u.cbi.acceptance = [] ∧ u.odu.settings = none
          ∧ (s.pld.kind = .warm → u.fen.record = s.fen.record ∧ u.trc.held = s.trc.held
              ∧ u.trc.record = s.trc.record ∧ u.trc.booking = s.trc.booking
              ∧ u.stu.session = s.stu.session ∧ u.stu.tenders = s.stu.tenders
              ∧ u.sau.counters = s.sau.counters ∧ u.sau.journal = s.sau.journal
              ∧ u.sau.shift = s.sau.shift ∧ u.sau.lifetime = s.sau.lifetime
              ∧ u.alm.state = s.alm.state ∧ u.odu.clock = s.odu.clock ∧ u.rtm = s.rtm))
      ∧ (imageUsable img = true → u.cbi.standing = .normal ∧ u.cbi.listen = some 0
          ∧ u.cbi.faultCounter = 0 ∧ u.cbi.acceptance = acceptanceOf (imagePeers img)
          ∧ u.odu.settings = imageSensor img ∧ u.pld.tariffCheck = checkBytes (slice img 16 96)
          ∧ u.rsd.marquee = List.replicate 960 0
          ∧ u.cbi.carries 113 (meterBytes u.meter.code u.trc.lastTrip u.trc.restricted u.sau.shift)
          ∧ u.cbi.carriesOrOwes u.cau.owed 114 [0, 0]
          ∧ (u.sau.shift ≠ .closing → u.cbi.carriesOrOwes u.sau.owed 115
              ([codeByte u.sau.shift.code, codeByte u.sau.stage]
              ++ be 2 u.sau.number ++ be 4 u.sau.openTime.toNat
              ++ [codeByte (recCode (u.sau.summary.reconciliation.map (·.result))),
                if u.sau.retainedLost then 1 else 0])))
      ∧ (s.pld.kind = .warm → imageUsable img = true →
          (s.alm.state = .active → s.alm.acknowledged = false →
            u.alm = ⟨.active, false, 0, some 20, false⟩
            ∧ (u.cbi.box 0).state = .pending ∧ (u.cbi.box 0).frame.topic = 1)
          ∧ ((s.alm.state = .clear ∨ s.alm.acknowledged = true) →
            u.alm = ⟨s.alm.state, s.alm.acknowledged, 0, none, false⟩))
      ∧ (s.pld.kind = .warm → imageReason img = .none →
          u.trc = { s.trc with
            held := if s.trc.held = .hired then .stopped else s.trc.held
            record := if s.trc.held = .hired then s.trc.record.map fun r => { r with
                stopTime := if s.odu.clockSet then s.odu.clock else 0
                clockUnset := r.clockUnset || !s.odu.clockSet
                powerGap := true } else s.trc.record
            reason := .none
            restricted := s.sau.shift == .opened && s.sau.recordedCheck != checkBytes (slice img 16 96)
            preselected := 0
            owed := false }
          ∧ (s.sau.shift = .opened → u.sau.shift = .opened ∧ u.sau.counters =
              if s.trc.held = .hired then { s.sau.counters with
                powerGaps := min (s.sau.counters.powerGaps + 1) 65535 } else s.sau.counters)
          ∧ u.stu.session = s.stu.session ∧ u.stu.tenders = s.stu.tenders
          ∧ (s.stu.attempt = none → u.stu.attempt = none ∧ u.stu.lastEnding = s.stu.lastEnding)
          ∧ (∀ a, s.stu.attempt = some a →
              (a.state = .queued → u.stu.attempt = none ∧ u.stu.lastEnding = .notTaken)
              ∧ ((a.state = .offered ∨ a.state = .atTerminal ∨ a.state = .cancelling) →
                  u.stu.attempt = some { a with
                    state := .uncertain
                    queries := min (a.queries + 1) 255
                    timer := some 40
                    waits := false }
                  ∧ u.stu.lastEnding = s.stu.lastEnding
                  ∧ (s.sau.shift ≠ .closing → u.cbi.carries 81 (be 2 a.trip ++ be 1 a.number)))
              ∧ (a.state = .uncertain → u.stu.lastEnding = s.stu.lastEnding
                  ∧ u.stu.attempt = some { a with
                    timer := if a.queries < 6 then some 40 else none
                    waits := false }))
          ∧ (s.sau.shift ≠ .closing → u.stu.unsettled = s.stu.unsettled.map fun e => { e with
              timer := if 0 < e.left then some 40 else none
              waits := false
              closingWaits := false })
          ∧ (s.sau.shift = .closing → (imagePeers img).terminal ≠ 0 →
              u.sau.shift = .closing ∧ u.sau.stage = 2 ∧ u.sau.totalsTimer = some 120
              ∧ u.sau.reconciliation = none)
          ∧ (s.sau.shift = .closing → (imagePeers img).terminal = 0 →
              u.sau.shift = .closed ∧ u.sau.stage = 0 ∧ u.stu.unsettled = []
              ∧ u.sau.reconciliation.map (·.result) = some .noAnswer
              ∧ u.sau.lifetime = s.sau.lifetime.add u.sau.counters))
      ∧ (s.pld.kind = .cold → u.trc.held = .offDuty ∧ u.trc.record = none ∧ u.trc.lastTrip = 0
          ∧ u.fen.record = FareRecord.empty ∧ u.stu = Stu.initial
          ∧ u.sau.shift = .closed ∧ u.sau.number = 0 ∧ u.sau.retainedLost = true
          ∧ u.sau.counters = Counters.zero ∧ u.sau.journal = [] ∧ u.sau.lifetime = ⟨0, 0, 0, 0, 0⟩
          ∧ u.alm.state = .clear ∧ u.alm.acknowledged = false
          ∧ u.odu.clock = 0 ∧ u.odu.clockSet = false ∧ u.rtm = ⟨false, true⟩)
end

