-- ==== Sys2Proof/Laws/State.lean ====
section
/-! SUPPORT. One lemma per field per block update: reading a block after an update of a block. -/

namespace Sys2Proof.Machine

@[simp] theorem State.setOdu_odu (s : State) (x : Odu) : (s.setOdu x).odu = x := rfl
@[simp] theorem State.setOdu_fen (s : State) (x : Odu) : (s.setOdu x).fen = s.fen := rfl
@[simp] theorem State.setOdu_trc (s : State) (x : Odu) : (s.setOdu x).trc = s.trc := rfl
@[simp] theorem State.setOdu_stu (s : State) (x : Odu) : (s.setOdu x).stu = s.stu := rfl
@[simp] theorem State.setOdu_sau (s : State) (x : Odu) : (s.setOdu x).sau = s.sau := rfl
@[simp] theorem State.setOdu_rsd (s : State) (x : Odu) : (s.setOdu x).rsd = s.rsd := rfl
@[simp] theorem State.setOdu_cau (s : State) (x : Odu) : (s.setOdu x).cau = s.cau := rfl
@[simp] theorem State.setOdu_alm (s : State) (x : Odu) : (s.setOdu x).alm = s.alm := rfl
@[simp] theorem State.setOdu_cbi (s : State) (x : Odu) : (s.setOdu x).cbi = s.cbi := rfl
@[simp] theorem State.setOdu_pld (s : State) (x : Odu) : (s.setOdu x).pld = s.pld := rfl
@[simp] theorem State.setOdu_rtm (s : State) (x : Odu) : (s.setOdu x).rtm = s.rtm := rfl
@[simp] theorem State.setOdu_supply (s : State) (x : Odu) : (s.setOdu x).supply = s.supply := rfl
@[simp] theorem State.setOdu_pending (s : State) (x : Odu) : (s.setOdu x).pending = s.pending := rfl

@[simp] theorem State.setFen_odu (s : State) (x : Fen) : (s.setFen x).odu = s.odu := rfl
@[simp] theorem State.setFen_fen (s : State) (x : Fen) : (s.setFen x).fen = x := rfl
@[simp] theorem State.setFen_trc (s : State) (x : Fen) : (s.setFen x).trc = s.trc := rfl
@[simp] theorem State.setFen_stu (s : State) (x : Fen) : (s.setFen x).stu = s.stu := rfl
@[simp] theorem State.setFen_sau (s : State) (x : Fen) : (s.setFen x).sau = s.sau := rfl
@[simp] theorem State.setFen_rsd (s : State) (x : Fen) : (s.setFen x).rsd = s.rsd := rfl
@[simp] theorem State.setFen_cau (s : State) (x : Fen) : (s.setFen x).cau = s.cau := rfl
@[simp] theorem State.setFen_alm (s : State) (x : Fen) : (s.setFen x).alm = s.alm := rfl
@[simp] theorem State.setFen_cbi (s : State) (x : Fen) : (s.setFen x).cbi = s.cbi := rfl
@[simp] theorem State.setFen_pld (s : State) (x : Fen) : (s.setFen x).pld = s.pld := rfl
@[simp] theorem State.setFen_rtm (s : State) (x : Fen) : (s.setFen x).rtm = s.rtm := rfl
@[simp] theorem State.setFen_supply (s : State) (x : Fen) : (s.setFen x).supply = s.supply := rfl
@[simp] theorem State.setFen_pending (s : State) (x : Fen) : (s.setFen x).pending = s.pending := rfl

@[simp] theorem State.setTrc_odu (s : State) (x : Trc) : (s.setTrc x).odu = s.odu := rfl
@[simp] theorem State.setTrc_fen (s : State) (x : Trc) : (s.setTrc x).fen = s.fen := rfl
@[simp] theorem State.setTrc_trc (s : State) (x : Trc) : (s.setTrc x).trc = x := rfl
@[simp] theorem State.setTrc_stu (s : State) (x : Trc) : (s.setTrc x).stu = s.stu := rfl
@[simp] theorem State.setTrc_sau (s : State) (x : Trc) : (s.setTrc x).sau = s.sau := rfl
@[simp] theorem State.setTrc_rsd (s : State) (x : Trc) : (s.setTrc x).rsd = s.rsd := rfl
@[simp] theorem State.setTrc_cau (s : State) (x : Trc) : (s.setTrc x).cau = s.cau := rfl
@[simp] theorem State.setTrc_alm (s : State) (x : Trc) : (s.setTrc x).alm = s.alm := rfl
@[simp] theorem State.setTrc_cbi (s : State) (x : Trc) : (s.setTrc x).cbi = s.cbi := rfl
@[simp] theorem State.setTrc_pld (s : State) (x : Trc) : (s.setTrc x).pld = s.pld := rfl
@[simp] theorem State.setTrc_rtm (s : State) (x : Trc) : (s.setTrc x).rtm = s.rtm := rfl
@[simp] theorem State.setTrc_supply (s : State) (x : Trc) : (s.setTrc x).supply = s.supply := rfl
@[simp] theorem State.setTrc_pending (s : State) (x : Trc) : (s.setTrc x).pending = s.pending := rfl

@[simp] theorem State.setStu_odu (s : State) (x : Stu) : (s.setStu x).odu = s.odu := rfl
@[simp] theorem State.setStu_fen (s : State) (x : Stu) : (s.setStu x).fen = s.fen := rfl
@[simp] theorem State.setStu_trc (s : State) (x : Stu) : (s.setStu x).trc = s.trc := rfl
@[simp] theorem State.setStu_stu (s : State) (x : Stu) : (s.setStu x).stu = x := rfl
@[simp] theorem State.setStu_sau (s : State) (x : Stu) : (s.setStu x).sau = s.sau := rfl
@[simp] theorem State.setStu_rsd (s : State) (x : Stu) : (s.setStu x).rsd = s.rsd := rfl
@[simp] theorem State.setStu_cau (s : State) (x : Stu) : (s.setStu x).cau = s.cau := rfl
@[simp] theorem State.setStu_alm (s : State) (x : Stu) : (s.setStu x).alm = s.alm := rfl
@[simp] theorem State.setStu_cbi (s : State) (x : Stu) : (s.setStu x).cbi = s.cbi := rfl
@[simp] theorem State.setStu_pld (s : State) (x : Stu) : (s.setStu x).pld = s.pld := rfl
@[simp] theorem State.setStu_rtm (s : State) (x : Stu) : (s.setStu x).rtm = s.rtm := rfl
@[simp] theorem State.setStu_supply (s : State) (x : Stu) : (s.setStu x).supply = s.supply := rfl
@[simp] theorem State.setStu_pending (s : State) (x : Stu) : (s.setStu x).pending = s.pending := rfl

@[simp] theorem State.setSau_odu (s : State) (x : Sau) : (s.setSau x).odu = s.odu := rfl
@[simp] theorem State.setSau_fen (s : State) (x : Sau) : (s.setSau x).fen = s.fen := rfl
@[simp] theorem State.setSau_trc (s : State) (x : Sau) : (s.setSau x).trc = s.trc := rfl
@[simp] theorem State.setSau_stu (s : State) (x : Sau) : (s.setSau x).stu = s.stu := rfl
@[simp] theorem State.setSau_sau (s : State) (x : Sau) : (s.setSau x).sau = x := rfl
@[simp] theorem State.setSau_rsd (s : State) (x : Sau) : (s.setSau x).rsd = s.rsd := rfl
@[simp] theorem State.setSau_cau (s : State) (x : Sau) : (s.setSau x).cau = s.cau := rfl
@[simp] theorem State.setSau_alm (s : State) (x : Sau) : (s.setSau x).alm = s.alm := rfl
@[simp] theorem State.setSau_cbi (s : State) (x : Sau) : (s.setSau x).cbi = s.cbi := rfl
@[simp] theorem State.setSau_pld (s : State) (x : Sau) : (s.setSau x).pld = s.pld := rfl
@[simp] theorem State.setSau_rtm (s : State) (x : Sau) : (s.setSau x).rtm = s.rtm := rfl
@[simp] theorem State.setSau_supply (s : State) (x : Sau) : (s.setSau x).supply = s.supply := rfl
@[simp] theorem State.setSau_pending (s : State) (x : Sau) : (s.setSau x).pending = s.pending := rfl

@[simp] theorem State.setRsd_odu (s : State) (x : Rsd) : (s.setRsd x).odu = s.odu := rfl
@[simp] theorem State.setRsd_fen (s : State) (x : Rsd) : (s.setRsd x).fen = s.fen := rfl
@[simp] theorem State.setRsd_trc (s : State) (x : Rsd) : (s.setRsd x).trc = s.trc := rfl
@[simp] theorem State.setRsd_stu (s : State) (x : Rsd) : (s.setRsd x).stu = s.stu := rfl
@[simp] theorem State.setRsd_sau (s : State) (x : Rsd) : (s.setRsd x).sau = s.sau := rfl
@[simp] theorem State.setRsd_rsd (s : State) (x : Rsd) : (s.setRsd x).rsd = x := rfl
@[simp] theorem State.setRsd_cau (s : State) (x : Rsd) : (s.setRsd x).cau = s.cau := rfl
@[simp] theorem State.setRsd_alm (s : State) (x : Rsd) : (s.setRsd x).alm = s.alm := rfl
@[simp] theorem State.setRsd_cbi (s : State) (x : Rsd) : (s.setRsd x).cbi = s.cbi := rfl
@[simp] theorem State.setRsd_pld (s : State) (x : Rsd) : (s.setRsd x).pld = s.pld := rfl
@[simp] theorem State.setRsd_rtm (s : State) (x : Rsd) : (s.setRsd x).rtm = s.rtm := rfl
@[simp] theorem State.setRsd_supply (s : State) (x : Rsd) : (s.setRsd x).supply = s.supply := rfl
@[simp] theorem State.setRsd_pending (s : State) (x : Rsd) : (s.setRsd x).pending = s.pending := rfl

@[simp] theorem State.setCau_odu (s : State) (x : Cau) : (s.setCau x).odu = s.odu := rfl
@[simp] theorem State.setCau_fen (s : State) (x : Cau) : (s.setCau x).fen = s.fen := rfl
@[simp] theorem State.setCau_trc (s : State) (x : Cau) : (s.setCau x).trc = s.trc := rfl
@[simp] theorem State.setCau_stu (s : State) (x : Cau) : (s.setCau x).stu = s.stu := rfl
@[simp] theorem State.setCau_sau (s : State) (x : Cau) : (s.setCau x).sau = s.sau := rfl
@[simp] theorem State.setCau_rsd (s : State) (x : Cau) : (s.setCau x).rsd = s.rsd := rfl
@[simp] theorem State.setCau_cau (s : State) (x : Cau) : (s.setCau x).cau = x := rfl
@[simp] theorem State.setCau_alm (s : State) (x : Cau) : (s.setCau x).alm = s.alm := rfl
@[simp] theorem State.setCau_cbi (s : State) (x : Cau) : (s.setCau x).cbi = s.cbi := rfl
@[simp] theorem State.setCau_pld (s : State) (x : Cau) : (s.setCau x).pld = s.pld := rfl
@[simp] theorem State.setCau_rtm (s : State) (x : Cau) : (s.setCau x).rtm = s.rtm := rfl
@[simp] theorem State.setCau_supply (s : State) (x : Cau) : (s.setCau x).supply = s.supply := rfl
@[simp] theorem State.setCau_pending (s : State) (x : Cau) : (s.setCau x).pending = s.pending := rfl

@[simp] theorem State.setAlm_odu (s : State) (x : Alm) : (s.setAlm x).odu = s.odu := rfl
@[simp] theorem State.setAlm_fen (s : State) (x : Alm) : (s.setAlm x).fen = s.fen := rfl
@[simp] theorem State.setAlm_trc (s : State) (x : Alm) : (s.setAlm x).trc = s.trc := rfl
@[simp] theorem State.setAlm_stu (s : State) (x : Alm) : (s.setAlm x).stu = s.stu := rfl
@[simp] theorem State.setAlm_sau (s : State) (x : Alm) : (s.setAlm x).sau = s.sau := rfl
@[simp] theorem State.setAlm_rsd (s : State) (x : Alm) : (s.setAlm x).rsd = s.rsd := rfl
@[simp] theorem State.setAlm_cau (s : State) (x : Alm) : (s.setAlm x).cau = s.cau := rfl
@[simp] theorem State.setAlm_alm (s : State) (x : Alm) : (s.setAlm x).alm = x := rfl
@[simp] theorem State.setAlm_cbi (s : State) (x : Alm) : (s.setAlm x).cbi = s.cbi := rfl
@[simp] theorem State.setAlm_pld (s : State) (x : Alm) : (s.setAlm x).pld = s.pld := rfl
@[simp] theorem State.setAlm_rtm (s : State) (x : Alm) : (s.setAlm x).rtm = s.rtm := rfl
@[simp] theorem State.setAlm_supply (s : State) (x : Alm) : (s.setAlm x).supply = s.supply := rfl
@[simp] theorem State.setAlm_pending (s : State) (x : Alm) : (s.setAlm x).pending = s.pending := rfl

@[simp] theorem State.setCbi_odu (s : State) (x : Cbi) : (s.setCbi x).odu = s.odu := rfl
@[simp] theorem State.setCbi_fen (s : State) (x : Cbi) : (s.setCbi x).fen = s.fen := rfl
@[simp] theorem State.setCbi_trc (s : State) (x : Cbi) : (s.setCbi x).trc = s.trc := rfl
@[simp] theorem State.setCbi_stu (s : State) (x : Cbi) : (s.setCbi x).stu = s.stu := rfl
@[simp] theorem State.setCbi_sau (s : State) (x : Cbi) : (s.setCbi x).sau = s.sau := rfl
@[simp] theorem State.setCbi_rsd (s : State) (x : Cbi) : (s.setCbi x).rsd = s.rsd := rfl
@[simp] theorem State.setCbi_cau (s : State) (x : Cbi) : (s.setCbi x).cau = s.cau := rfl
@[simp] theorem State.setCbi_alm (s : State) (x : Cbi) : (s.setCbi x).alm = s.alm := rfl
@[simp] theorem State.setCbi_cbi (s : State) (x : Cbi) : (s.setCbi x).cbi = x := rfl
@[simp] theorem State.setCbi_pld (s : State) (x : Cbi) : (s.setCbi x).pld = s.pld := rfl
@[simp] theorem State.setCbi_rtm (s : State) (x : Cbi) : (s.setCbi x).rtm = s.rtm := rfl
@[simp] theorem State.setCbi_supply (s : State) (x : Cbi) : (s.setCbi x).supply = s.supply := rfl
@[simp] theorem State.setCbi_pending (s : State) (x : Cbi) : (s.setCbi x).pending = s.pending := rfl

@[simp] theorem State.setPld_odu (s : State) (x : Pld) : (s.setPld x).odu = s.odu := rfl
@[simp] theorem State.setPld_fen (s : State) (x : Pld) : (s.setPld x).fen = s.fen := rfl
@[simp] theorem State.setPld_trc (s : State) (x : Pld) : (s.setPld x).trc = s.trc := rfl
@[simp] theorem State.setPld_stu (s : State) (x : Pld) : (s.setPld x).stu = s.stu := rfl
@[simp] theorem State.setPld_sau (s : State) (x : Pld) : (s.setPld x).sau = s.sau := rfl
@[simp] theorem State.setPld_rsd (s : State) (x : Pld) : (s.setPld x).rsd = s.rsd := rfl
@[simp] theorem State.setPld_cau (s : State) (x : Pld) : (s.setPld x).cau = s.cau := rfl
@[simp] theorem State.setPld_alm (s : State) (x : Pld) : (s.setPld x).alm = s.alm := rfl
@[simp] theorem State.setPld_cbi (s : State) (x : Pld) : (s.setPld x).cbi = s.cbi := rfl
@[simp] theorem State.setPld_pld (s : State) (x : Pld) : (s.setPld x).pld = x := rfl
@[simp] theorem State.setPld_rtm (s : State) (x : Pld) : (s.setPld x).rtm = s.rtm := rfl
@[simp] theorem State.setPld_supply (s : State) (x : Pld) : (s.setPld x).supply = s.supply := rfl
@[simp] theorem State.setPld_pending (s : State) (x : Pld) : (s.setPld x).pending = s.pending := rfl

@[simp] theorem State.setRtm_odu (s : State) (x : Rtm) : (s.setRtm x).odu = s.odu := rfl
@[simp] theorem State.setRtm_fen (s : State) (x : Rtm) : (s.setRtm x).fen = s.fen := rfl
@[simp] theorem State.setRtm_trc (s : State) (x : Rtm) : (s.setRtm x).trc = s.trc := rfl
@[simp] theorem State.setRtm_stu (s : State) (x : Rtm) : (s.setRtm x).stu = s.stu := rfl
@[simp] theorem State.setRtm_sau (s : State) (x : Rtm) : (s.setRtm x).sau = s.sau := rfl
@[simp] theorem State.setRtm_rsd (s : State) (x : Rtm) : (s.setRtm x).rsd = s.rsd := rfl
@[simp] theorem State.setRtm_cau (s : State) (x : Rtm) : (s.setRtm x).cau = s.cau := rfl
@[simp] theorem State.setRtm_alm (s : State) (x : Rtm) : (s.setRtm x).alm = s.alm := rfl
@[simp] theorem State.setRtm_cbi (s : State) (x : Rtm) : (s.setRtm x).cbi = s.cbi := rfl
@[simp] theorem State.setRtm_pld (s : State) (x : Rtm) : (s.setRtm x).pld = s.pld := rfl
@[simp] theorem State.setRtm_rtm (s : State) (x : Rtm) : (s.setRtm x).rtm = x := rfl
@[simp] theorem State.setRtm_supply (s : State) (x : Rtm) : (s.setRtm x).supply = s.supply := rfl
@[simp] theorem State.setRtm_pending (s : State) (x : Rtm) : (s.setRtm x).pending = s.pending := rfl

@[simp] theorem State.setSupply_odu (s : State) (x : Supply) : (s.setSupply x).odu = s.odu := rfl
@[simp] theorem State.setSupply_fen (s : State) (x : Supply) : (s.setSupply x).fen = s.fen := rfl
@[simp] theorem State.setSupply_trc (s : State) (x : Supply) : (s.setSupply x).trc = s.trc := rfl
@[simp] theorem State.setSupply_stu (s : State) (x : Supply) : (s.setSupply x).stu = s.stu := rfl
@[simp] theorem State.setSupply_sau (s : State) (x : Supply) : (s.setSupply x).sau = s.sau := rfl
@[simp] theorem State.setSupply_rsd (s : State) (x : Supply) : (s.setSupply x).rsd = s.rsd := rfl
@[simp] theorem State.setSupply_cau (s : State) (x : Supply) : (s.setSupply x).cau = s.cau := rfl
@[simp] theorem State.setSupply_alm (s : State) (x : Supply) : (s.setSupply x).alm = s.alm := rfl
@[simp] theorem State.setSupply_cbi (s : State) (x : Supply) : (s.setSupply x).cbi = s.cbi := rfl
@[simp] theorem State.setSupply_pld (s : State) (x : Supply) : (s.setSupply x).pld = s.pld := rfl
@[simp] theorem State.setSupply_rtm (s : State) (x : Supply) : (s.setSupply x).rtm = s.rtm := rfl
@[simp] theorem State.setSupply_supply (s : State) (x : Supply) : (s.setSupply x).supply = x := rfl
@[simp] theorem State.setSupply_pending (s : State) (x : Supply) : (s.setSupply x).pending = s.pending := rfl

@[simp] theorem State.setPending_odu (s : State) (x : List Instr) : (s.setPending x).odu = s.odu := rfl
@[simp] theorem State.setPending_fen (s : State) (x : List Instr) : (s.setPending x).fen = s.fen := rfl
@[simp] theorem State.setPending_trc (s : State) (x : List Instr) : (s.setPending x).trc = s.trc := rfl
@[simp] theorem State.setPending_stu (s : State) (x : List Instr) : (s.setPending x).stu = s.stu := rfl
@[simp] theorem State.setPending_sau (s : State) (x : List Instr) : (s.setPending x).sau = s.sau := rfl
@[simp] theorem State.setPending_rsd (s : State) (x : List Instr) : (s.setPending x).rsd = s.rsd := rfl
@[simp] theorem State.setPending_cau (s : State) (x : List Instr) : (s.setPending x).cau = s.cau := rfl
@[simp] theorem State.setPending_alm (s : State) (x : List Instr) : (s.setPending x).alm = s.alm := rfl
@[simp] theorem State.setPending_cbi (s : State) (x : List Instr) : (s.setPending x).cbi = s.cbi := rfl
@[simp] theorem State.setPending_pld (s : State) (x : List Instr) : (s.setPending x).pld = s.pld := rfl
@[simp] theorem State.setPending_rtm (s : State) (x : List Instr) : (s.setPending x).rtm = s.rtm := rfl
@[simp] theorem State.setPending_supply (s : State) (x : List Instr) : (s.setPending x).supply = s.supply := rfl
@[simp] theorem State.setPending_pending (s : State) (x : List Instr) : (s.setPending x).pending = x := rfl

end Sys2Proof.Machine
end

