-- ==== Sys2Proof/Laws/Ops.lean ====
section
/-! SUPPORT. What each shared operation of Ops and Reception leaves as it was: one lemma an operation. -/

namespace Sys2Proof.Machine

/-! ### The FREE lamp and the routing matrix touch one block each -/

@[simp] theorem updateLamp_frame (s : State) :
    (updateLamp s).odu = s.odu ∧ (updateLamp s).fen = s.fen ∧ (updateLamp s).trc = s.trc
      ∧ (updateLamp s).stu = s.stu ∧ (updateLamp s).sau = s.sau ∧ (updateLamp s).cau = s.cau
      ∧ (updateLamp s).alm = s.alm ∧ (updateLamp s).cbi = s.cbi ∧ (updateLamp s).pld = s.pld
      ∧ (updateLamp s).rtm = s.rtm ∧ (updateLamp s).supply = s.supply
      ∧ (updateLamp s).pending = s.pending := by
  simp [updateLamp]

@[simp] theorem setRouting_frame (s : State) :
    (setRouting s).odu = s.odu ∧ (setRouting s).fen = s.fen ∧ (setRouting s).trc = s.trc
      ∧ (setRouting s).stu = s.stu ∧ (setRouting s).sau = s.sau ∧ (setRouting s).rsd = s.rsd
      ∧ (setRouting s).alm = s.alm ∧ (setRouting s).cbi = s.cbi ∧ (setRouting s).pld = s.pld
      ∧ (setRouting s).rtm = s.rtm ∧ (setRouting s).supply = s.supply
      ∧ (setRouting s).pending = s.pending := by
  simp [setRouting]

/-! ### Wake and enqueue touch the CBI, the RSD and the CAU -/

/-- An AWAKE part is left as it stands. -/
@[simp] theorem wake_awake {s : State} (h : s.cbi.dormant = false) : wake s = s := by simp [wake, h]

@[simp] theorem wake_frame (s : State) :
    (wake s).odu = s.odu ∧ (wake s).fen = s.fen ∧ (wake s).trc = s.trc ∧ (wake s).stu = s.stu
      ∧ (wake s).sau = s.sau ∧ (wake s).alm = s.alm ∧ (wake s).pld = s.pld ∧ (wake s).rtm = s.rtm
      ∧ (wake s).supply = s.supply ∧ (wake s).pending = s.pending := by
  unfold wake; split <;> simp

/-- After a wake the part is AWAKE. -/
@[simp] theorem wake_dormant (s : State) : (wake s).cbi.dormant = false := by
  unfold wake; split <;> simp_all

@[simp] theorem wake_boxes (s : State) : (wake s).cbi.boxes = s.cbi.boxes := by
  unfold wake; split <;> simp_all

@[simp] theorem Cbi.enqueue_dormant (c : Cbi) (f : TxFrame) : (c.enqueue f).1.dormant = c.dormant := by
  unfold Cbi.enqueue
  split
  · split <;> simp [Cbi.write, Cbi.refresh, Cbi.setBox]
  · split
    · simp [Cbi.refresh, Cbi.setBox]
    · split <;> simp [Cbi.write, Cbi.setBox]

@[simp] theorem enqueue_frame (s : State) (f : TxFrame) :
    (enqueue s f).1.odu = s.odu ∧ (enqueue s f).1.fen = s.fen ∧ (enqueue s f).1.trc = s.trc
      ∧ (enqueue s f).1.stu = s.stu ∧ (enqueue s f).1.sau = s.sau ∧ (enqueue s f).1.alm = s.alm
      ∧ (enqueue s f).1.pld = s.pld ∧ (enqueue s f).1.rtm = s.rtm
      ∧ (enqueue s f).1.supply = s.supply ∧ (enqueue s f).1.pending = s.pending := by
  unfold enqueue; dsimp only; split <;> simp

/-- An enqueue of an AWAKE part touches the CBI alone. -/
theorem enqueue_awake {s : State} (f : TxFrame) (h : s.cbi.dormant = false) :
    (enqueue s f).1 = s.setCbi (s.cbi.enqueue f).1 := by
  unfold enqueue; dsimp only; split
  · exact wake_awake (by simp [h])
  · rfl

@[simp] theorem enqueueCounted_frame (s : State) (f : TxFrame) :
    (enqueueCounted s f).odu = s.odu ∧ (enqueueCounted s f).fen = s.fen
      ∧ (enqueueCounted s f).trc = s.trc ∧ (enqueueCounted s f).stu = s.stu
      ∧ (enqueueCounted s f).sau = s.sau ∧ (enqueueCounted s f).alm = s.alm
      ∧ (enqueueCounted s f).pld = s.pld ∧ (enqueueCounted s f).rtm = s.rtm
      ∧ (enqueueCounted s f).supply = s.supply ∧ (enqueueCounted s f).pending = s.pending := by
  unfold enqueueCounted; dsimp only; split <;> simp

@[simp] theorem answer_frame (topic : Nat) (f : RxFrame) (code : ResultCode) (s : State) :
    (answer topic f code s).odu = s.odu ∧ (answer topic f code s).fen = s.fen
      ∧ (answer topic f code s).trc = s.trc ∧ (answer topic f code s).stu = s.stu
      ∧ (answer topic f code s).sau = s.sau ∧ (answer topic f code s).alm = s.alm
      ∧ (answer topic f code s).pld = s.pld ∧ (answer topic f code s).rtm = s.rtm
      ∧ (answer topic f code s).supply = s.supply ∧ (answer topic f code s).pending = s.pending := by
  simp [answer]

/-! ### The blocks' own frames: besides the enqueue, an owed flag -/

@[simp] theorem enqueueMeterState_frame (s : State) :
    (enqueueMeterState s).odu = s.odu ∧ (enqueueMeterState s).fen = s.fen
      ∧ (enqueueMeterState s).stu = s.stu ∧ (enqueueMeterState s).sau = s.sau
      ∧ (enqueueMeterState s).alm = s.alm ∧ (enqueueMeterState s).pld = s.pld
      ∧ (enqueueMeterState s).rtm = s.rtm ∧ (enqueueMeterState s).supply = s.supply
      ∧ (enqueueMeterState s).pending = s.pending := by
  unfold enqueueMeterState; dsimp only; split <;> simp

/-- METER_STATE changes the TRC's owed flag alone. -/
@[simp] theorem enqueueMeterState_trc (s : State) :
    (enqueueMeterState s).trc.held = s.trc.held ∧ (enqueueMeterState s).trc.reason = s.trc.reason
      ∧ (enqueueMeterState s).trc.restricted = s.trc.restricted
      ∧ (enqueueMeterState s).trc.lastTrip = s.trc.lastTrip
      ∧ (enqueueMeterState s).trc.record = s.trc.record
      ∧ (enqueueMeterState s).trc.booking = s.trc.booking
      ∧ (enqueueMeterState s).trc.preselected = s.trc.preselected := by
  unfold enqueueMeterState; dsimp only; split <;> simp

@[simp] theorem enqueueTalkState_frame (s : State) :
    (enqueueTalkState s).odu = s.odu ∧ (enqueueTalkState s).fen = s.fen
      ∧ (enqueueTalkState s).trc = s.trc ∧ (enqueueTalkState s).stu = s.stu
      ∧ (enqueueTalkState s).sau = s.sau ∧ (enqueueTalkState s).alm = s.alm
      ∧ (enqueueTalkState s).pld = s.pld ∧ (enqueueTalkState s).rtm = s.rtm
      ∧ (enqueueTalkState s).supply = s.supply ∧ (enqueueTalkState s).pending = s.pending := by
  simp [enqueueTalkState]

/-! ### Floor, chimes, a change of the meter state -/

@[simp] theorem changeFloor_frame (x : Floor) (w : Bool) (s : State) :
    (changeFloor x w s).odu = s.odu ∧ (changeFloor x w s).fen = s.fen ∧ (changeFloor x w s).trc = s.trc
      ∧ (changeFloor x w s).stu = s.stu ∧ (changeFloor x w s).sau = s.sau
      ∧ (changeFloor x w s).alm = s.alm ∧ (changeFloor x w s).pld = s.pld
      ∧ (changeFloor x w s).rtm = s.rtm ∧ (changeFloor x w s).supply = s.supply
      ∧ (changeFloor x w s).pending = s.pending := by
  unfold changeFloor; split <;> simp

@[simp] theorem clearFloor_frame (s : State) :
    (clearFloor s).odu = s.odu ∧ (clearFloor s).fen = s.fen ∧ (clearFloor s).trc = s.trc
      ∧ (clearFloor s).stu = s.stu ∧ (clearFloor s).sau = s.sau ∧ (clearFloor s).alm = s.alm
      ∧ (clearFloor s).pld = s.pld ∧ (clearFloor s).rtm = s.rtm ∧ (clearFloor s).supply = s.supply
      ∧ (clearFloor s).pending = s.pending := by
  simp [clearFloor]

@[simp] theorem resetRearSlot_frame (s : State) :
    (resetRearSlot s).odu = s.odu ∧ (resetRearSlot s).fen = s.fen ∧ (resetRearSlot s).trc = s.trc
      ∧ (resetRearSlot s).stu = s.stu ∧ (resetRearSlot s).sau = s.sau ∧ (resetRearSlot s).rsd = s.rsd
      ∧ (resetRearSlot s).alm = s.alm ∧ (resetRearSlot s).cbi = s.cbi ∧ (resetRearSlot s).pld = s.pld
      ∧ (resetRearSlot s).rtm = s.rtm ∧ (resetRearSlot s).supply = s.supply
      ∧ (resetRearSlot s).pending = s.pending := by
  simp [resetRearSlot]

@[simp] theorem requestChime_frame (k : ChimeKind) (s : State) :
    (requestChime k s).odu = s.odu ∧ (requestChime k s).fen = s.fen ∧ (requestChime k s).trc = s.trc
      ∧ (requestChime k s).stu = s.stu ∧ (requestChime k s).sau = s.sau ∧ (requestChime k s).rsd = s.rsd
      ∧ (requestChime k s).alm = s.alm ∧ (requestChime k s).cbi = s.cbi ∧ (requestChime k s).pld = s.pld
      ∧ (requestChime k s).rtm = s.rtm ∧ (requestChime k s).supply = s.supply
      ∧ (requestChime k s).pending = s.pending := by
  unfold requestChime; split
  · simp
  · split <;> simp

@[simp] theorem meterChanged_frame (old : MeterState) (s : State) :
    (meterChanged old s).odu = s.odu ∧ (meterChanged old s).fen = s.fen
      ∧ (meterChanged old s).stu = s.stu ∧ (meterChanged old s).sau = s.sau
      ∧ (meterChanged old s).alm = s.alm ∧ (meterChanged old s).pld = s.pld
      ∧ (meterChanged old s).rtm = s.rtm ∧ (meterChanged old s).supply = s.supply
      ∧ (meterChanged old s).pending = s.pending := by
  unfold meterChanged; dsimp only
  split
  · split <;> simp
  · simp

@[simp] theorem meterChanged_trc (old : MeterState) (s : State) :
    (meterChanged old s).trc.held = s.trc.held ∧ (meterChanged old s).trc.reason = s.trc.reason
      ∧ (meterChanged old s).trc.restricted = s.trc.restricted
      ∧ (meterChanged old s).trc.lastTrip = s.trc.lastTrip
      ∧ (meterChanged old s).trc.record = s.trc.record
      ∧ (meterChanged old s).trc.booking = s.trc.booking
      ∧ (meterChanged old s).trc.preselected = s.trc.preselected := by
  unfold meterChanged; dsimp only
  split
  · split <;> simp
  · simp

@[simp] theorem setHeld_frame (h : HeldState) (s : State) :
    (setHeld h s).odu = s.odu ∧ (setHeld h s).fen = s.fen ∧ (setHeld h s).stu = s.stu
      ∧ (setHeld h s).sau = s.sau ∧ (setHeld h s).alm = s.alm ∧ (setHeld h s).pld = s.pld
      ∧ (setHeld h s).rtm = s.rtm ∧ (setHeld h s).supply = s.supply
      ∧ (setHeld h s).pending = s.pending := by
  simp [setHeld]

@[simp] theorem setHeld_trc (h : HeldState) (s : State) :
    (setHeld h s).trc.held = h ∧ (setHeld h s).trc.reason = s.trc.reason
      ∧ (setHeld h s).trc.restricted = s.trc.restricted ∧ (setHeld h s).trc.lastTrip = s.trc.lastTrip
      ∧ (setHeld h s).trc.record = s.trc.record ∧ (setHeld h s).trc.booking = s.trc.booking
      ∧ (setHeld h s).trc.preselected = s.trc.preselected := by
  simp [setHeld]

@[simp] theorem report_frame (g : Counters → Counters) (s : State) :
    (report g s).odu = s.odu ∧ (report g s).fen = s.fen ∧ (report g s).trc = s.trc
      ∧ (report g s).stu = s.stu ∧ (report g s).rsd = s.rsd ∧ (report g s).cau = s.cau
      ∧ (report g s).alm = s.alm ∧ (report g s).cbi = s.cbi ∧ (report g s).pld = s.pld
      ∧ (report g s).rtm = s.rtm ∧ (report g s).supply = s.supply
      ∧ (report g s).pending = s.pending := by
  unfold report; split <;> simp

@[simp] theorem abortWhere_frame (p : TxFrame → Bool) (s : State) :
    (s.abortWhere p).odu = s.odu ∧ (s.abortWhere p).fen = s.fen ∧ (s.abortWhere p).trc = s.trc
      ∧ (s.abortWhere p).stu = s.stu ∧ (s.abortWhere p).sau = s.sau ∧ (s.abortWhere p).rsd = s.rsd
      ∧ (s.abortWhere p).cau = s.cau ∧ (s.abortWhere p).alm = s.alm ∧ (s.abortWhere p).pld = s.pld
      ∧ (s.abortWhere p).rtm = s.rtm ∧ (s.abortWhere p).supply = s.supply
      ∧ (s.abortWhere p).pending = s.pending := by
  simp [State.abortWhere]

/-! ### Reception -/

/-- What an idle line, commanded or implied, and a recovery do: fields of the CBI that no delivery reads. -/
def Cbi.sameFooting (c d : Cbi) : Prop :=
  d = { c with
    idleCount := d.idleCount
    inFrame := d.inFrame
    idleGaps := d.idleGaps
    faultCounter := d.faultCounter
    standing := d.standing
    ackDriven := d.ackDriven
    dormancyTimer := d.dormancyTimer }

theorem Cbi.sameFooting_trans {c d e : Cbi} (h : c.sameFooting d) (g : d.sameFooting e) : c.sameFooting e := by
  unfold Cbi.sameFooting at *; rw [g, h]

theorem offlineRecovery_eq (s : State) : ∃ c, offlineRecovery s = s.setCbi c ∧ s.cbi.sameFooting c := by
  unfold offlineRecovery; split
  · exact ⟨_, rfl, rfl⟩
  · exact ⟨s.cbi, rfl, rfl⟩

theorem lineIdle_eq (s : State) : ∃ c, lineIdle s = s.setCbi c ∧ s.cbi.sameFooting c := by
  unfold lineIdle; split
  · obtain ⟨c, e, h⟩ := offlineRecovery_eq s
    simp only [e]
    exact ⟨_, rfl, Cbi.sameFooting_trans h rfl⟩
  · exact ⟨s.cbi, rfl, rfl⟩

/-- The end of a reception touches the CBI alone, and there the footing of the receiver and the standing. -/
theorem received_eq (s : State) : ∃ c, received s = s.setCbi c ∧ s.cbi.sameFooting c := by
  unfold received endReception impliedIdle
  split
  · obtain ⟨c, e, h⟩ := lineIdle_eq s
    obtain ⟨d, g, k⟩ := offlineRecovery_eq (s.setCbi c)
    simp only [e, g]
    exact ⟨_, rfl, Cbi.sameFooting_trans h (Cbi.sameFooting_trans k rfl)⟩
  · exact ⟨_, rfl, rfl⟩

@[simp] theorem received_frame (s : State) :
    (received s).odu = s.odu ∧ (received s).fen = s.fen ∧ (received s).trc = s.trc
      ∧ (received s).stu = s.stu ∧ (received s).sau = s.sau ∧ (received s).rsd = s.rsd
      ∧ (received s).cau = s.cau ∧ (received s).alm = s.alm ∧ (received s).pld = s.pld
      ∧ (received s).rtm = s.rtm ∧ (received s).supply = s.supply
      ∧ (received s).pending = s.pending := by
  obtain ⟨c, e, -⟩ := received_eq s
  simp [e]

@[simp] theorem received_cbi (s : State) :
    (received s).cbi.boxes = s.cbi.boxes ∧ (received s).cbi.nextAge = s.cbi.nextAge
      ∧ (received s).cbi.acceptance = s.cbi.acceptance ∧ (received s).cbi.dormant = s.cbi.dormant
      ∧ (received s).cbi.inFlight = s.cbi.inFlight ∧ (received s).cbi.line = s.cbi.line
      ∧ (received s).cbi.listen = s.cbi.listen ∧ (received s).cbi.bitRate = s.cbi.bitRate
      ∧ (received s).cbi.receiveFaults = s.cbi.receiveFaults
      ∧ (received s).cbi.droppedAnswers = s.cbi.droppedAnswers := by
  obtain ⟨c, e, h⟩ := received_eq s
  rw [e]; simp only [State.setCbi_cbi]; rw [h]; simp

/-- A frame that reaches its owner: the owner acts on the state after the reception. -/
theorem frameComplete_delivers {topic : Nat} {f : RxFrame} {s : State} (d : State → State)
    (h : s.delivers topic f = true) : frameComplete topic f d s = d (received s) := by
  simp only [State.delivers, Bool.and_eq_true, Bool.not_eq_true'] at h
  obtain ⟨⟨⟨⟨hb, hd⟩, hr⟩, ho⟩, he⟩ := h
  have ho' : (received s).ownSource f = false := by simpa [State.ownSource] using ho
  have hent : (received s).entryFor topic f = s.entryFor topic f := by
    simp [State.entryFor]
  unfold frameComplete
  simp only [hb, hd, hr, ho', hent]
  cases hx : s.entryFor topic f with
  | none => simp [hx] at he
  | some e =>
    simp only [hx, Option.any_some, beq_iff_eq] at he
    simp [he]

end Sys2Proof.Machine
end

