-- ==== Sys2Proof/Laws/Awake.lean ====
section
/-! SUPPORT. What the shared operations do to an AWAKE part: which blocks they can reach, and that the interface keeps all but
its mailboxes. Each lemma gives the state after as block updates of the state before. -/

namespace Sys2Proof.Machine

/-! ### `onlyMailboxes` -/

theorem Cbi.onlyMailboxes_refl (c : Cbi) : c.onlyMailboxes c := rfl

theorem Cbi.onlyMailboxes_trans {c d e : Cbi} (h : c.onlyMailboxes d) (g : d.onlyMailboxes e) :
    c.onlyMailboxes e := by
  unfold Cbi.onlyMailboxes at *
  rw [g, h]

theorem Cbi.onlyMailboxes_dormant {c d : Cbi} (h : c.onlyMailboxes d) : d.dormant = c.dormant := by
  rw [h]

theorem Cbi.enqueue_only (c : Cbi) (f : TxFrame) : c.onlyMailboxes (c.enqueue f).1 := by
  unfold Cbi.enqueue
  split
  · split <;> rfl
  · split
    · rfl
    · split <;> rfl

theorem Cbi.abortWhere_only (c : Cbi) (p : TxFrame → Bool) : c.onlyMailboxes (c.abortWhere p) := rfl

theorem Cbi.abortBox_only (c : Cbi) (i : Nat) (p : TxFrame → Bool) : c.onlyMailboxes (c.abortBox i p) := by
  unfold Cbi.abortBox; split <;> rfl

/-! ### Enqueues -/

/-- An enqueue of an AWAKE part is the enqueue of its interface. -/
theorem enqueue_eq {s : State} (f : TxFrame) (h : s.cbi.dormant = false) :
    enqueue s f = (s.setCbi (s.cbi.enqueue f).1, (s.cbi.enqueue f).2) :=
  Prod.ext (enqueue_awake f h) (by simp [enqueue])

theorem enqueueCounted_awake {s : State} (f : TxFrame) (h : s.cbi.dormant = false) :
    ∃ c, enqueueCounted s f = s.setCbi c ∧ s.cbi.onlyMailboxes c := by
  unfold enqueueCounted
  simp only [enqueue_eq f h]
  have g := Cbi.enqueue_only s.cbi f
  split
  · exact ⟨_, rfl, g⟩
  · refine ⟨{ (s.cbi.enqueue f).1 with droppedAnswers := _ }, rfl, ?_⟩
    exact Cbi.onlyMailboxes_trans g rfl

theorem answer_awake {s : State} (t : Nat) (f : RxFrame) (k : ResultCode) (h : s.cbi.dormant = false) :
    ∃ c, answer t f k s = s.setCbi c ∧ s.cbi.onlyMailboxes c :=
  enqueueCounted_awake _ h

theorem enqueueMeterState_awake {s : State} (h : s.cbi.dormant = false) :
    ∃ c b, enqueueMeterState s = (s.setCbi c).setTrc { s.trc with owed := b } ∧ s.cbi.onlyMailboxes c := by
  unfold enqueueMeterState
  simp only [enqueue_eq _ h]
  split
  · exact ⟨_, s.trc.owed, rfl, Cbi.enqueue_only _ _⟩
  · exact ⟨_, true, rfl, Cbi.enqueue_only _ _⟩

theorem enqueueFareStatus_awake {s : State} (h : s.cbi.dormant = false) :
    ∃ c b, enqueueFareStatus s = (s.setCbi c).setFen { s.fen with owed := b } ∧ s.cbi.onlyMailboxes c := by
  unfold enqueueFareStatus
  simp only [enqueue_eq _ h]
  split
  · exact ⟨_, s.fen.owed, rfl, Cbi.enqueue_only _ _⟩
  · exact ⟨_, true, rfl, Cbi.enqueue_only _ _⟩

theorem enqueueTalkState_awake {s : State} (h : s.cbi.dormant = false) :
    ∃ c b, enqueueTalkState s = (s.setCbi c).setCau { s.cau with owed := b } ∧ s.cbi.onlyMailboxes c := by
  unfold enqueueTalkState
  simp only [enqueue_eq _ h]
  exact ⟨_, _, rfl, Cbi.enqueue_only _ _⟩

theorem enqueueShiftState_awake {s : State} (h : s.cbi.dormant = false) :
    ∃ c b, enqueueShiftState s = (s.setCbi c).setSau { s.sau with owed := b } ∧ s.cbi.onlyMailboxes c := by
  unfold enqueueShiftState
  simp only [enqueue_eq _ h]
  exact ⟨_, _, rfl, Cbi.enqueue_only _ _⟩

theorem settleReport_awake {s : State} (h : s.cbi.dormant = false) :
    ∃ c, settleReport s = s.setCbi c ∧ s.cbi.onlyMailboxes c :=
  enqueueCounted_awake _ h

/-! ### The floor and a change of the meter state -/

theorem changeFloor_awake {s : State} (x : Floor) (w : Bool) (h : s.cbi.dormant = false) :
    ∃ c a, changeFloor x w s = (s.setCbi c).setCau a ∧ s.cbi.onlyMailboxes c
      ∧ a.floor = x ∧ a.rearWaiting = w
      ∧ a = { s.cau with floor := x, rearWaiting := w, routing := a.routing, owed := a.owed } := by
  unfold changeFloor
  split
  · rename_i g
    exact ⟨s.cbi, s.cau, rfl, rfl, g.1, g.2, by rw [← g.1, ← g.2]⟩
  · have g := enqueueTalkState_awake
      (s := setRouting (s.setCau { s.cau with floor := x, rearWaiting := w })) h
    obtain ⟨c, b, e, o⟩ := g
    exact ⟨c, _, e, o, rfl, rfl, rfl⟩

/-- The end of the hired states at the floor. -/
theorem clearFloor_awake {s : State} (h : s.cbi.dormant = false) :
    ∃ c a, clearFloor s = (s.setCbi c).setCau a ∧ s.cbi.onlyMailboxes c
      ∧ a = { s.cau with
          floor := .none
          rearWaiting := false
          frontHeld := false
          rearHeld := false
          routing := a.routing
          owed := a.owed } := by
  obtain ⟨c, a, e, o, -, -, g⟩ := changeFloor_awake
    (s := s.setCau { s.cau with frontHeld := false, rearHeld := false }) .none false h
  exact ⟨c, a, e, o, g⟩

/-- The FREE lamp after METER_STATE of an AWAKE part. -/
theorem updateLamp_awake (s : State) (c : Cbi) (b : Bool) (h : c.dormant = false) :
    updateLamp ((s.setCbi c).setTrc { s.trc with owed := b })
      = ((s.setCbi c).setTrc { s.trc with owed := b }).setRsd { s.rsd with
          freeLamp := s.meter == .free && s.rsd.lampTest.isNone } := by
  show State.setRsd _ { s.rsd with freeLamp := s.meter == .free && !c.dormant && s.rsd.lampTest.isNone } = _
  rw [h, Bool.not_false, Bool.and_true]

/-- A change of the meter state that does not leave the hired states. -/
theorem meterChanged_stay {s : State} (old : MeterState) (h : s.cbi.dormant = false)
    (k : (old.inTrip && !s.meter.inTrip) = false) :
    ∃ c b, meterChanged old s
        = ((s.setCbi c).setTrc { s.trc with owed := b }).setRsd { s.rsd with
            freeLamp := s.meter == .free && s.rsd.lampTest.isNone }
      ∧ s.cbi.onlyMailboxes c := by
  obtain ⟨c, b, e, o⟩ := enqueueMeterState_awake h
  have d := Cbi.onlyMailboxes_dormant o
  refine ⟨c, b, ?_, o⟩
  unfold meterChanged
  have e1 : updateLamp (enqueueMeterState s)
      = ((s.setCbi c).setTrc { s.trc with owed := b }).setRsd { s.rsd with
            freeLamp := s.meter == .free && s.rsd.lampTest.isNone } := by
    rw [e]; exact updateLamp_awake s c b (d.trans h)
  simp only [e1]
  have e2 : (((s.setCbi c).setTrc { s.trc with owed := b }).setRsd { s.rsd with
            freeLamp := s.meter == .free && s.rsd.lampTest.isNone }).meter = s.meter := rfl
  rw [e2, k]
  rfl

/-- A change of the meter state that leaves the hired states. -/
theorem meterChanged_leave {s : State} (old : MeterState) (h : s.cbi.dormant = false)
    (k : (old.inTrip && !s.meter.inTrip) = true) :
    ∃ c b a, meterChanged old s
        = (((s.setCbi c).setTrc { s.trc with owed := b }).setRsd { s.rsd with
            freeLamp := s.meter == .free && s.rsd.lampTest.isNone }).setCau a
      ∧ s.cbi.onlyMailboxes c
      ∧ a = { s.cau with
          floor := .none
          rearWaiting := false
          frontHeld := false
          rearHeld := false
          routing := a.routing
          rearMic := a.rearMic
          scan := a.scan
          owed := a.owed } := by
  obtain ⟨c, b, e, o⟩ := enqueueMeterState_awake h
  have d := Cbi.onlyMailboxes_dormant o
  unfold meterChanged
  have e1 : updateLamp (enqueueMeterState s)
      = ((s.setCbi c).setTrc { s.trc with owed := b }).setRsd { s.rsd with
            freeLamp := s.meter == .free && s.rsd.lampTest.isNone } := by
    rw [e]; exact updateLamp_awake s c b (d.trans h)
  simp only [e1]
  have e2 : (((s.setCbi c).setTrc { s.trc with owed := b }).setRsd { s.rsd with
            freeLamp := s.meter == .free && s.rsd.lampTest.isNone }).meter = s.meter := rfl
  rw [e2, k]
  simp only [if_true]
  obtain ⟨c2, a, e3, o3, g⟩ := clearFloor_awake
    (s := ((s.setCbi c).setTrc { s.trc with owed := b }).setRsd { s.rsd with
            freeLamp := s.meter == .free && s.rsd.lampTest.isNone }) (by simpa [d] using h)
  simp only [e3]
  split
  · refine ⟨c2, b, _, rfl, Cbi.onlyMailboxes_trans o o3, ?_⟩
    simp only [State.setCau_cau]
    rw [g]; rfl
  · refine ⟨c2, b, a, rfl, Cbi.onlyMailboxes_trans o o3, ?_⟩
    rw [g]; rfl

end Sys2Proof.Machine
end

