-- ==== Sys2Proof/Laws/Due.lean ====
section
/-! SUPPORT. What the due events of a window end, taken together by `settleDue`, leave as it was: the ODU but for a second end,
the FEN, the image, the retained memory, the supplies and the queue. -/

namespace Sys2Proof.Machine

/-- Two states agree in every block that no due event but the second end writes. -/
def State.SameBase (s t : State) : Prop :=
  t.odu = s.odu ∧ t.fen = s.fen ∧ t.pld = s.pld ∧ t.rtm = s.rtm ∧ t.supply = s.supply ∧ t.pending = s.pending

theorem State.SameBase.refl (s : State) : s.SameBase s := ⟨rfl, rfl, rfl, rfl, rfl, rfl⟩

theorem State.SameBase.trans {s t u : State} (h : s.SameBase t) (g : t.SameBase u) : s.SameBase u :=
  ⟨g.1.trans h.1, g.2.1.trans h.2.1, g.2.2.1.trans h.2.2.1, g.2.2.2.1.trans h.2.2.2.1,
    g.2.2.2.2.1.trans h.2.2.2.2.1, g.2.2.2.2.2.trans h.2.2.2.2.2⟩

theorem State.SameBase.running {s t : State} (h : s.SameBase t) : t.running = s.running := by
  unfold State.running
  rw [h.2.2.1, h.2.2.2.2.1]

/-- A fold of operations that each keep the base keeps it. -/
theorem State.SameBase.foldl {α : Type} {g : State → α → State} (hg : ∀ (t : State) (x : α), t.SameBase (g t x))
    (l : List α) (s : State) : s.SameBase (l.foldl g s) := by
  induction l generalizing s with
  | nil => exact .refl s
  | cons x l ih => exact (hg s x).trans (ih _)

/-! ### The alarm -/

theorem placeNotice_base (s : State) : s.SameBase (placeNotice s) := by
  unfold placeNotice State.SameBase
  dsimp only
  split <;> simp

theorem endLampTest_base (s : State) : s.SameBase (endLampTest s) := by simp [endLampTest, State.SameBase]

theorem alarmEntry_base (s : State) : s.SameBase (alarmEntry s) := by
  unfold alarmEntry
  split
  · have h : s.SameBase (wake (s.setAlm { s.alm with
        state := .active
        acknowledged := false
        holdCount := 0
        repeatTimer := some Config.repeatTimer })) := by simp [State.SameBase]
    exact (h.trans (placeNotice_base _)).trans
      (by simp [alarmEntered, State.SameBase, markAlarm, audioAlarmEntry, endLampTest])
  · exact .refl s

theorem repeatExpiry_base (s : State) : s.SameBase (repeatExpiry s) := by
  unfold repeatExpiry
  split
  · exact (placeNotice_base s).trans (by simp [State.SameBase])
  · exact .refl s

/-! ### The settlement timers -/

theorem settleReport_base (s : State) : s.SameBase (settleReport s) := by simp [settleReport, State.SameBase]

theorem placeQuery_base (s : State) : s.SameBase (placeQuery s) := by
  unfold placeQuery
  split
  · exact .refl s
  · dsimp only
    split <;> simp [State.SameBase, State.setAttempt]

theorem placeEntryQuery_base (e : UnsettledEntry) (s : State) : s.SameBase (placeEntryQuery e s) := by
  unfold placeEntryQuery
  dsimp only
  split <;> simp [State.SameBase, State.mapEntry]

theorem enterUncertain_base (a : Attempt) (s : State) : s.SameBase (enterUncertain a s) :=
  State.SameBase.trans (by simp [State.SameBase, State.setAttempt]) (placeQuery_base _)

theorem offerExpiry_base (s : State) : s.SameBase (offerExpiry s) := by
  unfold offerExpiry
  split
  · exact State.SameBase.trans (by simp [State.SameBase, dropAttempt, abortAttemptFrames]) (settleReport_base _)
  · exact .refl s

theorem resultExpiry_base (s : State) : s.SameBase (resultExpiry s) := by
  unfold resultExpiry
  split
  · exact (enterUncertain_base _ s).trans (settleReport_base _)
  · exact .refl s

theorem cancelExpiry_base (s : State) : s.SameBase (cancelExpiry s) := by
  unfold cancelExpiry
  split
  · exact (enterUncertain_base _ s).trans (settleReport_base _)
  · exact .refl s

theorem queryExpiry_base (s : State) : s.SameBase (queryExpiry s) := by
  have h : ∀ a, s.SameBase (s.setAttempt a) := fun a => by simp [State.SameBase, State.setAttempt]
  unfold queryExpiry
  split
  · split
    · exact (h _).trans (placeQuery_base _)
    · exact h _
  · exact .refl s

theorem entryExpiry_base (trip : Nat) (s : State) : s.SameBase (entryExpiry trip s) := by
  have h : ∀ g, s.SameBase (s.mapEntry trip g) := fun g => by simp [State.SameBase, State.mapEntry]
  unfold entryExpiry
  split
  · split
    · dsimp only
      split
      · exact h _
      · exact (h _).trans (placeEntryQuery_base _ _)
    · exact .refl s
  · exact .refl s

theorem entryExpiries_base (s : State) : s.SameBase (entryExpiries s) :=
  State.SameBase.foldl (fun t (e : UnsettledEntry) => entryExpiry_base e.trip t) _ s

/-! ### The totals timer, the lamp test, the phases of the interface -/

theorem convertEntry_base (e : UnsettledEntry) (s : State) : s.SameBase (convertEntry e s) := by
  unfold convertEntry
  exact State.SameBase.trans (by simp [State.SameBase, resolution, dropEntry]) (settleReport_base _)

theorem convertAll_base (s : State) : s.SameBase (convertAll s) :=
  State.SameBase.foldl (fun t e => convertEntry_base e t) _ s

theorem enqueueShiftState_base (s : State) : s.SameBase (enqueueShiftState s) := by
  simp [enqueueShiftState, State.SameBase]

theorem finishClosing_base (x : Option (Nat × Nat)) (s : State) : s.SameBase (finishClosing x s) := by
  have h : s.SameBase ((endStage2 s).setSau { (endStage2 s).sau with
      reconciliation := some (reconcile (endStage2 s).sau.counters x) }) := by simp [State.SameBase, endStage2]
  exact ((h.trans (convertAll_base _)).trans (by simp [State.SameBase])).trans (enqueueShiftState_base _)

theorem totalsExpiry_base (s : State) : s.SameBase (totalsExpiry s) := by
  unfold totalsExpiry
  split
  · exact finishClosing_base _ s
  · exact .refl s

theorem lampTestEnd_base (s : State) : s.SameBase (lampTestEnd s) := by
  unfold lampTestEnd
  split
  · exact endLampTest_base s
  · exact .refl s

theorem listenEnd_base (s : State) : s.SameBase (listenEnd s) := by
  unfold listenEnd
  split
  · simp [State.SameBase]
  · exact .refl s

theorem dormancyEntry_base (s : State) : s.SameBase (dormancyEntry s) := by
  unfold dormancyEntry
  split
  · simp [State.SameBase, audioDormant, endLampTest]
  · exact .refl s

/-! ### All of them -/

/-- Taking what is due leaves the base as the second end makes it. -/
theorem settleDue_base (s : State) : (secondEnd s).SameBase (settleDue s) :=
  (alarmEntry_base _).trans <| (repeatExpiry_base _).trans <| (offerExpiry_base _).trans <|
    (resultExpiry_base _).trans <| (cancelExpiry_base _).trans <| (queryExpiry_base _).trans <|
    (entryExpiries_base _).trans <| (totalsExpiry_base _).trans <| (lampTestEnd_base _).trans <|
    (listenEnd_base _).trans <| dormancyEntry_base _

/-- The second end writes the clock and the phase of the ODU alone. -/
theorem secondEnd_frame (s : State) :
    secondEnd s = s.setOdu { s.odu with phase := (secondEnd s).odu.phase, clock := (secondEnd s).odu.clock } := by
  unfold secondEnd
  split <;> rfl

end Sys2Proof.Machine
end

