-- ==== Sys2Proof/Laws/Trips.lean ====
section
/-! SUPPORT. Requests that reach their owner, a change of the held state, and the close of a trip, on an AWAKE part, each as a
record update of the state before; and the accumulator after a rescale. -/

namespace Sys2Proof.Machine

/-! ### The accumulator after a rescale -/

/-- In the range of R30 a rescale is exact. -/
@[simp] theorem progressOf_exact {x : Int} (h : Config.minProgress ≤ x) : progressOf x = x := by
  simp [progressOf, Int.not_lt.2 h]

/-- Below the range it is free within it, at or below 0. -/
theorem progressOf_below {x : Int} (h : x < Config.minProgress) :
    Config.minProgress ≤ progressOf x ∧ progressOf x ≤ 0 := by
  simp only [progressOf, h, if_true]
  exact ⟨Int.le_max_left .., Int.max_le.2 ⟨by decide, by omega⟩⟩


/-- A part that takes a frame is AWAKE. -/
theorem State.delivers_awake {t : Nat} {f : RxFrame} {s : State} (h : s.delivers t f = true) :
    (received s).cbi.dormant = false := by
  simp only [State.delivers, Bool.and_eq_true, Bool.not_eq_true'] at h
  simpa using h.1.1.1.2

@[simp] theorem received_meter (s : State) : (received s).meter = s.meter := by simp [State.meter]

/-- A meter state other than INOPERATIVE is the held state. -/
theorem Trc.meter_held {t : Trc} {m : MeterState} (h : t.meter = m) (hm : m ≠ .inoperative) :
    t.reason = .none ∧ t.held.meter = m := by
  unfold Trc.meter at h
  split at h
  · exact ⟨‹_›, h⟩
  · exact absurd h.symm hm

/-- A new held state that does not leave the hired states. -/
theorem setHeld_stay {s : State} (x : HeldState) (h : s.cbi.dormant = false) (hr : s.trc.reason = .none)
    (k : (s.meter.inTrip && !x.meter.inTrip) = false) :
    ∃ c b, setHeld x s = { s with
        trc := { s.trc with held := x, owed := b }
        rsd := { s.rsd with freeLamp := x.meter == .free && s.rsd.lampTest.isNone }
        cbi := c }
      ∧ s.cbi.onlyMailboxes c := by
  have hm : (s.setTrc { s.trc with held := x }).meter = x.meter := by simp [State.meter, Trc.meter, hr]
  obtain ⟨c, b, e, o⟩ :=
    meterChanged_stay (s := s.setTrc { s.trc with held := x }) s.meter h (by rw [hm]; exact k)
  refine ⟨c, b, ?_, o⟩
  unfold setHeld; rw [e, hm]; rfl

/-- A new held state that leaves the hired states. -/
theorem setHeld_leave {s : State} (x : HeldState) (h : s.cbi.dormant = false) (hr : s.trc.reason = .none)
    (k : (s.meter.inTrip && !x.meter.inTrip) = true) :
    ∃ c b a, setHeld x s = { s with
        trc := { s.trc with held := x, owed := b }
        rsd := { s.rsd with freeLamp := x.meter == .free && s.rsd.lampTest.isNone }
        cau := a
        cbi := c }
      ∧ s.cbi.onlyMailboxes c
      ∧ a = { s.cau with
          floor := .none
          rearWaiting := false
          frontHeld := false
          rearHeld := false
          routing := a.routing
          rearMic := a.rearMic
          scan := a.scan
          owed := a.owed } := by
  have hm : (s.setTrc { s.trc with held := x }).meter = x.meter := by simp [State.meter, Trc.meter, hr]
  obtain ⟨c, b, a, e, o, ha⟩ :=
    meterChanged_leave (s := s.setTrc { s.trc with held := x }) s.meter h (by rw [hm]; exact k)
  refine ⟨c, b, a, ?_, o, ha⟩
  unfold setHeld; rw [e, hm]; rfl

/-- A trip closes. -/
theorem closeTrip_awake {s : State} {r : TripRecord} (o : TripOutcome) (w : Nat) (h : s.cbi.dormant = false)
    (hr : s.trc.record = some r) (hm : s.meter.inTrip = true) :
    ∃ c b a, closeTrip o w s = { s with
        trc := { s.trc with held := .free, record := none, owed := b }
        stu := { s.stu with session := none, tenders := [] }
        sau := { s.sau with
          counters := s.sau.counters.addTrip (r.complete s.fen.record s.stu.tenders o) w
          journal := journalAppend s.sau.journal (r.complete s.fen.record s.stu.tenders o) }
        rsd := { s.rsd with freeLamp := s.rsd.lampTest.isNone }
        cau := a
        cbi := c }
      ∧ s.cbi.onlyMailboxes c
      ∧ a.floor = .none ∧ a.rearWaiting = false ∧ a.frontHeld = false ∧ a.rearHeld = false := by
  have hreason : s.trc.reason = .none := by
    by_contra g
    simp [State.meter, Trc.meter, g, MeterState.inTrip] at hm
  obtain ⟨c, b, a, e, oo, ha⟩ := setHeld_leave
    (s := (tripCloseArrival (r.complete s.fen.record s.stu.tenders o) w s).setTrc { s.trc with record := none })
    .free h hreason (by show (s.meter.inTrip && _) = true; rw [hm]; rfl)
  refine ⟨c, b, a, ?_, oo, ?_⟩
  · unfold closeTrip
    simp only [hr]
    have g : (tripCloseArrival (r.complete s.fen.record s.stu.tenders o) w s).trc = s.trc := rfl
    simp only [g, e]
    rfl
  · rw [ha]; exact ⟨rfl, rfl, rfl, rfl⟩

end Sys2Proof.Machine
end

