-- ==== Sys2Proof/WellFormed.lean ====
section
/-! DEFINITION. Which commands the interfaces can carry: a payload fits a frame (Table 9-2), and the bytes of a load
completion are as many as the loader reads (R188). -/

namespace Sys2Proof

/-- A payload has 0 to 12 bytes; a length of 13 to 15 is a FORMAT fault and no complete frame (R168, R169). -/
def RxFrame.wf (f : RxFrame) : Bool := f.payload.length ≤ 12

/-- The loader reads the three header bytes, and then as many bytes as the length gives (R188). -/
def imageWf (image : List Byte) : Bool :=
  3 ≤ image.length && (Machine.headerLength image).all (· ≤ image.length)

/-- Well-formed commands. -/
def Instr.wf : Instr → Bool
  | .alarmAck f | .alarmClear f | .hire f | .stop f | .resume f | .settle f | .void f => f.wf
  | .bookingAssign f | .bookingCancel f | .tariffSelect f | .extraAdd f | .extraRemove f => f.wf
  | .tenderCash f | .tenderCard f | .payCancel f | .settleDefer f => f.wf
  | .payAccepted f | .payResult f | .payReference f => f.wf
  | .shiftOpen f | .shiftClose f | .terminalTotals f | .journalRead f | .summaryRead f => f.wf
  | .talkPress f | .talkRelease f | .callPress f | .callRelease f => f.wf
  | .signTest f | .signWrite f | .statusRead f | .clockSet f | .vehicleState f => f.wf
  | .unmatchedFrame _ f => f.wf
  | .ownNumberFrame _ _ payload => payload.length ≤ 12
  | .loadCompletion image => imageWf image
  | .wheelInputChange _ _ | .filterWidthElapsed _ | .windowEnd _ | .secondEnd | .retainedSecondsTick
  | .alarmEntry | .repeatTimerExpiry | .offerTimerExpiry | .resultTimerExpiry | .cancelTimerExpiry
  | .queryTimerExpiry | .entryQueryTimerExpiry _ | .totalsTimerExpiry | .lampTestEnd | .refreshPass
  | .scrollStep | .samplePeriod _ _ _ | .slotEnd | .chimeEnd | .receiveFault _ | .transmitAttempt
  | .attemptSucceeded | .attemptFailed _ | .arbitrationLost | .offlineRecovery | .listenPhaseEnd
  | .dormancyEntry | .wakeByLine | .mainSupplyLoss | .backupSupplyFail | .mainSupplyReturn | .resetPin
  | .lineIdle | .startMark => true

end Sys2Proof
end

