-- ==== Sys2Proof/Tests/Slice0.lean ====
section
/-! SUPPORT. The spec's worked cases as tests, a refusal for each check of WellFormed, and for every statement with hypotheses
a state and operands that meet them. -/

namespace Sys2Proof.Tests

open Sys2Proof.Machine

/-! ### A part in service: station 7, five peers, shift 10 OPEN, the meter FREE, the line idle -/

def peers : PeerTable := ⟨7, 1, 2, 3, 4, 5⟩

/-- Tariffs 1 and 2 of Table 2-4. -/
def day : Tariff := ⟨350, 1000, 20, 200, 36, .single⟩
def night : Tariff := ⟨350, 1000, 20, 150, 36, .single⟩

def live : State :=
  { State.reset with
    odu := { Odu.initial with
      clock := 1000000
      clockSet := true
      settings := some ⟨1000, 20, .quadrature, .us10⟩ }
    fen := { Fen.initial with
      tariffs := [some day, some night, none, none, none, none, none, none]
      catalogue := [some ⟨100, 3⟩, none, none, none, none, none, none, none]
      bookingFee := 250 }
    trc := { Trc.initial with held := .free }
    sau := { Sau.initial with shift := .opened, number := 10, retainedLost := false }
    rsd := { Rsd.initial with freeLamp := true, scrollStep := 25 }
    cau := { Cau.initial with gIc := 64, thresholds := [⟨1000, 500⟩, ⟨1000, 500⟩, ⟨1000, 500⟩] }
    cbi := { Cbi.initial with
      bitRate := some .k250
      idleCount := 10
      standing := .normal
      acceptance := acceptanceOf peers }
    pld := { phase := .complete, image := .valid, imageCheck := 0, tariffCheck := 0, peers := some peers, kind := .cold }
    rtm := ⟨false, true⟩ }

/-- A frame of a class from a station. -/
def frame (cls src : Nat) (payload : List Byte) : RxFrame := ⟨BitVec.ofNat 2 cls, BitVec.ofNat 5 src, payload⟩

def held (h : HeldState) (s : State) : State := s.setTrc { s.trc with held := h }

/-- An image with no present tariff. -/
def noTariff : State := live.setTrc { live.trc with reason := .noTariff }

/-- Trip 22 in a held state, at a fare total of 740. -/
def trip (h : HeldState) : State :=
  let s := live.setFen { live.fen with record := { live.fen.hireStart 1000 22 1 false with metered := 740, total := 740 } }
  s.setTrc { s.trc with held := h, lastTrip := 22, record := some { live.newRecord with trip := 22 } }

def attempt (x : AttemptState) (t : Option Nat) : Attempt :=
  ⟨22, 10, 1, 500, x, true, false, t, 5, some [1, 2, 3, 4, 5, 6], false⟩

/-- Trip 22 in settlement with a tender of 240 held and an attempt. -/
def paying (a : Option Attempt) : State :=
  (trip .settling).setStu
    ⟨some ⟨22, 10, 740, 1⟩, [⟨⟨.cash, 240, 0, none⟩, none⟩], a, [], .none⟩

/-- Two unsettled entries, trips 20 and 21, the second with queries left. -/
def entry (n left : Nat) : UnsettledEntry := ⟨n, 10, 1, 300, 6, left, some 0, none, false, false⟩
def owing (s : State) : State := s.setStu { s.stu with unsettled := [entry 20 0, entry 21 1] }

/-- An alarm that is ACTIVE, its repeat timer at 0, and its notice PENDING. -/
def alarmed : State :=
  let s := live.setAlm ⟨.active, false, 0, some 0, false⟩
  s.setCbi { s.cbi with boxes := s.cbi.boxes.set 0 ⟨.pending, s.noticeFrame, 0⟩ }

/-- A mailbox that holds a frame of a class and topic. -/
def box (x : BoxState) (cls topic age : Nat) : Mailbox := ⟨x, ⟨cls, topic, [], .trc, .state⟩, age⟩

def withBoxes (b : List Mailbox) (i : Option Nat) (s : State) : State :=
  s.setCbi { s.cbi with boxes := b ++ List.replicate (8 - b.length) Mailbox.empty, inFlight := i }

/-! ### Worked cases of the spec -/

/-- 11, section 11.1: the two headers. -/
theorem test_headers : headerOf 3 113 7 = 52775 ∧ headerOf 0 1 7 = 39 := by decide

/-- The published check value of the code of R168 over the digits 1 to 9. -/
theorem test_check_of_digits :
    checkBytes [0x31, 0x32, 0x33, 0x34, 0x35, 0x36, 0x37, 0x38, 0x39] = 0x29B1#16 := by decide +kernel

/-- R168: a full frame takes 174 bit times without its idle gap. -/
theorem test_full_frame_length : (frameBits 52775 (List.replicate 12 0)).length = 174 := by decide +kernel

/-- Table 1-3: eight pulses from a debt of 2. -/
theorem test_debt_sequence :
    let o := [false, false, true, true, true, true, true, true].foldl Odu.pulse { Odu.initial with debt := 2 }
    (o.debt, o.forward, o.reverse, o.chargeable) = (0, 6, 2, 2) := by decide

/-- Table 1-2 through the filter: A rises with B high, a reverse pulse. -/
theorem test_edge_with_b_high :
    ({ Odu.initial with lineB := ⟨true, true, false⟩ } : Odu).edgeA .quadrature true =
      { Odu.initial with lineB := ⟨true, true, false⟩, debt := 1, reverse := 1 } := by decide

/-- Table 1-4: one pulse in the history is 36, two are 72; 36 holds the motion state, 72 and 0 move it. -/
theorem test_speed_and_motion :
    speedOf 1 1000 = 36 ∧ speedOf 2 1000 = 72 ∧ Motion.standing.next 36 = .standing
      ∧ Motion.standing.next 72 = .moving ∧ Motion.moving.next 36 = .moving
      ∧ Motion.moving.next 0 = .standing := by decide

/-- Table 2-5: the hire start at rest. -/
theorem test_hire_start :
    let r := live.fen.hireStart 1000 1 1 false
    (r.p, r.drops, r.metered, r.total) = (-144000000, 0, 350, 350) := by decide

/-- Table 2-6: one window with a drop. -/
theorem test_window_with_drop :
    let r := { live.fen.hireStart 1000 1 1 false with p := 28500000 }
    let d := (r.advance ⟨1, 3, 0, 3, 0, .ok, .moving, 108⟩).drop 4
    (d.1.p, d.1.metered, d.1.drops, d.2) = (132000, 370, 1, false) := by decide

/-- Table 2-7: the rescale toward zero. -/
theorem test_rescale :
    ([10000000, 1000001, -1000001, -143800000] : List Int).map (fun p =>
        ({ live.fen.hireStart 1000 1 1 false with p := p }.changeTariff 2 night 1000 9).p)
      = [7500000, 750000, -750000, -107850000] := by decide

/-- R29 by hand: half the K at a warm start, and p halves once more under the night tariff. -/
theorem test_rescale_after_new_k :
    ({ live.fen.hireStart 1000 1 1 false with p := 10000000 }.changeTariff 2 night 500 9).p = 3750000 := by decide

/-- Table 2-8: the rate limit after four drops. -/
theorem test_rate_limit :
    let r := { FareRecord.empty with p := 1500, working := ⟨⟨0, 0, 1, 1, 1, .single⟩, 1000⟩ }
    let d := (r.advance ⟨1, 6, 0, 6, 0, .ok, .moving, 216⟩).drop 4
    (d.1.p, d.1.drops, d.2) = (3999, 4, true) := by decide

/-- Table 5-4: trip 2 by card and cash, then trip 4 deferred and resolved. -/
theorem test_money_counters :
    let r := { live.newRecord with
      total := 4860
      tenders := [⟨.card, 3000, 200, none⟩, ⟨.cash, 1860, 0, none⟩]
      outcome := some .paid }
    let c := Counters.zero.addTrip r 0
    let d := c.addTrip { live.newRecord with total := 2400, outcome := some .unsettled } 0
    let e := d.resolve ⟨4, 2400, true, 2400, 0, 0, none⟩
    (c.fareTotals, c.cash, c.card, c.cardTips) = (4860, 1860, 3000, 200) ∧ d.outstanding = 2400
      ∧ (e.outstanding, e.card, e.lateSettled, e.cardApprovals) = (0, 5400, 1, 2) := by decide

/-- Table 6-4: effective levels of a legend of level 200, and the floor of 8. -/
theorem test_effective_levels :
    effectiveLevel 200 15 = 200 ∧ effectiveLevel 200 7 = 100 ∧ effectiveLevel 200 0 = 12
      ∧ effectiveLevel 100 0 = 8 ∧ effectiveLevel 0 15 = 0 := by decide

/-- Table 6-5: the console's first frame ends AWAITING_ROW at column 79; the first byte of its second completes it. -/
theorem test_pointer_units :
    (readChain WritePointer.origin blankPage [0xC0, 78, 3, 0x80, 0x99, 0x40, 200, 5, 0, 11, 79]).1
        = ⟨0, 11, .awaitingRow 79⟩
      ∧ (readChain ⟨0, 11, .awaitingRow 79⟩ blankPage [20, 0x00, 0x56]).1 = ⟨1, 0, .closed⟩ := by decide

/-- Table 7-2: terms of the mixer. -/
theorem test_mixer_terms :
    mixTerm 100 64 = 100 ∧ mixTerm 100 48 = 75 ∧ mixTerm (-1) 1 = -1 ∧ mixTerm (-100) 48 = -75
      ∧ mixTerm (-101) 48 = -76 ∧ mixTerm 8000 32 = 4000 ∧ mixTerm 30000 80 = 37500 := by decide

/-- Table 7-5: radio levels at thresholds 1,200 and 600. -/
theorem test_radio_activity :
    let t : Threshold := ⟨1200, 600⟩
    let x := SourceLevel.silent.judge 1500 t
    x = ⟨1500, true, 0⟩ ∧ x.judge 900 t = ⟨900, true, 0⟩ ∧ (x.judge 400 t).judge 700 t = ⟨700, true, 1⟩
      ∧ (⟨300, true, 7⟩ : SourceLevel).judge 300 t = ⟨300, false, 8⟩ := by decide

/-- R171: the bounds of the standings. -/
theorem test_standings :
    standingOf 95 = .normal ∧ standingOf 96 = .limited ∧ standingOf 255 = .limited ∧ standingOf 256 = .offline := by
  decide

/-- R172: in OFFLINE a frame after a frame, seven recessive bits counted between them, is one more idle gap. -/
theorem test_gap_between_frames_offline :
    let s := live.setCbi { live.cbi with standing := .offline, faultCounter := 256, idleGaps := 5, idleCount := 7 }
    (received s).cbi.idleGaps = 6 ∧ (received (received s)).cbi.idleGaps = 7 := by decide

/-- Entry 12 takes its second form with DISPATCH absent (Table 9-4). -/
theorem test_clock_set_without_dispatch :
    ((acceptanceOf { peers with dispatch := 0 }).find? (·.accepts 59 1)).isSome
      ∧ ((acceptanceOf peers).find? (·.accepts 59 1)).isNone := by decide

/-! ### WellFormed -/

theorem test_wf_payload_of_13 : Instr.wf (.hire (frame 2 1 (List.replicate 13 0))) = false := by decide
theorem test_wf_own_payload_of_13 : Instr.wf (.ownNumberFrame 5 2 (List.replicate 13 0)) = false := by decide
theorem test_wf_image_too_short : Instr.wf (.loadCompletion [1, 6]) = false := by decide
theorem test_wf_image_cut_off : Instr.wf (.loadCompletion [1, 6, 0x60, 7]) = false := by decide
theorem test_wf_good : Instr.wf (.signWrite (frame 3 1 (List.replicate 12 0))) = true := by decide

/-! ### The hypotheses of each statement are met -/

theorem hyp_StepRunsFrontCommand :
    (live.setPending [.secondEnd]).pending = .secondEnd :: [] ∧ live.pending = [] := by decide

/-- The filter on, and OFF with the level unlike the settled one on each line; and an INVALID image. -/
theorem hyp_WheelInputMeetsTheFilter :
    live.running = true ∧ live.odu.settings = some ⟨1000, 20, .quadrature, .us10⟩ ∧ FilterWidth.us10 ≠ .off
      ∧ true ≠ live.odu.lineB.settled ∧ true ≠ live.odu.lineA.settled
      ∧ (live.setOdu { live.odu with settings := none }).odu.settings = none := by decide

theorem hyp_ElapsedFilterIssuesOnePulse :
    live.running = true ∧ live.odu.settings = some ⟨1000, 20, .quadrature, .us10⟩
      ∧ (∀ a b : Bool, ({ live.odu with lineA := ⟨!a, a, true⟩, lineB := ⟨!b, b, true⟩ } : Odu).lineA.change = true) := by
  decide

theorem hyp_PulsesPayOffTheDebt :
    0 < ({ Odu.initial with debt := 1 } : Odu).debt ∧ Odu.initial.debt = 0 := by decide

/-- A window with room, in each sensor state. -/
theorem hyp_WindowEndClosesTheWindow :
    live.running = true ∧ live.odu.phase < 4 ∧ live.odu.settings = some ⟨1000, 20, .quadrature, .us10⟩ := by decide

/-- The last clause of that statement: no event is due, and an attempt is placed. -/
theorem hyp_WindowEndClosesTheWindow_quiet :
    let s := live.setStu { live.stu with attempt := some ⟨1, 1, 1, 500, .offered, true, false, some 20, 0, none, false⟩ }
    settleDue s = s ∧ s.meter ≠ .inoperative ∧ s.pld.image ≠ .invalid ∧ s.odu.phase < 4 :=
  ⟨rfl, by decide, by decide, by decide⟩

/-- And with no event due: in HIRED 20 and 21 pulses at an Nmax of 20, an entry that waits for nothing, an alarm's timer. -/
theorem hyp_WindowEndClosesTheWindow_record :
    let s := fun n : Nat => (trip .hired).setOdu { live.odu with forward := n, chargeable := n, phase := 3 }
    let e := (trip .hired).setStu { live.stu with unsettled := [{ entry 20 1 with timer := some 1 }] }
    let a := live.setAlm ⟨.active, false, 0, some 1, false⟩
    settleDue (s 20) = s 20 ∧ settleDue (s 21) = s 21 ∧ (s 21).meter = .hired ∧ (s 21).odu.phase < 4
      ∧ settleDue e = e ∧ e.meter ≠ .inoperative ∧ settleDue a = a ∧ live.meter = .free :=
  ⟨rfl, rfl, by decide, by decide, rfl, by decide, rfl, by decide⟩

/-- An INVALID image: no sensor settings and no GATEWAY. -/
theorem hyp_WindowEndClosesTheWindow_invalid :
    let s := { live.setOdu { Odu.initial with phase := 3 } with pld := { live.pld with image := .invalid, peers := none } }
    s.running = true ∧ s.odu.phase < 4 ∧ s.odu.settings = none ∧ s.hasGateway = false ∧ s.odu.forward = 0
      ∧ s.odu.reverse = 0 ∧ s.odu.chargeable = 0 ∧ s.odu.history = [0, 0, 0, 0] ∧ s.odu.sensor = .ok := by decide

/-- A part in service that is quiet, its dormancy timer at `n`. -/
def idle (n : Nat) : State :=
  let s := ((held .offDuty live).setSau { live.sau with shift := .closed }).setOdu
    { live.odu with report := ⟨false, false, false, 15⟩ }
  s.setCbi { s.cbi with dormancyTimer := n }

/-- DORMANT; and AWAKE and quiet, at a dormancy timer of 0 and of 239. -/
theorem hyp_WindowEndClosesTheWindow_quiet_timer :
    let d := (idle 0).setCbi { (idle 0).cbi with dormant := true }
    settleDue d = d ∧ d.cbi.dormant = true ∧ settleDue (idle 0) = idle 0 ∧ settleDue (idle 239) = idle 239
      ∧ (idle 239).cbi.dormant = false ∧ (idle 239).quiet = true ∧ (idle 239).cbi.boxes.length = 8
      ∧ (idle 239).running = true :=
  ⟨rfl, by decide, rfl, rfl, by decide, by decide, by decide, by decide⟩

/-- The three state topics owed; a PAY_REQUEST, a PAY_CANCEL and a query of the attempt that wait. -/
theorem hyp_WindowEndClosesTheWindow_waits :
    let o := { live with
      trc := { live.trc with owed := true }
      sau := { live.sau with owed := true }
      cau := { live.cau with owed := true } }
    let a := fun (x : AttemptState) (t : Option Nat) => paying (some { attempt x t with
      placed := x != .queued, waits := x != .queued })
    settleDue o = o ∧ o.running = true ∧ o.cbi.dormant = false ∧ o.cbi.boxes.length = 8 ∧ o.trc.owed = true
      ∧ settleDue (a .queued none) = a .queued none ∧ settleDue (a .cancelling (some 3)) = a .cancelling (some 3)
      ∧ settleDue (a .uncertain none) = a .uncertain none ∧ (a .queued none).meter ≠ .inoperative :=
  ⟨rfl, by decide, by decide, by decide, by decide, rfl, rfl, rfl, by decide⟩

/-- An entry whose query waits, one whose query of the closing waits, the TOTALS_OFFER and both answers that wait. -/
theorem hyp_WindowEndClosesTheWindow_waits_in_closing :
    let e := { entry 21 1 with timer := none, waits := true }
    let c := { entry 21 1 with timer := some 1, closingWaits := true }
    let n := { entry 20 0 with timer := some 1 }
    let s := fun x : UnsettledEntry => ((held .offDuty live).setStu { live.stu with unsettled := [n, x] }).setSau {
      live.sau with
      shift := .closing
      stage := 2
      totalsTimer := some 120
      totalsWaits := true
      journalAnswer := some ⟨4, [7], 1, none⟩
      summaryAnswer := some ⟨10, [7], 1, none⟩ }
    settleDue (s e) = s e ∧ settleDue (s c) = s c ∧ (s e).meter ≠ .inoperative ∧ (s e).stu.unsettled = [n] ++ e :: []
      ∧ (s c).stu.unsettled = [n] ++ c :: []
      ∧ (∀ y ∈ [n] ++ ([] : List UnsettledEntry), y.trip ≠ 21 ∧ y.waits = false ∧ y.closingWaits = false)
      ∧ e.waits = true ∧ e.closingWaits = false ∧ c.waits = false ∧ c.closingWaits = true :=
  ⟨rfl, rfl, by decide, by decide, by decide, by decide, rfl, rfl, rfl, rfl⟩

theorem hyp_ClockAdvancesByTheSecond :
    let s := live.setOdu { live.odu with phase := 4 }
    let gap := (live.setSupply ⟨false⟩)
    s.running = true ∧ s.odu.phase = 4 ∧ gap.supply.main = false ∧ gap.rtm.latch = false
      ∧ State.reset.supply.main = true ∧ State.reset.pld.phase = .reading := by decide

theorem hyp_ClockAndVehicleReportAreReplaced :
    live.delivers 59 (frame 2 4 [255, 255, 255, 255]) = true
      ∧ live.delivers 72 (frame 3 5 [1, 0, 255, 16]) = true := by decide

/-- The four open states, restricted or not, a present tariff and an absent one, and a closed state. -/
theorem hyp_TariffSelectPreselectsOrStages :
    let f := frame 2 1 [2]
    let g := frame 2 1 [9]
    live.delivers 40 f = true ∧ live.delivers 40 g = true ∧ live.meter = .free ∧ (live.fen.tariff 2).isSome = true
      ∧ live.fen.tariff 9 = none ∧ live.trc.restricted = false
      ∧ (trip .hired).delivers 40 f = true ∧ (trip .hired).meter = .hired
      ∧ (trip .settling).delivers 40 f = true ∧ (trip .settling).meter = .settling
      ∧ (live.setTrc { live.trc with restricted := true }).delivers 40 f = true := by decide

/-- A total that the extra brings to 9,999,999, and an entry behind which none of its kind stands. -/
theorem hyp_ExtrasMoveTheTotal :
    let s := (trip .hired).setFen { live.fen with record := { FareRecord.empty with total := 9999899 } }
    let r := (trip .stopped).setFen { live.fen with
      record := { FareRecord.empty with extras := [⟨1, 100⟩, ⟨1, 90⟩, ⟨2, 5⟩], total := 195 } }
    s.delivers 41 (frame 2 1 [1]) = true ∧ s.meter = .hired ∧ s.fen.kind 1 = some ⟨100, 3⟩
      ∧ s.fen.record.extras.length < 8 ∧ s.fen.record.total + 100 ≤ 9999999
      ∧ r.delivers 42 (frame 2 1 [1]) = true ∧ r.meter = .stopped
      ∧ r.fen.record.extras = [⟨1, 100⟩] ++ ⟨1, 90⟩ :: [⟨2, 5⟩] := by decide

/-- Outside HIRED and STOPPED; kinds 0 and 9, and the absent 2; eight extras, the kind's limit of 3, a total of 9,999,900; and
no entry of the kind to remove. -/
theorem hyp_ExtrasMoveTheTotal_refused :
    let f := fun b : Byte => frame 2 1 [b]
    let s := fun (l : List Extra) (n : Nat) =>
      (trip .hired).setFen { live.fen with record := { FareRecord.empty with extras := l, total := n } }
    live.delivers 41 (f 1) = true ∧ live.delivers 42 (f 1) = true ∧ live.meter = .free
      ∧ noTariff.delivers 41 (f 1) = true ∧ noTariff.delivers 42 (f 1) = true ∧ noTariff.meter = .inoperative
      ∧ (∀ b ∈ ([0, 2, 9] : List Byte), (trip .hired).delivers 41 (f b) = true ∧ (trip .hired).fen.kind b.toNat = none)
      ∧ (s [] 0).fen.kind 1 = some ⟨100, 3⟩ ∧ (s [] 0).delivers 41 (f 1) = true ∧ (s [] 0).delivers 42 (f 1) = true
      ∧ 8 ≤ (s (List.replicate 8 ⟨2, 5⟩) 40).fen.record.extras.length
      ∧ 3 ≤ ((s (List.replicate 3 ⟨1, 100⟩) 300).fen.record.extras.filter (·.kind == 1)).length
      ∧ 9999999 < (s [] 9999900).fen.record.total + 100 ∧ (s [] 0).cbi.boxes.length = 8 := by decide

theorem hyp_HiredWindowIsCharged :
    let s := trip .hired
    let c := s.setFen { s.fen with owed := true, record := { s.fen.record with total := 9999999 } }
    s.meter = .hired ∧ s.fen.record.staged = none ∧ s.fen.record.drops ≤ 65535 ∧ s.fen.record.total ≤ 9999999
      ∧ s.fen.record.working = ⟨day, 1000⟩ ∧ (0 : Int) < 4 * 1000 * 200 * 36 ∧ s.cbi.dormant = false
      ∧ s.cbi.boxes.length = 8 ∧ c.meter = .hired ∧ c.fen.record.total ≤ 9999999 ∧ c.fen.owed = true := by
  decide

/-- A present tariff staged, the queue of chimes at 3 and at 4, and an absent one; a window in FREE with FARE_STATUS owed. -/
theorem hyp_HiredWindowIsCharged_staged :
    let s := fun (i n : Nat) (c : Option ChimePlay) =>
      ((trip .hired).setFen { (trip .hired).fen with record := { (trip .hired).fen.record with staged := some i } }).setCau
        { live.cau with queue := List.replicate n .paid, chime := c }
    let p := ChimePlay.atNote .paid 0
    let f := live.setFen { live.fen with owed := true }
    (s 2 0 none).meter = .hired ∧ (s 2 0 none).fen.record.staged = some 2 ∧ (s 2 0 none).fen.tariff 2 = some night
      ∧ (s 3 0 none).fen.record.staged = some 3 ∧ (s 3 0 none).fen.tariff 3 = none ∧ (s 2 0 none).cbi.boxes.length = 8
      ∧ (s 2 0 none).alm.state = .clear ∧ (s 2 3 (some p)).cau.queue.length < 4 ∧ (s 2 3 (some p)).cau.chime ≠ none
      ∧ 4 ≤ (s 2 4 (some p)).cau.queue.length ∧ (s 2 0 none).cau.queue = [] ∧ (s 2 0 none).cau.chime = none
      ∧ f.meter ≠ .hired ∧ f.fen.owed = true ∧ f.cbi.dormant = false ∧ f.cbi.boxes.length = 8 := by decide

theorem hyp_StagedTariffTakesEffect :
    let r := { (trip .hired).fen.record with staged := some 2 }
    let full := { r with changes := List.replicate 4 ⟨1, 0⟩ }
    r.staged = some 2 ∧ live.fen.tariff 2 = some night ∧ r.changes.length < 4 ∧ 4 ≤ full.changes.length
      ∧ Fen.initial.tariff 2 = none ∧ (r.p * (4 * 1000 * 150 * 36)).tdiv (4 * 1000 * 200 * 36) = -108000000
      ∧ (-(4 * 25000 * 1 * 9999) * (4 * 25000 * 9999 * 3600) : Int).tdiv (4 * 25000 * 1 * 1) < -8796093022208 := by
  decide

theorem hyp_StepKeepsFareTotal : FareSound (trip .hired).fen ∧ ∃ t, step (trip .hired) = .next t := by
  refine ⟨⟨by decide, by decide, ?_, by decide⟩, ⟨_, rfl⟩⟩
  show ∀ t, some t ∈ [some day, some night, none, none, none, none, none, none] → t.f ≤ 99999
  simp [day, night]

/-- A booking that names the absent tariff 3, with preselected the absent 0 (the trip starts at 1) and the present 2; and one
that names the present 2. -/
theorem hyp_HireStartsTheTrip :
    let s := fun b p : Nat => (held .booked live).setTrc
      { live.trc with held := .booked, booking := some ⟨List.replicate 8 1, b⟩, preselected := p, lastTrip := 65534 }
    (∀ x ∈ [s 3 0, s 3 2, s 2 1], x.delivers 32 (frame 2 1 []) = true ∧ x.meter = .booked ∧ x.trc.restricted = false
        ∧ x.odu.sensor = .ok ∧ x.stu.unsettled.length < 4 ∧ x.trc.lastTrip < 65535)
      ∧ (s 3 0).trc.booking.map (·.tariff) = some 3 ∧ (s 3 0).fen.tariff 3 = none ∧ (s 3 0).trc.preselected = 0
      ∧ (s 3 0).fen.tariff 0 = none ∧ (s 3 0).fen.tariff 1 = some day
      ∧ (s 3 2).trc.preselected = 2 ∧ (s 3 2).fen.tariff 2 = some night
      ∧ (s 2 1).trc.booking.map (·.tariff) = some 2 ∧ ((s 2 1).fen.tariff 2).isSome = true := by decide

theorem hyp_HireIsRefusedInOrder :
    let f := frame 2 1 []
    let r := live.setTrc { live.trc with restricted := true }
    let x := live.setOdu { live.odu with sensor := .lost }
    let u := live.setStu { live.stu with unsettled := List.replicate 4 (entry 20 0) }
    let l := live.setTrc { live.trc with lastTrip := 65535 }
    (trip .hired).delivers 32 f = true ∧ (trip .hired).meter = .hired ∧ r.delivers 32 f = true ∧ r.meter = .free
      ∧ x.delivers 32 f = true ∧ x.odu.sensor = .lost ∧ u.delivers 32 f = true ∧ 4 ≤ u.stu.unsettled.length
      ∧ l.delivers 32 f = true ∧ 65535 ≤ l.trc.lastTrip ∧ noTariff.delivers 32 f = true ∧ noTariff.meter = .inoperative := by
  decide

theorem hyp_StopAndResumeMoveTheMeter :
    let s := trip .hired
    let m := s.setOdu { s.odu with motion := .moving }
    s.delivers 33 (frame 2 1 []) = true ∧ s.meter = .hired ∧ s.odu.motion = .standing
      ∧ m.delivers 33 (frame 2 1 []) = true ∧ m.odu.motion = .moving
      ∧ (trip .stopped).delivers 34 (frame 2 1 []) = true ∧ (trip .stopped).meter = .stopped
      ∧ live.delivers 33 (frame 2 1 []) = true ∧ live.delivers 34 (frame 2 1 []) = true ∧ live.meter = .free
      ∧ ((trip .stopped).setTrc { (trip .stopped).trc with restricted := true }).delivers 34 (frame 2 1 []) = true
      ∧ noTariff.delivers 33 (frame 2 1 []) = true ∧ noTariff.delivers 34 (frame 2 1 []) = true := by
  decide

theorem hyp_SettleOpensASession :
    let s := trip .stopped
    let z := s.setFen { s.fen with record := { s.fen.record with metered := 0, total := 0 } }
    s.delivers 35 (frame 2 1 []) = true ∧ s.meter = .stopped ∧ s.odu.motion = .standing ∧ s.trc.record.isSome = true
      ∧ 0 < s.fen.record.total ∧ z.delivers 35 (frame 2 1 []) = true ∧ z.fen.record.total = 0
      ∧ z.stu.tenders = [] := by decide

/-- SETTLE and VOID in INOPERATIVE and in FREE, SETTLE in motion; and a close with the floor held and slot 1 in progress. -/
theorem hyp_SettleOpensASession_refused :
    let f := frame 2 1 []
    let m := (trip .stopped).setOdu { live.odu with motion := .moving }
    let z := ((trip .stopped).setFen { live.fen with record := FareRecord.empty }).setCau
      { live.cau with floor := .front, frontHeld := true, scan := some ⟨1, 5, 9, ⟨1000, 500⟩, false⟩ }
    noTariff.delivers 35 f = true ∧ noTariff.delivers 36 f = true ∧ noTariff.meter = .inoperative
      ∧ live.delivers 35 f = true ∧ live.delivers 36 f = true ∧ live.meter = .free
      ∧ m.delivers 35 f = true ∧ m.meter = .stopped ∧ m.odu.motion = .moving
      ∧ z.delivers 35 f = true ∧ z.fen.record.total = 0 ∧ z.alm.state = .clear ∧ z.cbi.boxes.length = 8 := by decide

theorem hyp_VoidWaivesWhatIsLeft :
    let f := frame 2 1 []
    (trip .stopped).delivers 36 f = true ∧ (trip .stopped).meter = .stopped ∧ (trip .stopped).trc.record.isSome = true
      ∧ (paying none).delivers 36 f = true ∧ (paying none).meter = .settling ∧ (paying none).stu.attempt = none
      ∧ (paying (some (attempt .queued none))).delivers 36 f = true
      ∧ (paying (some (attempt .queued none))).stu.attempt.isSome = true := by decide

theorem hyp_BookingsAreAssignedAndCancelled :
    let b := live.setTrc { live.trc with held := .booked, booking := some ⟨List.replicate 8 1, 8⟩ }
    live.delivers 38 (frame 2 4 (List.replicate 8 1 ++ [8])) = true ∧ live.meter = .free
      ∧ b.meter = .booked ∧ b.delivers 39 (frame 2 1 (List.replicate 8 1)) = true
      ∧ b.delivers 39 (frame 2 4 (List.replicate 8 0)) = true
      ∧ b.delivers 39 (frame 2 4 (List.replicate 8 2)) = true := by decide

/-- INOPERATIVE, not FREE and not BOOKED, restricted, and the index 9. -/
theorem hyp_BookingsAreAssignedAndCancelled_refused :
    let f := fun b : Byte => frame 2 4 (List.replicate 8 1 ++ [b])
    let g := frame 2 1 (List.replicate 8 1)
    let r := live.setTrc { live.trc with restricted := true }
    noTariff.delivers 38 (f 9) = true ∧ noTariff.delivers 39 g = true ∧ noTariff.meter = .inoperative
      ∧ live.delivers 38 (f 9) = true ∧ 8 < (9 : Byte).toNat ∧ (trip .hired).delivers 38 (f 8) = true
      ∧ (trip .hired).meter = .hired ∧ live.delivers 39 g = true ∧ live.meter = .free
      ∧ r.delivers 38 (f 8) = true ∧ r.meter = .free ∧ r.trc.restricted = true := by decide

/-- The due of trip 22 is 500: a cash tender of 499, and one of 500. -/
theorem hyp_CashTenderIsRecorded :
    let s := paying none
    s.delivers 44 (frame 1 1 (be 3 499 ++ be 3 9999999)) = true ∧ s.delivers 44 (frame 1 1 (be 3 500 ++ be 3 0)) = true
      ∧ s.meter = .settling ∧ s.stu.session = some ⟨22, 10, 740, 1⟩ ∧ s.stu.attempt = none
      ∧ s.stu.tenders.length < 3 ∧ 500 = 740 - (s.stu.tenders.map (·.tender.amount)).sum
      ∧ s.trc.record.isSome = true := by decide

/-- INOPERATIVE, not SETTLING, an attempt open, three tenders, and the amounts 0 and 10,000,000. -/
theorem hyp_CashTenderIsRecorded_refused :
    let f := fun n t : Nat => frame 1 1 (be 3 n ++ be 3 t)
    let b := paying (some (attempt .queued none))
    let l := (paying none).setStu { (paying none).stu with tenders := List.replicate 3 ⟨⟨.cash, 1, 0, none⟩, none⟩ }
    noTariff.delivers 44 (f 1 0) = true ∧ noTariff.meter = .inoperative ∧ live.delivers 44 (f 1 0) = true
      ∧ live.meter = .free ∧ b.delivers 44 (f 1 0) = true ∧ b.meter = .settling ∧ b.stu.attempt.isSome = true
      ∧ l.delivers 44 (f 1 0) = true ∧ l.meter = .settling ∧ l.stu.attempt = none ∧ 3 ≤ l.stu.tenders.length
      ∧ (paying none).delivers 44 (f 0 0) = true ∧ (paying none).delivers 44 (f 10000000 0) = true
      ∧ (paying none).delivers 44 (f 1 10000000) = true ∧ (paying none).stu.tenders.length < 3 := by decide

theorem hyp_CardTenderOpensAnAttempt :
    let s := paying none
    s.delivers 45 (frame 1 1 (be 3 500)) = true ∧ s.delivers 45 (frame 1 1 (be 3 0)) = true ∧ s.meter = .settling
      ∧ s.hasTerminal = true ∧ s.stu.attempt = none ∧ s.stu.tenders.length < 3
      ∧ s.stu.session = some ⟨22, 10, 740, 1⟩ := by decide

/-- INOPERATIVE, not SETTLING, no TERMINAL, an attempt open, three tenders, 255 attempts made, and an amount of 501. -/
theorem hyp_CardTenderOpensAnAttempt_refused :
    let f := frame 1 1 (be 3 501)
    let n := { paying none with pld := { live.pld with peers := some { peers with terminal := 0 } } }
    let b := paying (some (attempt .queued none))
    let l := (paying none).setStu { (paying none).stu with tenders := List.replicate 3 ⟨⟨.cash, 1, 0, none⟩, none⟩ }
    let m := (paying none).setStu { (paying none).stu with session := some ⟨22, 10, 740, 255⟩ }
    (∀ s ∈ [noTariff, live, n, b, l, m, paying none], s.delivers 45 f = true)
      ∧ noTariff.meter = .inoperative ∧ live.meter = .free ∧ n.meter = .settling ∧ n.hasTerminal = false
      ∧ b.meter = .settling ∧ b.hasTerminal = true ∧ b.stu.attempt.isSome = true
      ∧ l.stu.attempt = none ∧ 3 ≤ l.stu.tenders.length
      ∧ m.stu.attempt = none ∧ m.stu.tenders.length < 3 ∧ (m.stu.session.map (·.attempts)) = some 255
      ∧ 740 - ((paying none).stu.tenders.map (·.tender.amount)).sum < 501
      ∧ (live.cbi.boxes.length = 8 ∧ live.cbi.firstEmpty.isSome = true) := by decide

theorem hyp_PayCancelActsByState :
    (∀ x ∈ ([.queued, .offered, .atTerminal, .cancelling, .uncertain] : List AttemptState),
      let s := paying (some { attempt x none with placed := false })
      s.delivers 46 (frame 1 1 []) = true ∧ s.meter = .settling) := by decide

/-- QUEUED with the PAY_REQUEST PENDING, and with it SENDING; and with a cancel requested. -/
theorem hyp_PayCancelActsByState_queued :
    let a := attempt .queued none
    let s := fun x : BoxState => withBoxes [Mailbox.empty, ⟨x, payRequestFrame a, 1⟩] none (paying (some a))
    (s .pending).delivers 46 (frame 1 1 []) = true ∧ (s .pending).meter = .settling ∧ a.placed = true
      ∧ (∃ m ∈ (s .pending).cbi.boxes, m.state = .pending ∧ isAttemptFrame 80 a.trip a.number m.frame = true)
      ∧ (s .sending).delivers 46 (frame 1 1 []) = true
      ∧ (∀ m ∈ (s .sending).cbi.boxes, m.state = .pending → isAttemptFrame 80 a.trip a.number m.frame = false)
      ∧ (paying (some { a with cancelRequested := true })).delivers 46 (frame 1 1 []) = true := by decide

/-- INOPERATIVE; not SETTLING; and SETTLING with no attempt. -/
theorem hyp_PayCancelActsByState_refused :
    noTariff.delivers 46 (frame 1 1 []) = true ∧ noTariff.meter = .inoperative
      ∧ (trip .hired).delivers 46 (frame 1 1 []) = true ∧ (trip .hired).meter ≠ .settling
      ∧ (paying none).delivers 46 (frame 1 1 []) = true ∧ (paying none).meter = .settling
      ∧ (paying none).stu.attempt = none := by decide

theorem hyp_DeferralClosesUnsettled :
    let s := paying (some (attempt .uncertain (some 7)))
    s.delivers 47 (frame 1 1 []) = true ∧ s.meter = .settling ∧ (attempt .uncertain (some 7)).state = .uncertain
      ∧ s.stu.session.isSome = true ∧ s.trc.record.isSome = true := by decide

/-- INOPERATIVE; not SETTLING; no attempt; and one that is not UNCERTAIN. -/
theorem hyp_DeferralClosesUnsettled_refused :
    let f := frame 1 1 []
    noTariff.delivers 47 f = true ∧ noTariff.meter = .inoperative ∧ live.delivers 47 f = true ∧ live.meter = .free
      ∧ (paying none).delivers 47 f = true ∧ (paying none).stu.attempt = none
      ∧ (paying (some (attempt .cancelling none))).delivers 47 f = true
      ∧ (attempt .cancelling none).state ≠ .uncertain := by decide

theorem hyp_PayAcceptedStartsTheResultTimer :
    (∀ x ∈ ([.queued, .offered, .atTerminal, .cancelling, .uncertain] : List AttemptState), ∀ c : Bool,
      let s := paying (some { attempt x none with cancelRequested := c })
      s.delivers 64 (frame 1 2 (be 2 22 ++ be 1 1)) = true ∧ s.meter ≠ .inoperative)
      ∧ (payRequestFrame (attempt .queued none)).payload.take 3 = be 2 22 ++ be 1 1
      ∧ (paying (some (attempt .queued none))).cbi.dormant = false ∧ (attempt .queued none).placed = true := by
  decide

/-- INOPERATIVE with the attempt named; an unsettled entry named; and nothing named, the shift OPEN and CLOSED. -/
theorem hyp_PayAcceptedStartsTheResultTimer_others :
    let f := fun t : Nat => frame 1 2 (be 2 t ++ be 1 1)
    let i := (paying (some (attempt .offered none))).setTrc { (paying none).trc with reason := .noTariff }
    let c := live.setSau { live.sau with shift := .closed }
    i.delivers 64 (f 22) = true ∧ i.meter = .inoperative ∧ i.stu.attempt = some (attempt .offered none)
      ∧ (owing live).delivers 64 (f 21) = true ∧ (owing live).stu.attempt = none
      ∧ (∃ e ∈ (owing live).stu.unsettled, e.trip = 21 ∧ e.attempt = 1)
      ∧ (owing live).delivers 64 (f 22) = true
      ∧ (∀ e ∈ (owing live).stu.unsettled, e.trip ≠ 22 ∨ e.attempt ≠ 1) ∧ (owing live).sau.shift ≠ .closed
      ∧ c.delivers 64 (f 22) = true ∧ c.stu.unsettled = [] ∧ c.sau.shift = .closed := by decide

/-- The three outcomes; an approval of 499 leaves a due, one of 500 none. -/
theorem hyp_PayResultEndsTheAttempt :
    let s := paying (some (attempt .uncertain none))
    s.meter = .settling ∧ s.trc.record.isSome = true ∧ s.stu.session = some ⟨22, 10, 740, 1⟩
      ∧ (∀ o ∈ [1, 2, 3], ∀ a ∈ [0, 499, 500, 501],
          s.delivers 65 (frame 1 2 (be 2 22 ++ be 1 1 ++ be 1 o ++ be 3 a ++ be 3 20)) = true)
      ∧ (s.stu.tenders.map (·.tender.amount)).sum + min 499 500 < 740
      ∧ 740 ≤ (s.stu.tenders.map (·.tender.amount)).sum + min 501 500
      ∧ (paying (some { attempt .queued none with requested := 300 })).meter = .settling ∧ 240 + min 400 300 < 740
      ∧ s.cbi.boxes.length = 8 ∧ s.sau.shift ≠ .closed := by decide

theorem hyp_LateResultsAreResolvedOrStray :
    let s := owing live
    let f := fun t : Nat => frame 1 2 (be 2 t ++ be 1 1 ++ be 1 1 ++ be 3 300 ++ be 3 0)
    let c := s.setSau { s.sau with shift := .closed }
    s.delivers 65 (f 21) = true ∧ s.stu.attempt = none ∧ s.entryOf 21 1 = some (entry 21 1)
      ∧ s.delivers 65 (f 22) = true ∧ s.entryOf 22 1 = none ∧ s.sau.shift ≠ .closed
      ∧ c.delivers 65 (f 22) = true ∧ c.entryOf 22 1 = none ∧ c.sau.shift = .closed := by decide

/-- With attempt 1 of trip 22 open: a result for entry 21, and one for attempt 2, which is stray; results with outcome 0 and 4,
an amount and a tip of 10,000,000; and, in INOPERATIVE, one for the open attempt. -/
theorem hyp_LateResultsAreResolvedOrStray_open :
    let s := owing (paying (some (attempt .uncertain none)))
    let f := fun t n o a p : Nat => frame 1 2 (be 2 t ++ be 1 n ++ be 1 o ++ be 3 a ++ be 3 p)
    let i := s.setTrc { s.trc with reason := .noTariff }
    let c := s.setSau { s.sau with shift := .closed }
    s.stu.attempt = some (attempt .uncertain none) ∧ s.delivers 65 (f 21 1 1 300 0) = true
      ∧ s.entryOf 21 1 = some (entry 21 1) ∧ s.delivers 65 (f 22 2 1 300 0) = true ∧ s.entryOf 22 2 = none
      ∧ s.delivers 65 (f 22 1 0 300 0) = true ∧ s.delivers 65 (f 22 1 4 300 0) = true
      ∧ s.delivers 65 (f 22 1 1 10000000 0) = true ∧ s.delivers 65 (f 22 1 1 0 10000000) = true
      ∧ s.sau.shift ≠ .closed ∧ c.delivers 65 (f 22 1 4 300 0) = true ∧ c.sau.shift = .closed
      ∧ i.delivers 65 (f 22 1 1 300 0) = true ∧ i.meter = .inoperative
      ∧ i.stu.attempt = some (attempt .uncertain none) := by decide

theorem hyp_PayReferenceIsPlaced :
    let f := fun t : Nat => frame 1 2 (be 2 t ++ be 1 1 ++ [1, 2, 3, 4, 5, 6])
    let a := paying (some (attempt .uncertain none))
    let t := (paying none).setStu { (paying none).stu with tenders := [⟨⟨.card, 240, 0, none⟩, some 1⟩] }
    a.delivers 66 (f 22) = true ∧ a.stu.attempt.isSome = true
      ∧ t.delivers 66 (f 22) = true ∧ t.stu.attempt = none ∧ (t.stu.session.map (·.trip)) = some 22
      ∧ (∃ e ∈ t.stu.tenders, e.attempt = some 1)
      ∧ (owing live).delivers 66 (f 21) = true ∧ (owing live).stu.session = none
      ∧ (owing live).entryOf 21 1 = some (entry 21 1) := by decide

/-- With attempt 2 of trip 22 open: a reference for the card tender of attempt 1, for entry 21, and for neither. -/
theorem hyp_PayReferenceIsPlaced_open :
    let f := fun t n : Nat => frame 1 2 (be 2 t ++ be 1 n ++ [1, 2, 3, 4, 5, 6])
    let p := owing (paying (some { attempt .offered none with number := 2 }))
    let s := p.setStu { p.stu with tenders := [⟨⟨.card, 240, 0, none⟩, some 1⟩] }
    (s.stu.attempt.map (·.number)) = some 2 ∧ (s.stu.session.map (·.trip)) = some 22
      ∧ s.delivers 66 (f 22 1) = true ∧ (∃ e ∈ s.stu.tenders, e.attempt = some 1)
      ∧ s.delivers 66 (f 21 1) = true ∧ s.entryOf 21 1 = some (entry 21 1)
      ∧ s.delivers 66 (f 22 3) = true ∧ (∀ e ∈ s.stu.tenders, e.attempt ≠ some 3) ∧ s.entryOf 22 3 = none := by decide

theorem hyp_SettlementTimersExpire :
    (∀ x ∈ ([.offered, .atTerminal, .cancelling, .uncertain] : List AttemptState), ∀ q ∈ [5, 6],
      let s := paying (some { attempt x (some 0) with queries := q })
      s.running = true ∧ s.meter ≠ .inoperative ∧ s.cbi.dormant = false ∧ s.cbi.boxes.length = 8
        ∧ s.cbi.firstEmpty.isSome = true ∧ (attempt x (some 0)).timer = some 0)
      ∧ (owing live).running = true ∧ (owing live).meter ≠ .inoperative
      ∧ (owing live).stu.unsettled = [] ++ entry 20 0 :: [entry 21 1]
      ∧ (owing live).stu.unsettled = [entry 20 0] ++ entry 21 1 :: []
      ∧ (20 : BitVec 16).toNat = (entry 20 0).trip ∧ (21 : BitVec 16).toNat = (entry 21 1).trip := by decide

/-- Seven mailboxes full: with the attempt's PAY_CANCEL in one of them its abort makes room, otherwise the query waits. -/
theorem hyp_SettlementTimersExpire_full :
    let a := attempt .cancelling (some 0)
    let s := fun f : TxFrame => withBoxes (Mailbox.empty :: ⟨.pending, f, 1⟩ :: List.replicate 6 (box .pending 3 113 4)) none
      (paying (some a))
    ((s (payCancelFrame a)).cbi.abortWhere (isAttemptFrame 46 a.trip a.number)).firstEmpty.isSome = true
      ∧ ((s (queryFrame 9 9)).cbi.abortWhere (isAttemptFrame 46 a.trip a.number)).firstEmpty.isSome = false
      ∧ (s (queryFrame 9 9)).meter ≠ .inoperative ∧ (s (queryFrame 9 9)).running = true := by decide

theorem hyp_ShiftOpenBeginsTheAccounts :
    let f := frame 2 1 []
    let o := (held .offDuty live).setSau { live.sau with shift := .closed, number := 65535 }
    let i := o.setTrc { o.trc with reason := .noTariff }
    let n := o.setOdu { o.odu with clockSet := false }
    o.delivers 48 f = true ∧ o.meter = .offDuty ∧ o.sau.shift = .closed ∧ o.odu.clockSet = true
      ∧ i.delivers 48 f = true ∧ i.meter = .inoperative ∧ live.delivers 48 f = true ∧ live.sau.shift ≠ .closed
      ∧ n.delivers 48 f = true ∧ n.odu.clockSet = false ∧ n.meter ≠ .inoperative := by decide

theorem hyp_ShiftCloseBeginsTheClosing :
    (owing live).delivers 49 (frame 2 1 []) = true ∧ (owing live).meter = .free ∧ (owing live).sau.shift = .opened
      ∧ (owing live).hasTerminal = true := by decide

/-- Its refusals; the two entries by their trips; and a part with no TERMINAL. -/
theorem hyp_ShiftCloseBeginsTheClosing_more :
    let f := frame 2 1 []
    let n := { owing live with pld := { live.pld with peers := some { peers with terminal := 0 } } }
    noTariff.delivers 49 f = true ∧ noTariff.meter = .inoperative ∧ (trip .hired).delivers 49 f = true
      ∧ (trip .hired).meter ≠ .free ∧ ((owing live).stu.unsettled.map (·.trip)).Nodup
      ∧ (owing live).stu.unsettled[1]? = some (entry 21 1) ∧ (owing live).cbi.boxes.length = 8
      ∧ n.delivers 49 f = true ∧ n.meter = .free ∧ n.sau.shift = .opened ∧ n.hasTerminal = false := by decide

theorem hyp_ClosingEndsInOneEvent :
    let s := (held .offDuty (owing live)).setSau { live.sau with shift := .closing, stage := 2, totalsTimer := some 0 }
    s.cbi.dormant = false ∧ s.delivers 68 (frame 1 2 (be 3 0 ++ be 6 0)) = true ∧ s.stage2Lasts = true
      ∧ s.running = true ∧ s.sau.totalsTimer = some 0 ∧ s.cbi.boxes.length = 8
      ∧ live.delivers 68 (frame 1 2 (be 3 0 ++ be 6 0)) = true ∧ live.stage2Lasts = false := by decide

theorem hyp_ReadsBeginAnAnswer :
    let s := live.setSau { live.sau with journal := [live.newRecord, live.newRecord] }
    s.delivers 50 (frame 3 1 [1]) = true ∧ s.sau.journal = [] ++ live.newRecord :: [live.newRecord]
      ∧ s.delivers 50 (frame 3 1 [2]) = true ∧ s.sau.journal.length ≤ 2
      ∧ s.delivers 51 (frame 3 1 []) = true := by decide

/-- Part 1 and part 2 of two, held by mailbox 3. -/
theorem hyp_ReadsBeginAnAnswer_parts :
    let a : Answer := ⟨4, List.replicate 9 7, 1, some 3⟩
    let s := live.setSau { live.sau with journalAnswer := some a, summaryAnswer := some { a with part := 2 } }
    s.cbi.dormant = false ∧ s.sau.journalAnswer = some a ∧ a.part < partCount a.bytes ∧ a.box = some 3
      ∧ s.sau.summaryAnswer = some { a with part := 2 } ∧ partCount a.bytes ≤ 2 ∧ a.box ≠ some 4
      ∧ s.cbi.firstEmpty.isSome = true ∧ s.cbi.boxes.length = 8 := by decide

theorem hyp_SerializedLengths :
    let r := live.newRecord
    r.changes.length ≤ 4 ∧ r.extras.length ≤ 8 ∧ r.tenders.length ≤ 3 ∧ r.reference = none := by decide

/-- A full journal whose first record is UNSETTLED and whose second is not, and one with room. -/
theorem hyp_JournalKeepsItsLimit :
    let x := { live.newRecord with outcome := some .unsettled }
    let y := { live.newRecord with outcome := some .paid }
    let j := x :: y :: List.replicate 46 x
    j.length ≤ 48 ∧ j.length = 48 ∧ (∃ z ∈ j, z.outcome ≠ some .unsettled) ∧ j = [x] ++ y :: List.replicate 46 x
      ∧ (j.drop 1).length < 48 := by decide

theorem hyp_MoneyStaysBalanced :
    let r := { live.newRecord with total := 740, tenders := [⟨.cash, 240, 0, none⟩] }
    let c := { Counters.zero with fareTotals := 500, outstanding := 500 }
    c.fareTotals = c.accounted ∧ c.fareTotals + r.total ≤ 281474976710655
      ∧ (r.tenders.map (·.amount)).sum + 500 = r.total ∧ 500 ≤ c.outstanding := by decide

/-- The invariant: trip 22 in settlement with 240 of 740 tendered and an attempt of 500 at the terminal. -/
theorem hyp_MoneyStaysBalanced_step :
    let s := (paying (some (attempt .atTerminal (some 9)))).setPending [.secondEnd]
    FareSound s.fen ∧ LedgerSound s ∧ MoneySound s ∧ ∃ t, step s = .next t := by
  refine ⟨⟨by decide, by decide, ?_, by decide⟩,
    ⟨⟨by decide, by decide, by decide, by decide, by decide, by decide⟩, by decide, by decide, ?_, ?_, ?_, by decide,
      by decide⟩,
    ⟨by unfold Counters.balanced; decide, by decide, by decide, by decide, by decide, by decide, ?_, ?_⟩, ⟨_, rfl⟩⟩
  · show ∀ t, some t ∈ [some day, some night, none, none, none, none, none, none] → t.f ≤ 99999
    simp [day, night]
  · intro r h; cases h; decide
  · intro x h; cases h; decide
  · intro a h; cases h; decide
  · intro x h; cases h; decide
  · intro a h; cases h; decide

theorem hyp_LifetimeTotalsNeverFall : LifetimeInRange live.sau.lifetime ∧ ∃ t, step live = .next t := by
  exact ⟨by unfold LifetimeInRange; decide, ⟨_, rfl⟩⟩

/-- Trip 22 in progress behind a journal of trips 20 and 21, both UNSETTLED. -/
theorem hyp_StepKeepsLedgerSound :
    let r := { live.newRecord with outcome := some .unsettled }
    let s := (owing (trip .hired)).setSau { live.sau with journal := [{ r with trip := 20 }, { r with trip := 21 }] }
    LedgerSound s ∧ ∃ t, step s = .next t := by
  refine ⟨⟨⟨by decide, by decide, by decide, ?_, ?_, ?_⟩, by decide, ?_, ?_, ?_, ?_, by decide, ?_⟩, ⟨_, rfl⟩⟩
  · decide
  · decide
  · decide
  · decide
  · intro r h; cases h; decide
  · intro x h; cases h
  · intro x h; cases h
  · decide

theorem hyp_StepKeepsCabinPrivate :
    let s := setRouting ((trip .hired).setCau { live.cau with floor := .front, rearWaiting := true, rearHeld := true })
    CabinSound s ∧ s.cau.routing.rearSpk.frontMic = 64 ∧ ∃ t, step s = .next t :=
  ⟨⟨by decide, by decide, by decide⟩, by decide, ⟨_, rfl⟩⟩

theorem hyp_AlarmEntryCallsForHelp :
    let s := live.setAlm { live.alm with holdCount := 8 }
    s.running = true ∧ s.alm.state = .clear ∧ s.alm.holdCount = 8 ∧ s.cbi.boxes.length = 8
      ∧ (s.cbi.box 0).state = .empty := by decide

theorem hyp_AlarmRepeatsUntilAcknowledged :
    alarmed.running = true ∧ alarmed.alm.state = .active ∧ alarmed.alm.acknowledged = false
      ∧ alarmed.alm.repeatTimer = some 0 ∧ alarmed.cbi.dormant = false ∧ alarmed.cbi.boxes.length = 8
      ∧ alarmed.delivers 2 (frame 0 4 []) = true ∧ alarmed.delivers 3 (frame 0 4 []) = true
      ∧ (alarmed.cbi.box 0).frame.owner = .alm ∧ (alarmed.cbi.box 0).state = .pending
      ∧ live.delivers 2 (frame 0 4 []) = true ∧ live.delivers 3 (frame 0 4 []) = true
      ∧ live.alm.state = .clear := by decide

/-- Mailbox 0 in each state, a notice owed, and none. -/
theorem hyp_AlarmRepeatsUntilAcknowledged_boxes :
    (∀ x ∈ ([.empty, .sending, .aborting] : List BoxState),
      let s := withBoxes [⟨x, alarmed.noticeFrame, 1⟩] none alarmed
      s.running = true ∧ s.cbi.boxes.length = 8 ∧ (s.cbi.box 0).state = x ∧ s.alm.noticeOwed = false)
      ∧ (alarmed.setAlm { alarmed.alm with noticeOwed := true }).alm.noticeOwed = true
      ∧ alarmed.noticeFrame.owner = .alm := by decide

/-- An alarm cleared in a trip and outside one, slot 1 in progress. -/
theorem hyp_AlarmRepeatsUntilAcknowledged_clear :
    let s := fun h : State => (h.setAlm ⟨.active, true, 0, none, false⟩).setCau
      { live.cau with scan := some ⟨1, 5, 9, ⟨1000, 500⟩, false⟩ }
    (s live).delivers 3 (frame 0 4 []) = true ∧ (s live).alm.state = .active ∧ (s live).meter.inTrip = false
      ∧ (s (trip .settling)).delivers 3 (frame 0 4 []) = true ∧ (s (trip .settling)).meter.inTrip = true := by decide

theorem hyp_LampTestRunsAndEnds :
    let f := frame 2 1 []
    let o := held .offDuty live
    let t := o.setRsd { o.rsd with lampTest := some 0 }
    alarmed.delivers 56 f = true ∧ live.delivers 56 f = true ∧ live.meter ≠ .offDuty ∧ o.delivers 56 f = true
      ∧ o.meter = .offDuty ∧ o.alm.state = .clear ∧ t.running = true ∧ t.rsd.lampTest = some 0 := by decide

theorem hyp_SignWriteActsOnItsPointer :
    live.delivers 57 (frame 3 1 [0x80, 1]) = true ∧ live.fromConsole (frame 3 1 [0x80, 1]) = true
      ∧ live.delivers 57 (frame 3 4 []) = true ∧ live.fromConsole (frame 3 4 []) = false
      ∧ (0xC0 : Byte).getLsbD 7 = true ∧ (0xC0 : Byte).getLsbD 6 = true
      ∧ (0x80 : Byte).getLsbD 7 = true ∧ (0x80 : Byte).getLsbD 6 = false ∧ 77 < 78
      ∧ WritePointer.origin.state = .closed := by decide

/-- The four control bytes; the last pixels of a row and of the page; and an open pointer of each kind. -/
theorem hyp_SignWriteActsOnItsPointer_more :
    (∀ b ∈ ([0x00, 0x40, 0x80, 0xC0] : List Byte), (b.getLsbD 7, b.getLsbD 6) = (b.toNat / 128 == 1, b.toNat / 64 % 2 == 1))
      ∧ (∀ p ∈ ([⟨78, 11, .closed⟩, ⟨79, 11, .closed⟩, ⟨79, 0, .closed⟩] : List WritePointer),
          p.state = .closed ∧ p.column < 80 ∧ p.row < 12)
      ∧ (readChain ⟨79, 10, .closed⟩ blankPage [0x00]).1 = ⟨79, 10, .closed⟩ ∧ ([] : List Byte).length % 2 = 0
      ∧ (⟨0, 0, .awaitingColumn⟩ : WritePointer).state = .awaitingColumn
      ∧ (⟨0, 0, .awaitingRow 79⟩ : WritePointer).state = .awaitingRow 79 := by decide

theorem hyp_RefreshPassShowsTheLegend :
    let d := live.setRsd { live.rsd with scrollCount := 25, scrollColumn := 79 }
    let n := live.setRsd { live.rsd with chosen := some (.meter .free), blink := 99 }
    live.running = true ∧ live.rsd.scrollCount ≠ live.rsd.scrollStep ∧ live.rsd.chosen ≠ some (.meter .free)
      ∧ n.rsd.blink < 100 ∧ d.running = true ∧ d.rsd.scrollCount = d.rsd.scrollStep ∧ d.rsd.scrollColumn < 80 := by
  decide

/-- A page under SCROLL, one at both ends of the dark half of a BLINK, one DARK, and the lamp test. -/
theorem hyp_RefreshPassShowsTheLegend_sources :
    let show' := fun e : LegendEntry => live.setRsd { live.rsd with map := { LegendMap.dark with free := e } }
    let at' := fun b : Nat => (show' ⟨some 0, .blink, 8⟩).setRsd
      { (show' ⟨some 0, .blink, 8⟩).rsd with chosen := some (.meter .free), blink := b }
    (show' ⟨some 3, .scroll, 255⟩).legendSource = .meter .free
      ∧ ((show' ⟨some 3, .scroll, 255⟩).rsd.map.entry .free) = ⟨some 3, .scroll, 255⟩
      ∧ (at' 49).rsd.blink < 50 ∧ 50 ≤ (at' 50).rsd.blink ∧ ((at' 49).rsd.map.entry .free).mode = .blink
      ∧ (show' LegendEntry.dark).rsd.map.free.page = none ∧ alarmed.legendSource = .alarm
      ∧ (live.setRsd { live.rsd with lampTest := some 12 }).legendSource = .lampTest := by decide

theorem hyp_LegendPagesAreSealed :
    (∃ t, exec (.signWrite (frame 3 1 [])) live = .next t)
      ∧ (∀ img, Instr.signWrite (frame 3 1 []) ≠ .loadCompletion img)
      ∧ State.reset.supply.main = true ∧ State.reset.pld.phase = .reading := ⟨⟨_, rfl⟩, by simp, rfl, rfl⟩

theorem hyp_StepKeepsFreeLampHonest : LampSound live ∧ live.rsd.freeLamp = true ∧ ∃ t, step live = .next t :=
  ⟨⟨by decide, by decide⟩, by decide, ⟨_, rfl⟩⟩

theorem hyp_SamplePeriodMixesTheSources :
    let s := fun p : ChimePlay => live.setCau { live.cau with
      scan := some ⟨0, 319, 0, ⟨0, 0⟩, false⟩
      chime := some p }
    let last : ChimePlay := ⟨.paid, 1, 1, 1, true⟩
    let rest : ChimePlay := ⟨.callWaiting, 1, 1, 0, true⟩
    (s last).running = true ∧ (s last).cbi.dormant = false ∧ (s last).cau.scan = some ⟨0, 319, 0, ⟨0, 0⟩, false⟩
      ∧ 319 < 320 ∧ last.samplesLeft = 1 ∧ last.note + 1 = last.kind.notes.length ∧ (s rest).cau.chime = some rest
      ∧ rest.kind = .callWaiting ∧ rest.note = 1 ∧ rest.note + 1 < rest.kind.notes.length
      ∧ 1 < (ChimePlay.atNote .paid 0).samplesLeft ∧ 1 < (ChimePlay.atNote .paid 0).halfLeft
      ∧ ({ ChimePlay.atNote .paid 0 with halfLeft := 1 } : ChimePlay).halfLeft ≤ 1 := by decide

/-- The last sample of note 0: before a rest, and before a tone. -/
theorem hyp_SamplePeriodMixesTheSources_note0 :
    let p := fun k : ChimeKind => { ChimePlay.atNote k 0 with samplesLeft := 1 }
    (p .declined).note = 0 ∧ (p .declined).samplesLeft = 1 ∧ 0 + 1 < (p .declined).kind.notes.length
      ∧ (p .paid).samplesLeft = 1 ∧ 0 + 1 < (p .paid).kind.notes.length
      ∧ ¬(((p .paid).kind = .declined ∨ (p .paid).kind = .callWaiting) ∧ (p .paid).note = 0) := by decide

/-- A rest with two samples left. -/
theorem hyp_SamplePeriodMixesTheSources_rest :
    let p : ChimePlay := ⟨.declined, 1, 2, 0, true⟩
    let s := live.setCau { live.cau with chime := some p }
    s.running = true ∧ s.cbi.dormant = false ∧ s.cau.chime = some p ∧ p.note < p.kind.notes.length
      ∧ p.kind = .declined ∧ p.note = 1 ∧ 1 < p.samplesLeft := by decide

/-- Levels at the two thresholds and just below them, the hang count at 6 and at 7; a chime at its end. -/
theorem hyp_SlotAndChimeEnd :
    let s := live.setCau { live.cau with
      scan := some ⟨0, 320, 320 * 500, ⟨1000, 500⟩, false⟩
      chime := some ⟨.paid, 1, 0, 0, true⟩ }
    s.running = true ∧ s.cbi.dormant = false ∧ s.cau.mode = .pttOnly ∧ 320 * 1000 / 320 = 1000 ∧ 1000 ≤ 1000
      ∧ 500 ≤ 320 * 500 / 320 ∧ 320 * 499 / 320 < 500 ∧ 6 < 7 ∧ 7 ≤ 7 ∧ s.cau.queue = []
      ∧ (s.cau.chime.map (·.samplesLeft)) = some 0 := by decide

/-- A discarded slot 1; and in VOX the front newly ACTIVE with no floor, and about to fall SILENT as the holder. -/
theorem hyp_SlotAndChimeEnd_vox :
    let s := fun (k : Scan) (x : SourceLevel) (w : Floor) => (trip .hired).setCau { live.cau with
      scan := some k, frontMic := x, floor := w, mode := .vox }
    let loud := s ⟨0, 320, 320 * 1000, ⟨1000, 500⟩, false⟩ SourceLevel.silent .none
    let quiet := s ⟨0, 320, 320 * 499, ⟨1000, 500⟩, false⟩ ⟨1000, true, 7⟩ .front
    (s ⟨1, 320, 0, ⟨1000, 500⟩, true⟩ SourceLevel.silent .none).running = true
      ∧ loud.meter = .hired ∧ loud.alm.state = .clear ∧ loud.cau.mode = .vox ∧ loud.cbi.boxes.length = 8
      ∧ loud.cau.floor = .none ∧ loud.cau.frontMic.active = false ∧ loud.cbi.dormant = false
      ∧ quiet.cau.floor = .front ∧ quiet.cau.frontMic.active = true ∧ quiet.cau.frontHeld = false := by decide

theorem hyp_FloorFollowsTheButtons :
    (∀ h ∈ ([.hired, .stopped, .settling] : List HeldState),
      let s := trip h
      s.alm.state = .clear ∧ s.meter.inTrip = true ∧ s.delivers 52 (frame 2 1 []) = true
        ∧ s.delivers 53 (frame 2 1 []) = true ∧ s.delivers 54 (frame 2 3 []) = true
        ∧ s.delivers 55 (frame 2 3 []) = true) := by decide

/-- The four requests outside the hired states, and with the alarm ACTIVE; a CALL_PRESS with the floor FRONT and the chime queue
at 3 and at 4; and a press that moves the floor, a release that does not. -/
theorem hyp_FloorFollowsTheButtons_refused :
    let a := (trip .hired).setAlm ⟨.active, true, 0, none, false⟩
    let q := fun n : Nat => (trip .hired).setCau { live.cau with
      floor := .front, frontHeld := true, queue := List.replicate n .paid, chime := some (ChimePlay.atNote .paid 0) }
    (∀ t ∈ [(52, 1), (53, 1), (54, 3), (55, 3)],
        live.delivers t.1 (frame 2 t.2 []) = true ∧ a.delivers t.1 (frame 2 t.2 []) = true)
      ∧ live.meter = .free ∧ a.meter = .hired ∧ a.alm.state = .active
      ∧ (q 3).delivers 54 (frame 2 3 []) = true ∧ (q 3).cau.floor = .front ∧ (q 3).cau.rearWaiting = false
      ∧ (q 3).cau.queue.length < 4 ∧ 4 ≤ (q 4).cau.queue.length ∧ (q 4).cbi.boxes.length = 8
      ∧ (trip .hired).cau.floor = .none ∧ (trip .hired).cau.rearWaiting = false := by decide

theorem hyp_StatusReadAnswersAPage :
    (∀ b ∈ ([0, 1, 2, 3] : List Byte), live.delivers 58 (frame 2 1 [b]) = true) := by decide

theorem hyp_ReceiverFollowsTheLine :
    let r := live.setCbi { live.cbi with inFrame := true, idleCount := 0 }
    let o := live.setCbi { live.cbi with standing := .offline, faultCounter := 256, idleGaps := 127 }
    r.busOn = true ∧ r.cbi.dormant = false ∧ r.cbi.inFrame = true ∧ live.cbi.inFlight = none
      ∧ live.cbi.standing ≠ .offline ∧ o.busOn = true ∧ o.cbi.standing = .offline ∧ o.cbi.idleGaps < 128
      ∧ live.busOn = true ∧ live.cbi.inFrame = false ∧ live.cbi.idleCount = 10 := by decide

/-- A frame or a fault with no frame in reception: the idle count at 10, at 7 and at 6; OFFLINE with 126 and 127 gaps. -/
theorem hyp_ReceiverFollowsTheLine_between_frames :
    let s := fun n : Nat => live.setCbi { live.cbi with idleCount := n }
    let o := fun g : Nat => live.setCbi
      { live.cbi with standing := .offline, faultCounter := 256, idleGaps := g, idleCount := 7 }
    (s 10).cbi.inFrame = false ∧ (s 10).cbi.idleCount = 10 ∧ 7 ≤ (s 7).cbi.idleCount ∧ (s 7).cbi.standing ≠ .offline
      ∧ (s 6).cbi.idleCount < 7 ∧ (o 126).cbi.inFlight = none ∧ (o 126).cbi.inFrame = false ∧ (o 126).cbi.idleCount ≠ 10
      ∧ (o 126).cbi.standing = .offline ∧ (o 126).cbi.idleGaps < 128 ∧ (o 127).cbi.idleGaps = 127
      ∧ (o 127).busOn = true ∧ (o 127).cbi.dormant = false := by decide

/-- No entry; and a request and a report of a wrong length. -/
theorem hyp_UnmatchedFramesChangeNothing :
    live.busOn = true ∧ live.cbi.dormant = false ∧ live.receptive = true ∧ live.ownSource (frame 2 9 []) = false
      ∧ live.entryFor 32 (frame 2 9 []) = none
      ∧ ((live.entryFor 32 (frame 2 1 [1])).map (wellFormedFor · 32 (frame 2 1 [1]))) = some false
      ∧ ((live.entryFor 65 (frame 1 2 [1])).map (wellFormedFor · 65 (frame 1 2 [1]))) = some false := by
  decide

/-- An entry found; and none. -/
theorem hyp_UnmatchedFramesChangeNothing_entries :
    (live.entryFor 32 (frame 2 1 [])).map (·.source) = some 1 ∧ live.entryFor 37 (frame 2 5 []) = none := by decide

theorem hyp_OwnNumberSilencesThePart :
    (trip .hired).busOn = true ∧ (trip .hired).cbi.dormant = false ∧ (trip .hired).receptive = true
      ∧ (trip .hired).pld.peers = some peers ∧ peers.own < 32 ∧ (trip .hired).trc.reason = .none := by decide

/-- In a trip with the floor REAR and slot 1 in progress, the alarm CLEAR and ACTIVE; and outside a trip. -/
theorem hyp_OwnNumberSilencesThePart_trip :
    let s := (trip .settling).setCau { live.cau with floor := .rear, scan := some ⟨1, 5, 9, ⟨1000, 500⟩, false⟩ }
    let a := s.setAlm ⟨.active, true, 0, none, false⟩
    s.busOn = true ∧ s.receptive = true ∧ s.meter.inTrip = true ∧ s.alm.state = .clear ∧ s.trc.reason = .none
      ∧ a.busOn = true ∧ a.receptive = true ∧ a.alm.state = .active ∧ live.receptive = true
      ∧ live.meter.inTrip = false ∧ live.cbi.boxes.length = 8 := by decide

/-- Mailboxes 0, 1 and 2 PENDING: 0 has the lowest header; and 1 the older of two equal ones. -/
theorem hyp_AttemptOffersTheLowestHeader :
    let s := withBoxes [box .pending 0 1 9, box .pending 3 113 4, box .pending 3 113 5] none live
    let t := withBoxes [Mailbox.empty, box .pending 3 113 4, box .pending 3 113 5] none live
    let h := fun (x : State) (j : Nat) => (x.cbi.box j).frame.cls * 16384 + (x.cbi.box j).frame.topic * 32 + 7
    s.mayTransmit = true ∧ s.pld.peers = some peers ∧ s.cbi.boxes.length = 8 ∧ s.cbi.offers 0 = true
      ∧ (∀ j, j < 8 → j ≠ 0 → s.cbi.offers j = true → h s 0 < h s j)
      ∧ t.mayTransmit = true ∧ t.cbi.boxes.length = 8 ∧ t.cbi.offers 1 = true
      ∧ (∀ j, j < 8 → j ≠ 1 → t.cbi.offers j = true →
          h t 1 < h t j ∨ (h t 1 = h t j ∧ (t.cbi.box 1).age < (t.cbi.box j).age)) := by
  decide

/-- In LIMITED a SETTLE frame may be offered and a ROUTINE one not; the listen phase lets none begin. -/
theorem hyp_AttemptOffersTheLowestHeader_none :
    let s := fun x : Standing => withBoxes [Mailbox.empty, box .pending 1 83 4, box .pending 3 113 5] none
      (live.setCbi { live.cbi with standing := x })
    (s .limited).cbi.offers 1 = true ∧ (s .limited).cbi.offers 2 = false
      ∧ (∀ i, i < 8 → (s .offline).cbi.offers i = false) ∧ (∀ i, i < 8 → (s .silenced).cbi.offers i = false)
      ∧ (live.setCbi { live.cbi with listen := some 7 }).mayTransmit = false := by decide

theorem hyp_AttemptsEndByTable :
    let s := withBoxes [Mailbox.empty, box .sending 3 113 4] (some 1) (live.setCbi { live.cbi with faultCounter := 247 })
    s.busOn = true ∧ s.cbi.standing ≠ .silenced ∧ s.cbi.inFlight = some 1 ∧ (s.cbi.box 1).state = .sending
      ∧ s.cbi.faultCounter + 8 < 256 ∧ s.cbi.superseded (s.cbi.box 1).frame = false := by decide

/-- An ABORTING mailbox, a superseded one, the counter at 248, and SILENCED. -/
theorem hyp_AttemptsEndByTable_more :
    let s := fun (x : BoxState) (n : Nat) (d : Standing) => withBoxes
      [Mailbox.empty, box x 3 113 4, box .pending 3 113 5] (some 1)
      (live.setCbi { live.cbi with faultCounter := n, standing := d })
    (s .aborting 247 .limited).busOn = true ∧ ((s .aborting 247 .limited).cbi.box 1).state = .aborting
      ∧ (s .sending 247 .limited).cbi.superseded ((s .sending 247 .limited).cbi.box 1).frame = true
      ∧ 256 ≤ (s .sending 248 .limited).cbi.faultCounter + 8 ∧ (s .sending 248 .limited).cbi.boxes.length = 8
      ∧ (s .aborting 248 .limited).cbi.inFlight = some 1 ∧ (s .sending 0 .silenced).cbi.standing = .silenced
      ∧ (box .sending 3 113 4).frame.owner = .trc := by decide

theorem hyp_InterfacePhasesEnd :
    let o := live.setCbi { live.cbi with standing := .offline, faultCounter := 256, idleGaps := 128 }
    let l := live.setCbi { live.cbi with listen := some 8 }
    let d := idle 240
    o.busOn = true ∧ o.cbi.standing = .offline ∧ o.cbi.idleGaps = 128 ∧ l.busOn = true ∧ l.cbi.listen = some 8
      ∧ d.running = true ∧ d.cbi.dormant = false ∧ d.cbi.dormancyTimer = 240 ∧ d.quiet = true
      ∧ (d.setCbi { d.cbi with dormant := true }).busOn = true := by decide

theorem hyp_StepKeepsInterfaceSound : InterfaceSound live.cbi ∧ ∃ t, step live = .next t := by
  refine ⟨⟨⟨rfl, by decide, ?_, ?_⟩, ?_⟩, ⟨_, rfl⟩⟩
  · intro i _ h8 hne
    exact absurd (by interval_cases i <;> rfl) hne
  · intro i j _ h8 _ _ hp
    exact absurd hp (by interval_cases i <;> decide)
  · exact ⟨by decide, by decide⟩

/-- A mailbox EMPTY, and none. -/
theorem hyp_AnswersArePlacedOrCounted :
    let s := withBoxes (List.replicate 8 (box .pending 3 113 4)) none live
    live.cbi.dormant = false ∧ live.cbi.firstEmpty = some 1 ∧ s.cbi.dormant = false ∧ s.cbi.firstEmpty = none := by
  decide

theorem hyp_SuppliesKeepTheRetainedRecords :
    live.supply.main = true ∧ (live.setSupply ⟨false⟩).supply.main = false
      ∧ (∃ u, exec .mainSupplyLoss live = .next u) := ⟨rfl, rfl, ⟨_, rfl⟩⟩

/-- Nothing due; a second end due; an alarm entry due; and a part that does not run. -/
theorem hyp_SuppliesKeepTheRetainedRecords_due :
    let p := live.setOdu { live.odu with phase := 4 }
    let a := live.setAlm { live.alm with holdCount := 8 }
    settleDue live = live ∧ p.running = true ∧ p.odu.phase = 4 ∧ p.supply.main = true ∧ a.running = true
      ∧ a.alm.state = .clear ∧ 8 ≤ a.alm.holdCount ∧ a.supply.main = true ∧ State.reset.running = false :=
  ⟨rfl, by decide, by decide, by decide, by decide, by decide, by decide, by decide, by decide⟩

/-- R9, R14: the fourth window end makes a second end due, and a loss of the supply right after it keeps the second. -/
theorem test_loss_after_the_fourth_window_end :
    (supplyLoss (windowEnd false (live.setOdu { live.odu with phase := 3 }))).odu.clock = 1000001 := by
  decide +kernel

/-- R160, R193: after the eighth window end with the switch closed the alarm is ACTIVE behind a loss of the supply. -/
theorem test_loss_after_the_eighth_closed_window_end :
    let s := supplyLoss (windowEnd true ((trip .hired).setAlm { live.alm with holdCount := 7 }))
    s.alm.state = .active ∧ s.trc.record.map (·.alarmDuring) = some true := by decide +kernel

/-! ### Images the loader finds usable -/

/-- Header, station block and sensor block, one tariff record, and 1,602 zero bytes. -/
def imageBody (tariff : List Byte) : List Byte :=
  [1, 6, 0x60, 7, 2, 1, 2, 3, 4, 5, 3, 232, 2, 1, 0, 20] ++ tariff ++ List.replicate 1602 0

/-- A body with its own check. -/
def imageOf (tariff : List Byte) : List Byte := imageBody tariff ++ be 2 (checkBytes (imageBody tariff)).toNat

/-- With tariff 1 of Table 2-4; and with no present tariff. -/
def testImage : List Byte := imageOf [0, 1, 94, 3, 232, 0, 20, 0, 200, 0, 36, 1]
def bareImage : List Byte := imageOf (List.replicate 12 0)

/-- The two bytes after a body spell the value they were written from. -/
theorem field_after (body : List Byte) (c : Check) :
    BitVec.ofNat 16 (field (body ++ be 2 c.toNat) body.length 2) = c := by
  have hc := c.isLt
  rw [field, slice, List.drop_left]
  apply BitVec.eq_of_toNat_eq
  generalize c.toNat = n at hc
  simp [be, ofBytes]
  omega

/-- An image of the least length whose station and sensor block are in range is usable. -/
theorem usable_of (tariff : List Byte) (hl : tariff.length = 12) (hh : headerLength (imageOf tariff) = some 1632)
    (hp : (imagePeers (imageOf tariff)).sound = true) (hb : (imageBitRate (imageOf tariff)).isSome = true)
    (hx : (imageSensor (imageOf tariff)).isSome = true) : imageUsable (imageOf tariff) = true := by
  have h : (imageBody tariff).length = 1630 := by
    simp only [imageBody, List.length_append, List.length_replicate, hl]
    rfl
  have hf := field_after (imageBody tariff) (checkBytes (imageBody tariff))
  have hs : slice (imageOf tariff) 0 1630 = imageBody tariff := by
    rw [slice, imageOf, List.drop_zero, ← h, List.take_left, Nat.sub_self, List.replicate_zero, List.append_nil]
  rw [h] at hf
  have hv : imageCheckValue (imageOf tariff) = checkBytes (imageBody tariff) := by
    rw [imageCheckValue, hh]
    exact hf
  have hc : imageCheckHolds (imageOf tariff) = true := by
    simp only [imageCheckHolds, hh]
    rw [show 1632 - 2 = 1630 from rfl, hs, hv, beq_self_eq_true]
  simp [imageUsable, hc, hp, hb, hx]

theorem testImage_peers : imagePeers testImage = peers := by decide

theorem testImage_usable : imageUsable testImage = true :=
  usable_of _ (by decide) (by decide) (by decide) (by decide) (by decide)

theorem bareImage_usable : imageUsable bareImage = true :=
  usable_of _ (by decide) (by decide) (by decide) (by decide) (by decide)

/-- The image offset of the first tariff (Table 11-6). -/
theorem test_image_tariff : imageTariff testImage 0 = some day := by decide

theorem hyp_LoadCompletionStartsThePart :
    State.reset.supply.main = true ∧ State.reset.pld.phase = .reading ∧ State.reset.pld.kind = .cold
      ∧ imageUsable [] = false ∧ imageUsable testImage = true :=
  ⟨rfl, rfl, rfl, by decide, testImage_usable⟩

/-- A reading for the load completion of a warm start. -/
def warm (s : State) : State := { s.setAlm { live.alm with state := .active } with pld := Pld.reading .warm }

/-- The warm start: an image with a tariff, an alarm not acknowledged, an attempt in each state, a CLOSING shift. -/
theorem hyp_LoadCompletionStartsThePart_warm :
    let c := warm (live.setSau { live.sau with shift := .closing })
    imageReason testImage = .none ∧ (imagePeers testImage).terminal ≠ 0 ∧ (warm (trip .hired)).supply.main = true
      ∧ (warm (trip .hired)).pld.kind = .warm ∧ (warm (trip .hired)).trc.held = .hired
      ∧ (warm (trip .hired)).alm.acknowledged = false ∧ (warm (trip .hired)).sau.shift = .opened
      ∧ (∀ x, (warm (paying (some (attempt x none)))).stu.attempt = some (attempt x none)) ∧ c.sau.shift = .closing := by
  refine ⟨?_, by rw [testImage_peers]; decide, rfl, rfl, rfl, rfl, rfl, fun _ => rfl, rfl⟩
  have h : (imageTariffs testImage).all (·.isNone) = false := by
    rw [List.all_eq_false]
    exact ⟨_, List.mem_map_of_mem (List.mem_range.2 (by decide : 0 < 8)), by rw [test_image_tariff]; decide⟩
  simp [imageReason, testImage_usable, h]

/-- The warm start of a part with a trip: an image with no present tariff, and an INVALID one. -/
theorem hyp_LoadCompletionStartsThePart_inoperative :
    imageReason bareImage = .noTariff ∧ imageReason [] = .imageInvalid
      ∧ (warm (trip .hired)).supply.main = true ∧ (warm (trip .hired)).pld.phase = .reading
      ∧ (warm (trip .hired)).pld.kind = .warm := by
  refine ⟨?_, by decide, rfl, rfl, rfl⟩
  have h : (imageTariffs bareImage).all (·.isNone) = true := by decide
  simp [imageReason, bareImage_usable, h]

end Sys2Proof.Tests
end

/-! Proofs of 01 (wheel pulses, measurement windows and time): the wheel lines and the clock. -/

namespace Sys2Proof.Machine

/-! ### The wheel lines (R1 to R5) -/

/-- With no settings loaded only the pin moves. -/
theorem wheelInput_unloaded {s : State} (l : WheelLine) (level : Bool) (h : s.odu.settings = none) :
    wheelInput l level s = s.setOdu (s.odu.setLine l { s.odu.line l with input := level }) := by
  simp [wheelInput, h]

theorem filterElapsed_unloaded {s : State} (l : WheelLine) (h : s.odu.settings = none) :
    filterElapsed l s = s := by
  simp [filterElapsed, h]

theorem wheelInput_running {s : State} {x : SensorSettings} (l : WheelLine) (level : Bool)
    (hr : s.running = true) (hx : s.odu.settings = some x) :
    wheelInput l level s = s.setOdu (s.odu.filterInput l level x) := by
  simp [wheelInput, hr, hx]

/-- With a filter width the line keeps its settled level, and a change is pending where the input differs from it. -/
theorem Odu.filterInput_width (o : Odu) (l : WheelLine) (level : Bool) {x : SensorSettings} (h : x.filter ≠ .off) :
    o.filterInput l level x
      = o.setLine l ⟨level, (o.line l).settled, level != (o.line l).settled⟩ := by
  cases l <;> simp [Odu.filterInput, h, Odu.setLine, Odu.line]

/-- With the filter OFF a new level settles line B, whose edge is no pulse. -/
theorem Odu.filterInput_off_b (o : Odu) {level : Bool} {x : SensorSettings} (h : x.filter = .off)
    (hl : level ≠ o.lineB.settled) :
    o.filterInput .b level x = { o with lineB := ⟨level, level, false⟩ } := by
  simp [Odu.filterInput, h, hl, Odu.settleLine, Odu.setLine, Odu.line, ← Bool.eq_not.2 hl]

/-- With the filter OFF a new level settles line A, and its edge is decoded. -/
theorem Odu.filterInput_off_a (o : Odu) {level : Bool} {x : SensorSettings} (h : x.filter = .off)
    (hl : level ≠ o.lineA.settled) :
    o.filterInput .a level x
      = ({ o with lineA := ⟨level, level, false⟩ } : Odu).edgeA x.mode level := by
  simp [Odu.filterInput, h, hl, Odu.settleLine, Odu.setLine, Odu.line, ← Bool.eq_not.2 hl]

/-- Settles O2, by the filter's two settings and, with it OFF, by the line. -/
theorem wheelInputMeetsTheFilter : Obligations.WheelInputMeetsTheFilter := by
  unfold Obligations.WheelInputMeetsTheFilter
  refine ⟨fun s l level h => ⟨congrArg _ (wheelInput_unloaded l level h),
    congrArg _ (filterElapsed_unloaded l h)⟩, fun s x hr hx => ⟨?_, ?_, ?_⟩⟩
  · intro l level hf
    rw [← Odu.filterInput_width s.odu l level hf]
    exact congrArg _ (wheelInput_running l level hr hx)
  · intro level hf hl
    rw [← Odu.filterInput_off_b s.odu hf hl]
    exact congrArg _ (wheelInput_running .b level hr hx)
  · intro level hf hl
    rw [← Odu.filterInput_off_a s.odu hf hl]
    exact congrArg _ (wheelInput_running .a level hr hx)

/-- A change that has held settles the line. -/
theorem filterElapsed_pending {s : State} {x : SensorSettings} {l : WheelLine} (hr : s.running = true)
    (hx : s.odu.settings = some x) (hc : (s.odu.line l).change = true) :
    filterElapsed l s = s.setOdu (s.odu.settleLine l x.mode) := by
  simp [filterElapsed, hr, hx, hc]

theorem Odu.edgeA_single (o : Odu) (rising : Bool) :
    o.edgeA .single rising = if rising then o.pulse true else o := rfl

/-- Table 1-2: a rising edge of A is forward while B is low, a falling one while B is high. -/
theorem Odu.edgeA_quadrature (o : Odu) (rising : Bool) :
    o.edgeA .quadrature rising = o.pulse (rising != o.lineB.settled) := rfl

/-- Settles O3: the line settles, and for line A the mode and Table 1-2 decide the pulse. -/
theorem elapsedFilterIssuesOnePulse : Obligations.ElapsedFilterIssuesOnePulse := by
  unfold Obligations.ElapsedFilterIssuesOnePulse
  intro s x hr hx
  refine ⟨fun hc => congrArg _ (filterElapsed_pending (l := .b) hr hx hc), ?_⟩
  intro hc o ho
  have settles : exec (.filterWidthElapsed .a) s
      = .next (s.setOdu (o.edgeA x.mode (!s.odu.lineA.settled))) := by
    rw [ho]; exact congrArg _ (filterElapsed_pending (l := .a) hr hx hc)
  have hb : o.lineB = s.odu.lineB := by rw [ho]
  rw [settles]
  refine ⟨?_, ?_, ?_, ?_, ?_, ?_⟩
  · intro hm ha; simp [hm, ha, Odu.edgeA_single]
  · intro hm ha; simp [hm, ha, Odu.edgeA_single]
  all_goals intro hm ha hl; simp [hm, ha, hb, hl, Odu.edgeA_quadrature]

/-- Settles O4, by the direction and, for a forward pulse, by the debt. -/
theorem pulsesPayOffTheDebt : Obligations.PulsesPayOffTheDebt := by
  unfold Obligations.PulsesPayOffTheDebt
  intro o
  refine ⟨rfl, fun hd => ?_, fun hd => ?_⟩
  · simp [Odu.pulse, Nat.pos_iff_ne_zero.1 hd, satAdd, Config.max16]
  · simp [Odu.pulse, hd, satAdd, Config.max16]

/-! ### The clock and the vehicle report (R9, R10, R14, R15) -/

theorem secondEnd_due {s : State} (hr : s.running = true) (hp : s.odu.phase = 4) :
    secondEnd s = s.setOdu { s.odu with phase := 0, clock := s.odu.clock + 1 } := by
  simp [secondEnd, hr, hp, Config.windowsPerSecond]

theorem retainedTick_counts {s : State} (h : s.retainedCounts = true) :
    retainedTick s = s.setOdu { s.odu with clock := s.odu.clock + 1 } := by
  simp [retainedTick, h]

/-- Settles O6: the second end that is due, and the retained counter in a power gap and in the image read. -/
theorem clockAdvancesByTheSecond : Obligations.ClockAdvancesByTheSecond := by
  unfold Obligations.ClockAdvancesByTheSecond
  refine ⟨fun s hr hp => congrArg _ (secondEnd_due hr hp), fun s hm hl => ?_, fun s hm hp => ?_⟩
  · exact congrArg _ (retainedTick_counts (by simp [State.retainedCounts, hm, hl]))
  · exact congrArg _ (retainedTick_counts (by simp [State.retainedCounts, hm, hp]))

/-- A byte appended to a word multiplies it by 256 and adds the byte. -/
theorem toNat_append_byte {w : Nat} (x : BitVec w) (b : Byte) : (x ++ b).toNat = x.toNat * 256 + b.toNat := by
  rw [BitVec.toNat_append, ← Nat.shiftLeft_add_eq_or_of_lt b.isLt, Nat.shiftLeft_eq]

/-- Four bytes spell the word they make up, most significant first. -/
theorem field_four (a b c d : Byte) :
    BitVec.ofNat 32 (field [a, b, c, d] 0 4) = (a ++ b ++ c ++ d : BitVec 32) := by
  have h : field [a, b, c, d] 0 4 = (a ++ b ++ c ++ d : BitVec 32).toNat := by
    simp only [toNat_append_byte]
    simp [field, slice, ofBytes]
  rw [h, BitVec.ofNat_toNat, BitVec.setWidth_eq]

/-- A one-byte field is the byte that stands there. -/
theorem field_one {bs : List Byte} {i : Nat} {b : Byte} (h : bs[i]? = some b) : field bs i 1 = b.toNat := by
  have hs : (bs.drop i).take 1 = [b] := by simp [List.take_one, h]
  simp [field, slice, ofBytes, hs]

/-- A one-byte yes-or-no field is yes where the byte is not 0. -/
theorem yes_eq {bs : List Byte} {i : Nat} {b : Byte} (h : bs[i]? = some b) : yes bs i = (b != 0) := by
  rw [yes, field_one h, Bool.eq_iff_iff]
  simp [← BitVec.toNat_inj]

theorem vehicleState_eq (s : State) {f : RxFrame} {a b c d : Byte} (h : f.payload = [a, b, c, d]) :
    vehicleState f s
      = s.setOdu { s.odu with report := ⟨a != 0, b != 0, c != 0, min d.toNat 15⟩ } := by
  unfold vehicleState
  rw [h, yes_eq (b := a) rfl, yes_eq (b := b) rfl, yes_eq (b := c) rfl, field_one (b := d) rfl]

theorem clockSet_eq (s : State) {f : RxFrame} {a b c d : Byte} (h : f.payload = [a, b, c, d]) :
    clockSet f s
      = answer 59 f .done (s.setOdu { s.odu with clock := (a ++ b ++ c ++ d : BitVec 32), clockSet := true }) := by
  unfold clockSet
  rw [h, field_four]
  rfl

theorem exec_clockSet (f : RxFrame) (s : State) :
    exec (.clockSet f) s = .next (frameComplete 59 f (clockSet f) s) := rfl

theorem exec_vehicleState (f : RxFrame) (s : State) :
    exec (.vehicleState f) s = .next (frameComplete 72 f (vehicleState f) s) := rfl

/-- Settles O7: each frame reaches the ODU, which replaces clock and flag, or the whole report. -/
theorem clockAndVehicleReportAreReplaced : Obligations.ClockAndVehicleReportAreReplaced := by
  unfold Obligations.ClockAndVehicleReportAreReplaced
  constructor
  · intro s f a b c d hd hp
    rw [exec_clockSet, frameComplete_delivers _ hd, clockSet_eq _ hp, (received_frame s).1]
  · intro s f a b c d hd hp
    rw [exec_vehicleState, frameComplete_delivers _ hd, vehicleState_eq _ hp, (received_frame s).1]

end Sys2Proof.Machine

/-! What an enqueue of class SETTLE, CONTROL or ROUTINE does to the mailboxes, and what further enqueues leave of it (R173). -/

namespace Sys2Proof.Machine

/-! ### One mailbox -/

theorem Cbi.box_setBox (c : Cbi) (i j : Nat) (m : Mailbox) :
    (c.setBox i m).box j = if i = j ∧ i < c.boxes.length then m else c.box j := by
  simp only [Cbi.box, Cbi.setBox, List.getD_eq_getElem?_getD, List.getElem?_set]
  by_cases h : i = j
  · subst h
    by_cases g : i < c.boxes.length <;> simp [g]
  · simp [h]

@[simp] theorem Cbi.setBox_length (c : Cbi) (i : Nat) (m : Mailbox) :
    (c.setBox i m).boxes.length = c.boxes.length := by
  simp [Cbi.setBox]

theorem Cbi.box_write (c : Cbi) (i j : Nat) (f : TxFrame) :
    (c.write i f).box j = if i = j ∧ i < c.boxes.length then ⟨.pending, f, c.nextAge⟩ else c.box j :=
  Cbi.box_setBox c i j _

theorem Cbi.box_refresh (c : Cbi) (i j : Nat) (f : TxFrame) :
    (c.refresh i f).box j = if i = j ∧ i < c.boxes.length
      then { c.box i with frame := { (c.box i).frame with payload := f.payload } } else c.box j :=
  Cbi.box_setBox c i j _

theorem mem_routineBoxes {i : Nat} : i ∈ routineBoxes ↔ 1 ≤ i ∧ i < 8 := by
  simp only [routineBoxes, List.mem_cons, List.not_mem_nil, or_false]
  omega

theorem Cbi.firstEmpty_some {c : Cbi} {i : Nat} (h : c.firstEmpty = some i) :
    1 ≤ i ∧ i < 8 ∧ (c.box i).state = .empty := by
  have hm := mem_routineBoxes.1 (List.mem_of_find?_eq_some h)
  exact ⟨hm.1, hm.2, by simpa using List.find?_some h⟩

theorem Cbi.firstEmpty_none {c : Cbi} (h : c.firstEmpty = none) (i : Nat) (h1 : 1 ≤ i) (h8 : i < 8) :
    (c.box i).state ≠ .empty := by
  simpa using List.find?_eq_none.1 h i (mem_routineBoxes.2 ⟨h1, h8⟩)

theorem Cbi.pendingOf_some {c : Cbi} {t i : Nat} (h : c.pendingOf t = some i) :
    1 ≤ i ∧ i < 8 ∧ (c.box i).state = .pending ∧ (c.box i).frame.topic = t := by
  have hm := mem_routineBoxes.1 (List.mem_of_find?_eq_some h)
  have hp := List.find?_some h
  simp only [Bool.and_eq_true, beq_iff_eq] at hp
  exact ⟨hm.1, hm.2, hp.1, hp.2⟩

/-! ### One enqueue -/

/-- The three ends of an enqueue into mailboxes 1 to 7: the PENDING frame of its state topic is refreshed, an EMPTY mailbox takes
it, or QUEUE_FULL. -/
theorem Cbi.enqueue_cases (c : Cbi) {f : TxFrame} (h : f.cls ≠ clsAlarm) :
    (∃ i, c.enqueue f = (c.refresh i f, some i) ∧ 1 ≤ i ∧ i < 8 ∧ f.kind = .state
        ∧ (c.box i).state = .pending ∧ (c.box i).frame.topic = f.topic)
      ∨ (∃ i, c.enqueue f = (c.write i f, some i) ∧ 1 ≤ i ∧ i < 8 ∧ (c.box i).state = .empty)
      ∨ (c.enqueue f = (c, none) ∧ ∀ i, 1 ≤ i → i < 8 → (c.box i).state ≠ .empty) := by
  unfold Cbi.enqueue
  rw [if_neg h]
  split
  · rename_i i hp
    split at hp
    · obtain ⟨h1, h8, hs, ht⟩ := Cbi.pendingOf_some hp
      exact .inl ⟨i, rfl, h1, h8, ‹_›, hs, ht⟩
    · exact absurd hp (by simp)
  · split
    · rename_i i he
      exact .inr (.inl ⟨i, rfl, Cbi.firstEmpty_some he⟩)
    · rename_i he
      exact .inr (.inr ⟨rfl, Cbi.firstEmpty_none he⟩)

/-- After an enqueue its frame stands in a mailbox, or it met QUEUE_FULL. -/
theorem Cbi.enqueue_enqueued (c : Cbi) {f : TxFrame} (h : f.cls ≠ clsAlarm) (hl : c.boxes.length = 8) :
    (c.enqueue f).1.enqueued (c.enqueue f).2.isSome f.topic f.payload := by
  obtain ⟨i, e, h1, h8, -, hs, ht⟩ | ⟨i, e, h1, h8, -⟩ | ⟨e, hf⟩ := c.enqueue_cases h
  · refine ⟨fun _ => ⟨i, h1, h8, ?_⟩, by simp [e]⟩
    simp [e, Cbi.box_refresh, hl, h8, hs, ht]
  · refine ⟨fun _ => ⟨i, h1, h8, ?_⟩, by simp [e]⟩
    simp [e, Cbi.box_write, hl, h8]
  · exact ⟨by simp [e], fun _ => by rw [e]; exact hf⟩

/-! ### What several enqueues leave -/

/-- Between two interfaces frames were enqueued into mailboxes 1 to 7, the state topics among `topics`: a filled mailbox stays
filled, a PENDING frame of another topic stays as it is; a part that was AWAKE, or is DORMANT in the end, kept its dormancy
timer. -/
structure Cbi.TookFrames (topics : List Nat) (c d : Cbi) : Prop where
  length : d.boxes.length = c.boxes.length
  filled : ∀ i, (c.box i).state ≠ .empty → (d.box i).state ≠ .empty
  kept : ∀ i, (c.box i).state = .pending → (c.box i).frame.topic ∉ topics → d.box i = c.box i
  dormancy : c.dormant = false ∨ d.dormant = true →
    d.dormant = c.dormant ∧ d.dormancyTimer = c.dormancyTimer

namespace Cbi.TookFrames

/-- An interface with the same mailboxes and the same dormancy. -/
theorem of_same {c d : Cbi} (topics : List Nat) (hb : d.boxes = c.boxes) (hd : d.dormant = c.dormant)
    (ht : d.dormancyTimer = c.dormancyTimer) : TookFrames topics c d where
  length := by rw [hb]
  filled i := by simp [Cbi.box, hb]
  kept i := by simp [Cbi.box, hb]
  dormancy _ := ⟨hd, ht⟩

theorem refl (topics : List Nat) (c : Cbi) : TookFrames topics c c := of_same topics rfl rfl rfl

theorem trans {p q : List Nat} {c d e : Cbi} (h : TookFrames p c d) (g : TookFrames q d e) :
    TookFrames (p ++ q) c e where
  length := g.length.trans h.length
  filled i hc := g.filled i (h.filled i hc)
  kept i hc ht := by
    rw [List.mem_append, not_or] at ht
    have hd := h.kept i hc ht.1
    rw [g.kept i (hd ▸ hc) (hd ▸ ht.2), hd]
  dormancy hce := by
    have hde : d.dormant = false ∨ e.dormant = true := by
      refine hce.imp_left fun hc => ?_
      rw [(h.dormancy (.inl hc)).1, hc]
    obtain ⟨ge, gt⟩ := g.dormancy hde
    obtain ⟨he, ht⟩ := h.dormancy (hce.imp_right fun x => ge ▸ x)
    exact ⟨ge.trans he, gt.trans ht⟩

theorem mono {p q : List Nat} {c d : Cbi} (h : TookFrames p c d) (hpq : p ⊆ q) : TookFrames q c d :=
  ⟨h.length, h.filled, fun i hc ht => h.kept i hc fun hm => ht (hpq hm), h.dormancy⟩

/-- What was enqueued before stays enqueued, where its topic is none of those refreshed. -/
theorem enqueued {topics : List Nat} {c d : Cbi} (h : TookFrames topics c d) {taken : Bool} {topic : Nat}
    {payload : List Byte} (ht : topic ∉ topics) (he : c.enqueued taken topic payload) :
    d.enqueued taken topic payload := by
  refine ⟨fun hk => ?_, fun hk i h1 h8 => h.filled i (he.2 hk i h1 h8)⟩
  obtain ⟨i, h1, h8, hs, hf, hp⟩ := he.1 hk
  have hd := h.kept i hs (hf ▸ ht)
  exact ⟨i, h1, h8, by rw [hd]; exact ⟨hs, hf, hp⟩⟩

end Cbi.TookFrames

theorem Cbi.enqueue_took (c : Cbi) {f : TxFrame} {topics : List Nat} (h : f.cls ≠ clsAlarm)
    (ht : f.kind = .state → f.topic ∈ topics) : TookFrames topics c (c.enqueue f).1 := by
  have hd := Cbi.enqueue_only c f
  have sleep : (c.enqueue f).1.dormancyTimer = c.dormancyTimer := by rw [hd]
  obtain ⟨i, e, -, -, hk, hs, hf⟩ | ⟨i, e, -, -, hs⟩ | ⟨e, -⟩ := c.enqueue_cases h
  · rw [e] at sleep ⊢
    refine ⟨by simp [Cbi.refresh], fun j hj => ?_, fun j _ hj => ?_, fun _ => ⟨rfl, sleep⟩⟩
    · rw [Cbi.box_refresh]
      split
      · simp [hs]
      · exact hj
    · rw [Cbi.box_refresh, if_neg]
      rintro ⟨rfl, -⟩
      exact hj (hf ▸ ht hk)
  · rw [e] at sleep ⊢
    refine ⟨by simp [Cbi.write], fun j hj => ?_, fun j hj _ => ?_, fun _ => ⟨rfl, sleep⟩⟩
    · rw [Cbi.box_write]
      split
      · simp
      · exact hj
    · rw [Cbi.box_write, if_neg]
      rintro ⟨rfl, -⟩
      simp [hs] at hj
  · rw [e]
    exact TookFrames.refl topics c

/-! ### The enqueue of the part -/

theorem wake_took (s : State) (topics : List Nat) : s.cbi.TookFrames topics (wake s).cbi := by
  unfold wake
  split
  · rename_i hd
    refine ⟨by simp, by simp [Cbi.box], by simp [Cbi.box], ?_⟩
    simp [hd]
  · exact .refl topics s.cbi

/-- A wake sets the routing matrix and the scan of the CAU, the FREE lamp, and the dormancy of the interface. -/
@[simp] theorem wake_kept (s : State) :
    (wake s).cau.floor = s.cau.floor ∧ (wake s).cau.rearWaiting = s.cau.rearWaiting
      ∧ (wake s).cau.owed = s.cau.owed ∧ (wake s).rsd.lampTest = s.rsd.lampTest
      ∧ (wake s).cbi.listen = s.cbi.listen := by
  unfold wake
  split
  · simp [setRouting, updateLamp, Cau.beginSlot]
  · simp

@[simp] theorem Cbi.enqueue_listen (c : Cbi) (f : TxFrame) : (c.enqueue f).1.listen = c.listen := by
  rw [Cbi.enqueue_only c f]

@[simp] theorem enqueue_kept (s : State) (f : TxFrame) :
    (enqueue s f).1.cau.floor = s.cau.floor ∧ (enqueue s f).1.cau.rearWaiting = s.cau.rearWaiting
      ∧ (enqueue s f).1.cau.owed = s.cau.owed ∧ (enqueue s f).1.rsd.lampTest = s.rsd.lampTest
      ∧ (enqueue s f).1.cbi.listen = s.cbi.listen := by
  unfold enqueue
  dsimp only
  split <;> simp

@[simp] theorem enqueue_boxes (s : State) (f : TxFrame) :
    (enqueue s f).1.cbi.boxes = (s.cbi.enqueue f).1.boxes := by
  unfold enqueue
  dsimp only
  split <;> simp

@[simp] theorem enqueue_taken (s : State) (f : TxFrame) : (enqueue s f).2 = (s.cbi.enqueue f).2 := rfl

theorem enqueue_took (s : State) {f : TxFrame} {topics : List Nat} (h : f.cls ≠ clsAlarm)
    (ht : f.kind = .state → f.topic ∈ topics) : s.cbi.TookFrames topics (enqueue s f).1.cbi := by
  have hc := s.cbi.enqueue_took h ht
  unfold enqueue
  dsimp only
  split
  · exact List.append_nil topics ▸ hc.trans (wake_took (s.setCbi (s.cbi.enqueue f).1) [])
  · exact hc

/-- `enqueued` reads the mailboxes alone. -/
theorem Cbi.enqueued_of_boxes {c d : Cbi} (h : d.boxes = c.boxes) {taken : Bool} {topic : Nat} {payload : List Byte} :
    d.enqueued taken topic payload ↔ c.enqueued taken topic payload := by
  simp [Cbi.enqueued, Cbi.carries, Cbi.box, h]

theorem enqueue_enqueued (s : State) {f : TxFrame} (h : f.cls ≠ clsAlarm) (hl : s.cbi.boxes.length = 8) :
    (enqueue s f).1.cbi.enqueued (enqueue s f).2.isSome f.topic f.payload :=
  (Cbi.enqueued_of_boxes (enqueue_boxes s f)).2 (s.cbi.enqueue_enqueued h hl)

end Sys2Proof.Machine

/-! What waits to be enqueued again at a window end: each retry on its own, then all of them in their order (log 10). -/

namespace Sys2Proof.Machine

/-! ### What every retry keeps -/

/-- Between two states frames were enqueued again, the state topics among `topics`: the base, the alarm, the lamp test and the
listen phase are as they were. -/
structure State.Retried (topics : List Nat) (s t : State) : Prop where
  base : s.SameBase t
  alm : t.alm = s.alm
  lampTest : t.rsd.lampTest = s.rsd.lampTest
  listen : t.cbi.listen = s.cbi.listen
  took : s.cbi.TookFrames topics t.cbi

namespace State.Retried

theorem refl (topics : List Nat) (s : State) : Retried topics s s := ⟨.refl s, rfl, rfl, rfl, .refl topics s.cbi⟩

theorem trans {p q : List Nat} {s t u : State} (h : Retried p s t) (g : Retried q t u) : Retried (p ++ q) s u :=
  ⟨h.base.trans g.base, g.alm.trans h.alm, g.lampTest.trans h.lampTest, g.listen.trans h.listen, h.took.trans g.took⟩

theorem length {topics : List Nat} {s t : State} (h : Retried topics s t) {n : Nat} (hl : s.cbi.boxes.length = n) :
    t.cbi.boxes.length = n :=
  h.took.length.trans hl

end State.Retried

theorem enqueue_retried (s : State) {f : TxFrame} {topics : List Nat} (h : f.cls ≠ clsAlarm)
    (ht : f.kind = .state → f.topic ∈ topics) : State.Retried topics s (enqueue s f).1 :=
  ⟨by simp [State.SameBase], by simp, by simp, by simp, enqueue_took s h ht⟩

/-- An update of the TRC, the STU, the SAU or the CAU besides. -/
theorem State.Retried.of_update {topics : List Nat} {s t u : State} (h : Retried topics s t) (hb : t.SameBase u)
    (ha : u.alm = t.alm) (hr : u.rsd = t.rsd) (hc : u.cbi = t.cbi) : Retried topics s u :=
  ⟨h.base.trans hb, ha.trans h.alm, by rw [hr, h.lampTest], by rw [hc, h.listen], hc ▸ h.took⟩

/-! ### The three state topics that may be owed -/

@[simp] theorem State.meterFrame_header (s : State) :
    s.meterFrame.cls = 3 ∧ s.meterFrame.topic = 113 ∧ s.meterFrame.kind = .state := ⟨rfl, rfl, rfl⟩

@[simp] theorem State.shiftFrame_header (s : State) :
    s.shiftFrame.cls = 3 ∧ s.shiftFrame.topic = 115 ∧ s.shiftFrame.kind = .state := ⟨rfl, rfl, rfl⟩

@[simp] theorem State.talkFrame_header (s : State) :
    s.talkFrame.cls = 3 ∧ s.talkFrame.topic = 114 ∧ s.talkFrame.kind = .state := ⟨rfl, rfl, rfl⟩

theorem windowMeterState_retried (s : State) : State.Retried [113] s (windowMeterState s) := by
  unfold windowMeterState
  split
  · exact (enqueue_retried s (f := s.meterFrame) (by simp [clsAlarm]) (by simp)).of_update
      (by simp [State.SameBase]) rfl rfl rfl
  · exact .refl _ s

@[simp] theorem windowMeterState_frame (s : State) :
    (windowMeterState s).stu = s.stu ∧ (windowMeterState s).sau = s.sau
      ∧ (windowMeterState s).cau.floor = s.cau.floor
      ∧ (windowMeterState s).cau.rearWaiting = s.cau.rearWaiting
      ∧ (windowMeterState s).cau.owed = s.cau.owed
      ∧ (windowMeterState s).trc.record = s.trc.record ∧ (windowMeterState s).meter = s.meter := by
  unfold windowMeterState
  split <;> simp [State.meter, Trc.meter]

/-- METER_STATE, where it is owed. -/
theorem windowMeterState_enqueued {s : State} (ho : s.trc.owed = true) (hl : s.cbi.boxes.length = 8) :
    (windowMeterState s).cbi.enqueued (!(windowMeterState s).trc.owed) 113 s.meterFrame.payload := by
  have h := enqueue_enqueued s (f := s.meterFrame) (by simp [clsAlarm]) hl
  simpa [windowMeterState, ho] using h

theorem windowShiftState_retried (s : State) : State.Retried [115] s (windowShiftState s) := by
  unfold windowShiftState
  split
  · exact (enqueue_retried s (f := s.shiftFrame) (by simp [clsAlarm]) (by simp)).of_update
      (by simp [State.SameBase, enqueueShiftState]) rfl rfl rfl
  · exact .refl _ s

@[simp] theorem windowShiftState_frame (s : State) :
    (windowShiftState s).trc = s.trc ∧ (windowShiftState s).stu = s.stu
      ∧ (windowShiftState s).cau.floor = s.cau.floor
      ∧ (windowShiftState s).cau.rearWaiting = s.cau.rearWaiting
      ∧ (windowShiftState s).cau.owed = s.cau.owed := by
  unfold windowShiftState enqueueShiftState
  split <;> simp

/-- At the SAU an owed SHIFT_STATE changes the owed flag alone. -/
theorem windowShiftState_sau (s : State) :
    (windowShiftState s).sau = { s.sau with owed := (windowShiftState s).sau.owed } := by
  unfold windowShiftState enqueueShiftState
  split <;> simp

/-- SHIFT_STATE, where it is owed. -/
theorem windowShiftState_enqueued {s : State} (ho : s.sau.owed = true) (hl : s.cbi.boxes.length = 8) :
    (windowShiftState s).cbi.enqueued (!(windowShiftState s).sau.owed) 115 s.shiftFrame.payload := by
  have h := enqueue_enqueued s (f := s.shiftFrame) (by simp [clsAlarm]) hl
  simpa [windowShiftState, enqueueShiftState, ho] using h

theorem windowTalkState_retried (s : State) : State.Retried [114] s (windowTalkState s) := by
  unfold windowTalkState
  split
  · exact (enqueue_retried s (f := s.talkFrame) (by simp [clsAlarm]) (by simp)).of_update
      (by simp [State.SameBase, enqueueTalkState]) rfl rfl rfl
  · exact .refl _ s

@[simp] theorem windowTalkState_frame (s : State) :
    (windowTalkState s).trc = s.trc ∧ (windowTalkState s).stu = s.stu ∧ (windowTalkState s).sau = s.sau := by
  unfold windowTalkState
  split <;> simp

/-- TALK_STATE, where it is owed. -/
theorem windowTalkState_enqueued {s : State} (ho : s.cau.owed = true) (hl : s.cbi.boxes.length = 8) :
    (windowTalkState s).cbi.enqueued (!(windowTalkState s).cau.owed) 114 s.talkFrame.payload := by
  have h := enqueue_enqueued s (f := s.talkFrame) (by simp [clsAlarm]) hl
  simpa [windowTalkState, enqueueTalkState, ho] using h

/-! ### The frames of the STU -/

/-- A retry of the STU: an enqueue, and an update of its own records. -/
def State.StuRetried (s t : State) : Prop :=
  State.Retried [] s t ∧ t.trc = s.trc ∧ t.sau = s.sau ∧ t.cau.owed = s.cau.owed

theorem State.StuRetried.refl (s : State) : s.StuRetried s := ⟨.refl [] s, rfl, rfl, rfl⟩

theorem State.StuRetried.trans {s t u : State} (h : s.StuRetried t) (g : t.StuRetried u) : s.StuRetried u := by
  obtain ⟨hr, ht, hs, hc⟩ := h
  obtain ⟨gr, gt, gs, gc⟩ := g
  exact ⟨hr.trans gr, gt.trans ht, gs.trans hs, gc.trans hc⟩

/-- An event frame of the STU enqueued, and the STU's records updated. -/
theorem enqueue_setStu_retried (s : State) {f : TxFrame} (hc : f.cls ≠ clsAlarm) (hk : f.kind = .event) (x : Stu) :
    s.StuRetried ((enqueue s f).1.setStu x) :=
  ⟨(enqueue_retried s hc (by simp [hk])).of_update (by simp [State.SameBase]) rfl rfl rfl, by simp⟩

theorem placeRequest_retried (s : State) : s.StuRetried (placeRequest s) := by
  unfold placeRequest
  split
  · exact .refl s
  · exact enqueue_setStu_retried s (by simp [payRequestFrame, clsSettle, clsAlarm]) rfl _

theorem placeCancel_retried (s : State) : s.StuRetried (placeCancel s) := by
  unfold placeCancel
  split
  · exact .refl s
  · exact enqueue_setStu_retried s (by simp [payCancelFrame, clsSettle, clsAlarm]) rfl _

theorem queryFrame_routed (trip number : Nat) : (queryFrame trip number).cls ≠ clsAlarm := by
  simp [queryFrame, clsSettle, clsAlarm]

theorem placeQuery_retried (s : State) : s.StuRetried (placeQuery s) := by
  unfold placeQuery
  split
  · exact .refl s
  · dsimp only
    split <;> exact enqueue_setStu_retried s (queryFrame_routed _ _) rfl _

theorem placeEntryQuery_retried (e : UnsettledEntry) (s : State) : s.StuRetried (placeEntryQuery e s) := by
  unfold placeEntryQuery
  dsimp only
  split <;> exact enqueue_setStu_retried s (queryFrame_routed _ _) rfl _

theorem placeClosingQuery_retried (e : UnsettledEntry) (s : State) : s.StuRetried (placeClosingQuery e s) :=
  enqueue_setStu_retried s (queryFrame_routed _ _) rfl _

theorem retryEntry_retried (e : UnsettledEntry) (s : State) : s.StuRetried (retryEntry e s) := by
  unfold retryEntry
  dsimp only
  split <;> split
  · exact (placeEntryQuery_retried e s).trans (placeClosingQuery_retried e _)
  · exact placeClosingQuery_retried e s
  · exact placeEntryQuery_retried e s
  · exact .refl s

/-- The retries of the entries, oldest first. -/
def retryEntries (l : List UnsettledEntry) (s : State) : State := l.foldl (fun t e => retryEntry e t) s

theorem retryEntries_retried (l : List UnsettledEntry) (s : State) : s.StuRetried (retryEntries l s) := by
  induction l generalizing s with
  | nil => exact .refl s
  | cons e l ih => exact (retryEntry_retried e s).trans (ih _)

/-- The retry of the attempt: the frame its state waits for. -/
def retryAttempt (s : State) : State :=
  match s.stu.attempt with
  | some a =>
    if a.state = .queued ∧ !a.placed then placeRequest s
    else if a.state = .cancelling ∧ a.waits then placeCancel s
    else if a.state = .uncertain ∧ a.waits then placeQuery s
    else s
  | none => s

theorem settlementRetries_eq (s : State) :
    settlementRetries s = if s.meter = .inoperative then s
      else retryEntries (retryAttempt s).stu.unsettled (retryAttempt s) := rfl

theorem retryAttempt_retried (s : State) : s.StuRetried (retryAttempt s) := by
  unfold retryAttempt
  split
  · split
    · exact placeRequest_retried s
    · split
      · exact placeCancel_retried s
      · split
        · exact placeQuery_retried s
        · exact .refl s
  · exact .refl s

theorem settlementRetries_retried (s : State) : s.StuRetried (settlementRetries s) := by
  rw [settlementRetries_eq]
  split
  · exact .refl s
  · exact (retryAttempt_retried s).trans (retryEntries_retried _ _)

/-! ### What the attempt's retry makes of the attempt -/

/-- An enqueue of the STU, its records updated: the frame stands in a mailbox, or it met QUEUE_FULL. -/
theorem enqueue_setStu_enqueued (s : State) {f : TxFrame} (hc : f.cls ≠ clsAlarm) (hl : s.cbi.boxes.length = 8)
    (x : Stu) : ((enqueue s f).1.setStu x).cbi.enqueued (enqueue s f).2.isSome f.topic f.payload :=
  enqueue_enqueued s hc hl

theorem placeRequest_spec {s : State} {a : Attempt} (ha : s.stu.attempt = some a) (hl : s.cbi.boxes.length = 8) :
    ∃ ok, (placeRequest s).stu = { s.stu with attempt := some { a with placed := ok } }
      ∧ (placeRequest s).cbi.enqueued ok 80 (be 2 a.trip ++ be 1 a.number ++ be 3 a.requested) := by
  unfold placeRequest
  rw [ha]
  exact ⟨_, by simp [State.setAttempt], enqueue_setStu_enqueued s (f := payRequestFrame a)
    (by simp [payRequestFrame, clsSettle, clsAlarm]) hl _⟩

theorem placeCancel_spec {s : State} {a : Attempt} (ha : s.stu.attempt = some a) (hl : s.cbi.boxes.length = 8) :
    ∃ ok, (placeCancel s).stu = { s.stu with attempt := some { a with waits := !ok } }
      ∧ (placeCancel s).cbi.enqueued ok 46 (be 2 a.trip ++ be 1 a.number) := by
  unfold placeCancel
  rw [ha]
  exact ⟨_, by simp [State.setAttempt], enqueue_setStu_enqueued s (f := payCancelFrame a)
    (by simp [payCancelFrame, clsSettle, clsAlarm]) hl _⟩

theorem placeQuery_spec {s : State} {a : Attempt} (ha : s.stu.attempt = some a) (hl : s.cbi.boxes.length = 8) :
    ∃ ok, (placeQuery s).stu = { s.stu with attempt := some { a with
          queries := if ok then min (a.queries + 1) 255 else a.queries
          timer := if ok then some 40 else none
          waits := !ok } }
      ∧ (placeQuery s).cbi.enqueued ok 81 (be 2 a.trip ++ be 1 a.number) := by
  have he := enqueue_setStu_enqueued s (queryFrame_routed a.trip a.number) hl
  unfold placeQuery
  rw [ha]
  dsimp only
  split
  · rename_i h
    exact ⟨true, by simp [State.setAttempt, satAdd, Config.maxQueryCount, Config.queryTimer], h ▸ he _⟩
  · rename_i h
    exact ⟨false, by simp [State.setAttempt], Bool.eq_false_of_not_eq_true h ▸ he _⟩

/-- In QUEUED with the PAY_REQUEST not placed it is placed; in CANCELLING or UNCERTAIN what waits. -/
theorem retryAttempt_queued {s : State} {a : Attempt} (ha : s.stu.attempt = some a) (hs : a.state = .queued)
    (hp : a.placed = false) : retryAttempt s = placeRequest s := by
  simp [retryAttempt, ha, hs, hp]

theorem retryAttempt_cancelling {s : State} {a : Attempt} (ha : s.stu.attempt = some a)
    (hs : a.state = .cancelling) (hw : a.waits = true) : retryAttempt s = placeCancel s := by
  simp [retryAttempt, ha, hs, hw]

theorem retryAttempt_uncertain {s : State} {a : Attempt} (ha : s.stu.attempt = some a)
    (hs : a.state = .uncertain) (hw : a.waits = true) : retryAttempt s = placeQuery s := by
  simp [retryAttempt, ha, hs, hw]

theorem retryAttempt_quiet {s : State} {a : Attempt} (ha : s.stu.attempt = some a) (hp : a.placed = true)
    (hw : a.waits = false) : retryAttempt s = s := by
  simp [retryAttempt, ha, hp, hw]

/-- The attempt's retry leaves the unsettled list, and the entries' retries the attempt. -/
theorem retryAttempt_unsettled (s : State) : (retryAttempt s).stu.unsettled = s.stu.unsettled := by
  have hr : (placeRequest s).stu.unsettled = s.stu.unsettled := by
    unfold placeRequest; split <;> simp [State.setAttempt]
  have hc : (placeCancel s).stu.unsettled = s.stu.unsettled := by
    unfold placeCancel; split <;> simp [State.setAttempt]
  have hq : (placeQuery s).stu.unsettled = s.stu.unsettled := by
    unfold placeQuery
    split
    · rfl
    · dsimp only
      split <;> simp [State.setAttempt]
  unfold retryAttempt
  split
  · split
    · exact hr
    · split
      · exact hc
      · split
        · exact hq
        · rfl
  · rfl

theorem placeEntryQuery_attempt (e : UnsettledEntry) (s : State) :
    (placeEntryQuery e s).stu.attempt = s.stu.attempt := by
  unfold placeEntryQuery
  dsimp only
  split <;> simp [State.mapEntry]

theorem placeClosingQuery_attempt (e : UnsettledEntry) (s : State) :
    (placeClosingQuery e s).stu.attempt = s.stu.attempt := by
  simp [placeClosingQuery, State.mapEntry]

theorem retryEntries_attempt (l : List UnsettledEntry) (s : State) :
    (retryEntries l s).stu.attempt = s.stu.attempt := by
  induction l generalizing s with
  | nil => rfl
  | cons e l ih =>
    refine (ih (retryEntry e s)).trans ?_
    unfold retryEntry
    dsimp only
    split <;> split <;> simp [placeEntryQuery_attempt, placeClosingQuery_attempt]

theorem settlementRetries_attempt {s : State} (hm : s.meter ≠ .inoperative) :
    (settlementRetries s).stu.attempt = (retryAttempt s).stu.attempt := by
  rw [settlementRetries_eq, if_neg hm, retryEntries_attempt]

/-- What the attempt's retry enqueued is there after the entries' retries. -/
theorem settlementRetries_enqueued {s : State} (hm : s.meter ≠ .inoperative) {taken : Bool} {topic : Nat}
    {payload : List Byte} (h : (retryAttempt s).cbi.enqueued taken topic payload) :
    (settlementRetries s).cbi.enqueued taken topic payload := by
  rw [settlementRetries_eq, if_neg hm]
  exact (retryEntries_retried _ _).1.took.enqueued List.not_mem_nil h

/-! ### What an entry's retry makes of the entry -/

theorem retryEntry_quiet {e : UnsettledEntry} (s : State) (hw : e.waits = false) (hc : e.closingWaits = false) :
    retryEntry e s = s := by
  simp [retryEntry, hw, hc]

theorem retryEntry_own {e : UnsettledEntry} (s : State) (hw : e.waits = true) (hc : e.closingWaits = false) :
    retryEntry e s = placeEntryQuery e s := by
  simp [retryEntry, hw, hc]

theorem retryEntry_closing {e : UnsettledEntry} (s : State) (hw : e.waits = false) (hc : e.closingWaits = true) :
    retryEntry e s = placeClosingQuery e s := by
  simp [retryEntry, hw, hc]

theorem retryEntries_quiet {l : List UnsettledEntry} (s : State)
    (h : ∀ e ∈ l, e.waits = false ∧ e.closingWaits = false) : retryEntries l s = s := by
  induction l with
  | nil => rfl
  | cons e l ih =>
    obtain ⟨he, hl⟩ := List.forall_mem_cons.1 h
    exact (congrArg (retryEntries l) (retryEntry_quiet s he.1 he.2)).trans (ih hl)

/-- Among entries that wait for nothing, one that waits is retried alone. -/
theorem retryEntries_one {front back : List UnsettledEntry} (e : UnsettledEntry) (s : State)
    (h : ∀ y ∈ front ++ back, y.waits = false ∧ y.closingWaits = false) :
    retryEntries (front ++ e :: back) s = retryEntry e s := by
  have hf : retryEntries front s = s := retryEntries_quiet s fun y hy => h y (List.mem_append_left _ hy)
  unfold retryEntries at hf ⊢
  rw [List.foldl_append, hf, List.foldl_cons]
  exact retryEntries_quiet _ fun y hy => h y (List.mem_append_right _ hy)

/-- An update of the entry of a trip number that no other entry bears. -/
theorem mapEntry_one {s : State} {front back : List UnsettledEntry} {e : UnsettledEntry}
    (g : UnsettledEntry → UnsettledEntry) (hu : s.stu.unsettled = front ++ e :: back)
    (h : ∀ y ∈ front ++ back, y.trip ≠ e.trip) :
    (s.mapEntry e.trip g).stu.unsettled = front ++ g e :: back := by
  have other : ∀ l : List UnsettledEntry, (∀ y ∈ l, y.trip ≠ e.trip) →
      l.map (fun y => if y.trip = e.trip then g y else y) = l := fun l hl =>
    (List.map_congr_left fun y hy => if_neg (hl y hy)).trans (List.map_id' l)
  simp [State.mapEntry, hu, other front fun y hy => h y (List.mem_append_left _ hy),
    other back fun y hy => h y (List.mem_append_right _ hy)]

section OneEntry

variable {s : State} {front back : List UnsettledEntry} {e : UnsettledEntry}

/-- The query of the entry's own cycle (R85; log 16). -/
theorem placeEntryQuery_spec (hu : s.stu.unsettled = front ++ e :: back)
    (h : ∀ y ∈ front ++ back, y.trip ≠ e.trip) (hl : s.cbi.boxes.length = 8) :
    ∃ ok, (placeEntryQuery e s).stu.unsettled = front ++ { e with
          queries := if ok then min (e.queries + 1) 255 else e.queries
          left := if ok then e.left - 1 else e.left
          timer := if ok then some 40 else none
          waits := !ok } :: back
      ∧ (placeEntryQuery e s).cbi.enqueued ok 81 (be 2 e.trip ++ be 1 e.attempt) := by
  have he := enqueue_enqueued s (queryFrame_routed e.trip e.attempt) hl
  have hu' : (enqueue s (queryFrame e.trip e.attempt)).1.stu.unsettled = front ++ e :: back := by simp [hu]
  unfold placeEntryQuery
  dsimp only
  split
  · rename_i hk
    exact ⟨true, mapEntry_one _ hu' h, hk ▸ he⟩
  · rename_i hk
    exact ⟨false, mapEntry_one _ hu' h, Bool.eq_false_of_not_eq_true hk ▸ he⟩

/-- The query of the closing's first stage (R87; log 16). -/
theorem placeClosingQuery_spec (hu : s.stu.unsettled = front ++ e :: back)
    (h : ∀ y ∈ front ++ back, y.trip ≠ e.trip) (hl : s.cbi.boxes.length = 8) :
    ∃ ok, (placeClosingQuery e s).stu.unsettled = front ++ { e with
          queries := if ok then min (e.queries + 1) 255 else e.queries
          closingWaits := !ok } :: back
      ∧ (placeClosingQuery e s).cbi.enqueued ok 81 (be 2 e.trip ++ be 1 e.attempt) := by
  have he := enqueue_enqueued s (queryFrame_routed e.trip e.attempt) hl
  have hu' : (enqueue s (queryFrame e.trip e.attempt)).1.stu.unsettled = front ++ e :: back := by simp [hu]
  refine ⟨(enqueue s (queryFrame e.trip e.attempt)).2.isSome, ?_, he⟩
  have hm := mapEntry_one (fun x => { x with
    queries := if (enqueue s (queryFrame e.trip e.attempt)).2.isSome
      then satAdd Config.maxQueryCount x.queries 1 else x.queries
    closingWaits := (enqueue s (queryFrame e.trip e.attempt)).2.isNone }) hu' h
  rw [Option.not_isSome]
  exact hm

/-- With one entry that waits the retries of the STU are its own. -/
theorem settlementRetries_one (hm : s.meter ≠ .inoperative) (hu : s.stu.unsettled = front ++ e :: back)
    (h : ∀ y ∈ front ++ back, y.waits = false ∧ y.closingWaits = false) :
    settlementRetries s = retryEntry e (retryAttempt s) := by
  rw [settlementRetries_eq, if_neg hm, retryAttempt_unsettled, hu, retryEntries_one e _ h]

end OneEntry

theorem settlementRetries_quiet {s : State} (h : ∀ e ∈ s.stu.unsettled, e.waits = false ∧ e.closingWaits = false) :
    (settlementRetries s).stu.unsettled = s.stu.unsettled := by
  rw [settlementRetries_eq]
  split
  · rfl
  · rw [retryEntries_quiet _ (by rwa [retryAttempt_unsettled]), retryAttempt_unsettled]

/-! ### The TOTALS_OFFER and the answers -/

@[simp] theorem State.totalsFrame_header (s : State) :
    s.totalsFrame.cls = 1 ∧ s.totalsFrame.topic = 82 ∧ s.totalsFrame.kind = .event := ⟨rfl, rfl, rfl⟩

theorem totalsRetry_retried (s : State) : State.Retried [] s (totalsRetry s) := by
  unfold totalsRetry
  split
  · exact (enqueue_retried s (f := s.totalsFrame) (by simp [clsAlarm])
      (by simp)).of_update (by simp [placeTotals, State.SameBase]) rfl rfl rfl
  · exact .refl [] s

@[simp] theorem totalsRetry_frame (s : State) :
    (totalsRetry s).trc = s.trc ∧ (totalsRetry s).stu = s.stu ∧ (totalsRetry s).cau.owed = s.cau.owed := by
  unfold totalsRetry
  split <;> simp [placeTotals]

/-- At the SAU a TOTALS_OFFER that waits changes its wait alone. -/
theorem totalsRetry_sau (s : State) :
    (totalsRetry s).sau = { s.sau with totalsWaits := (totalsRetry s).sau.totalsWaits } := by
  unfold totalsRetry
  split <;> simp [placeTotals]

/-- A TOTALS_OFFER that waits, while stage 2 lasts (R108). -/
theorem totalsRetry_enqueued {s : State} (h2 : s.stage2Lasts = true) (hw : s.sau.totalsWaits = true)
    (hl : s.cbi.boxes.length = 8) :
    (totalsRetry s).cbi.enqueued (!(totalsRetry s).sau.totalsWaits) 82 s.totalsFrame.payload := by
  have h := enqueue_enqueued s (f := s.totalsFrame) (by simp [clsAlarm]) hl
  simpa [totalsRetry, placeTotals, h2, hw] using h

theorem Sau.summary_setAnswer_journal (x : Sau) (a : Option Answer) :
    (x.setAnswer .journal a).answerOf .summary = x.answerOf .summary := rfl

/-- The frame of the part an answer stands at. -/
def AnswerKind.partFrame (k : AnswerKind) (a : Answer) : TxFrame := ⟨clsRoutine, k.topic, a.payload, .sau, .event⟩

theorem AnswerKind.partFrame_routed (k : AnswerKind) (a : Answer) : (k.partFrame a).cls ≠ clsAlarm := by
  simp [AnswerKind.partFrame, clsRoutine, clsAlarm]

/-- A part that waits is enqueued, and its mailbox noted; where none waits nothing happens. -/
theorem partRetry_eq (k : AnswerKind) (s : State) :
    partRetry k s = s ∨ ∃ a, s.sau.answerOf k = some a
      ∧ partRetry k s = (enqueue s (k.partFrame a)).1.setSau
          (s.sau.setAnswer k (some { a with box := (enqueue s (k.partFrame a)).2 })) := by
  unfold partRetry placePart
  split
  · split
    · exact .inl rfl
    · rename_i a ha
      exact .inr ⟨a, ha, by simp [AnswerKind.partFrame]⟩
  · exact .inl rfl

theorem partRetry_retried (k : AnswerKind) (s : State) : State.Retried [] s (partRetry k s) := by
  obtain h | ⟨a, -, h⟩ := partRetry_eq k s
  · rw [h]; exact .refl [] s
  · rw [h]
    exact (enqueue_retried s (k.partFrame_routed a) (by simp [AnswerKind.partFrame])).of_update
      (by simp [State.SameBase]) rfl rfl rfl

@[simp] theorem partRetry_frame (k : AnswerKind) (s : State) :
    (partRetry k s).trc = s.trc ∧ (partRetry k s).stu = s.stu ∧ (partRetry k s).cau.owed = s.cau.owed := by
  obtain h | ⟨a, -, h⟩ := partRetry_eq k s <;> simp [h]

/-- At the SAU a retry of a part changes its own answer alone. -/
theorem partRetry_sau (k : AnswerKind) (s : State) : ∃ a, (partRetry k s).sau = s.sau.setAnswer k a := by
  obtain h | ⟨a, -, h⟩ := partRetry_eq k s
  · exact ⟨s.sau.answerOf k, by rw [h]; cases k <;> rfl⟩
  · exact ⟨_, by rw [h]; rfl⟩

/-- A part that waits (R106). -/
theorem partRetry_enqueued {k : AnswerKind} {s : State} {a : Answer} (ha : s.sau.answerOf k = some a)
    (hb : a.box = none) (hl : s.cbi.boxes.length = 8) :
    ∃ b, (partRetry k s).sau.answerOf k = some { a with box := b }
      ∧ (partRetry k s).cbi.enqueued b.isSome k.topic a.payload := by
  have h := enqueue_enqueued s (k.partFrame_routed a) hl
  have he : partRetry k s = (enqueue s (k.partFrame a)).1.setSau
      (s.sau.setAnswer k (some { a with box := (enqueue s (k.partFrame a)).2 })) := by
    simp [partRetry, placePart, ha, hb, AnswerKind.partFrame]
  refine ⟨(enqueue s (k.partFrame a)).2, ?_, ?_⟩
  · rw [he]; cases k <;> rfl
  · rw [he]; exact h

/-! ### All retries, in their order -/

/-- The retries of the three state topics. -/
def topicRetries (s : State) : State := windowTalkState (windowShiftState (windowMeterState s))

/-- The retries after them. -/
def eventRetries (s : State) : State :=
  partRetry .summary (partRetry .journal (totalsRetry (settlementRetries s)))

theorem windowRetries_eq (s : State) : windowRetries s = eventRetries (topicRetries s) := rfl

theorem topicRetries_retried (s : State) : State.Retried [113, 115, 114] s (topicRetries s) :=
  (windowMeterState_retried s).trans <| (windowShiftState_retried _).trans (windowTalkState_retried _)

theorem eventRetries_retried (s : State) : State.Retried [] s (eventRetries s) :=
  (settlementRetries_retried s).1.trans <| (totalsRetry_retried _).trans <|
    (partRetry_retried .journal _).trans (partRetry_retried .summary _)

theorem windowRetries_retried (s : State) : State.Retried [113, 115, 114] s (windowRetries s) :=
  (topicRetries_retried s).trans (eventRetries_retried _)

@[simp] theorem topicRetries_frame (s : State) :
    (topicRetries s).stu = s.stu ∧ (topicRetries s).meter = s.meter
      ∧ (topicRetries s).trc = (windowMeterState s).trc := by
  have hm : (topicRetries s).trc = (windowMeterState s).trc := by simp [topicRetries]
  refine ⟨by simp [topicRetries], ?_, hm⟩
  rw [State.meter, hm]
  exact (windowMeterState_frame s).2.2.2.2.2.2

/-- At the SAU the state topics change the owed flag alone. -/
theorem topicRetries_sau (s : State) : (topicRetries s).sau = { s.sau with owed := (topicRetries s).sau.owed } := by
  simp only [topicRetries, (windowTalkState_frame _).2.2]
  rw [windowShiftState_sau, (windowMeterState_frame s).2.1]

@[simp] theorem eventRetries_frame (s : State) :
    (eventRetries s).trc = s.trc ∧ (eventRetries s).stu = (settlementRetries s).stu
      ∧ (eventRetries s).cau.owed = s.cau.owed := by
  obtain ⟨-, ht, -, hc⟩ := settlementRetries_retried s
  simp [eventRetries, ht, hc]

/-- At the SAU the frames that wait change their waits and answers alone. -/
theorem eventRetries_sau (s : State) : ∃ w j u, (eventRetries s).sau =
    { s.sau with totalsWaits := w, journalAnswer := j, summaryAnswer := u } := by
  obtain ⟨j, hj⟩ := partRetry_sau .journal (totalsRetry (settlementRetries s))
  obtain ⟨u, hu⟩ := partRetry_sau .summary (partRetry .journal (totalsRetry (settlementRetries s)))
  refine ⟨(totalsRetry (settlementRetries s)).sau.totalsWaits, j, u, ?_⟩
  rw [eventRetries, hu, hj, totalsRetry_sau, (settlementRetries_retried s).2.2.1]
  rfl

theorem windowRetries_sau (s : State) : ∃ b w j u, (windowRetries s).sau =
    { s.sau with owed := b, totalsWaits := w, journalAnswer := j, summaryAnswer := u } := by
  obtain ⟨w, j, u, h⟩ := eventRetries_sau (topicRetries s)
  exact ⟨_, w, j, u, by rw [windowRetries_eq, h, topicRetries_sau]⟩

@[simp] theorem windowRetries_frame (s : State) :
    (windowRetries s).trc.record = s.trc.record
      ∧ (windowRetries s).stu = (settlementRetries (topicRetries s)).stu := by
  simp [windowRetries_eq]

/-! ### What each frame that waited came to, after all retries -/

/-- What the STU enqueued again is there after the frames of the SAU. -/
theorem windowRetries_enqueued_of_settlement {s : State} {taken : Bool} {topic : Nat} {payload : List Byte}
    (h : (settlementRetries (topicRetries s)).cbi.enqueued taken topic payload) :
    (windowRetries s).cbi.enqueued taken topic payload :=
  ((totalsRetry_retried _).trans <| (partRetry_retried .journal _).trans
    (partRetry_retried .summary _)).took.enqueued List.not_mem_nil h

/-- What the attempt's retry makes of the attempt, and the frame it enqueued, are there after all retries. -/
theorem windowRetries_of_retryAttempt {s : State} (hm : s.meter ≠ .inoperative) {a : Attempt} {taken : Bool}
    {topic : Nat} {payload : List Byte} (ha : (retryAttempt (topicRetries s)).stu.attempt = some a)
    (he : (retryAttempt (topicRetries s)).cbi.enqueued taken topic payload) :
    (windowRetries s).stu.attempt = some a ∧ (windowRetries s).cbi.enqueued taken topic payload := by
  have hm' : (topicRetries s).meter ≠ .inoperative := by simpa using hm
  refine ⟨?_, windowRetries_enqueued_of_settlement (settlementRetries_enqueued hm' he)⟩
  rw [(windowRetries_frame s).2, settlementRetries_attempt hm', ha]

section Waiting

variable {s : State} (hl : s.cbi.boxes.length = 8)

include hl

theorem windowRetries_meterState (ho : s.trc.owed = true) :
    (windowRetries s).cbi.enqueued (!(windowRetries s).trc.owed) 113 s.meterFrame.payload := by
  have later := ((windowShiftState_retried (windowMeterState s)).trans (windowTalkState_retried _)).trans
    (eventRetries_retried _)
  have h := later.took.enqueued (by decide) (windowMeterState_enqueued ho hl)
  rw [windowRetries_eq, (eventRetries_frame _).1, (topicRetries_frame s).2.2]
  exact h

theorem windowRetries_shiftState (ho : s.sau.owed = true) :
    (windowRetries s).cbi.enqueued (!(windowRetries s).sau.owed) 115 s.shiftFrame.payload := by
  have hsau : (windowMeterState s).sau = s.sau := by simp
  have now := windowShiftState_enqueued (s := windowMeterState s) (hsau ▸ ho) ((windowMeterState_retried s).length hl)
  have later := (windowTalkState_retried (windowShiftState (windowMeterState s))).trans (eventRetries_retried _)
  have h := later.took.enqueued (by decide) now
  obtain ⟨w, j, u, he⟩ := eventRetries_sau (topicRetries s)
  have howed : (windowRetries s).sau.owed = (windowShiftState (windowMeterState s)).sau.owed := by
    rw [windowRetries_eq, he]
    simp [topicRetries]
  rw [howed]
  rwa [State.shiftFrame, hsau] at h

theorem windowRetries_talkState (ho : s.cau.owed = true) :
    (windowRetries s).cbi.enqueued (!(windowRetries s).cau.owed) 114 s.talkFrame.payload := by
  have now := windowTalkState_enqueued (s := windowShiftState (windowMeterState s)) (by simpa using ho)
    (((windowMeterState_retried s).trans (windowShiftState_retried _)).length hl)
  have h := (eventRetries_retried _).took.enqueued List.not_mem_nil now
  have hp : (windowShiftState (windowMeterState s)).talkFrame.payload = s.talkFrame.payload := by
    simp [State.talkFrame]
  rw [windowRetries_eq, (eventRetries_frame _).2.2]
  exact hp ▸ h

/-! The frames of the STU, with the meter not INOPERATIVE. -/

theorem windowRetries_queued (hm : s.meter ≠ .inoperative) {a : Attempt} (ha : s.stu.attempt = some a)
    (hs : a.state = .queued) (hp : a.placed = false) :
    ∃ ok, (windowRetries s).stu.attempt = some { a with placed := ok }
      ∧ (windowRetries s).cbi.enqueued ok 80 (be 2 a.trip ++ be 1 a.number ++ be 3 a.requested) := by
  have ha' : (topicRetries s).stu.attempt = some a := by simpa using ha
  obtain ⟨ok, hst, he⟩ := placeRequest_spec ha' ((topicRetries_retried s).length hl)
  rw [← retryAttempt_queued ha' hs hp] at hst he
  exact ⟨ok, windowRetries_of_retryAttempt hm (by rw [hst]) he⟩

theorem windowRetries_cancelling (hm : s.meter ≠ .inoperative) {a : Attempt} (ha : s.stu.attempt = some a)
    (hs : a.state = .cancelling) (hw : a.waits = true) :
    ∃ ok, (windowRetries s).stu.attempt = some { a with waits := !ok }
      ∧ (windowRetries s).cbi.enqueued ok 46 (be 2 a.trip ++ be 1 a.number) := by
  have ha' : (topicRetries s).stu.attempt = some a := by simpa using ha
  obtain ⟨ok, hst, he⟩ := placeCancel_spec ha' ((topicRetries_retried s).length hl)
  rw [← retryAttempt_cancelling ha' hs hw] at hst he
  exact ⟨ok, windowRetries_of_retryAttempt hm (by rw [hst]) he⟩

theorem windowRetries_uncertain (hm : s.meter ≠ .inoperative) {a : Attempt} (ha : s.stu.attempt = some a)
    (hs : a.state = .uncertain) (hw : a.waits = true) :
    ∃ ok, (windowRetries s).stu.attempt = some { a with
          queries := if ok then min (a.queries + 1) 255 else a.queries
          timer := if ok then some 40 else none
          waits := !ok }
      ∧ (windowRetries s).cbi.enqueued ok 81 (be 2 a.trip ++ be 1 a.number) := by
  have ha' : (topicRetries s).stu.attempt = some a := by simpa using ha
  obtain ⟨ok, hst, he⟩ := placeQuery_spec ha' ((topicRetries_retried s).length hl)
  rw [← retryAttempt_uncertain ha' hs hw] at hst he
  exact ⟨ok, windowRetries_of_retryAttempt hm (by rw [hst]) he⟩

section OneEntry

variable (hm : s.meter ≠ .inoperative) {front back : List UnsettledEntry} {e : UnsettledEntry}
  (hu : s.stu.unsettled = front ++ e :: back)
  (h : ∀ y ∈ front ++ back, y.trip ≠ e.trip ∧ y.waits = false ∧ y.closingWaits = false)

include hm hu h

/-- One entry of its trip number waits: the state its retry starts from, and that the retry is all the STU does besides the
attempt's. -/
theorem settlementRetries_entry :
    settlementRetries (topicRetries s) = retryEntry e (retryAttempt (topicRetries s))
      ∧ (retryAttempt (topicRetries s)).stu.unsettled = front ++ e :: back
      ∧ (retryAttempt (topicRetries s)).cbi.boxes.length = 8 := by
  have hu' : (topicRetries s).stu.unsettled = front ++ e :: back := by simpa using hu
  refine ⟨settlementRetries_one (by simpa using hm) hu' fun y hy => (h y hy).2, ?_, ?_⟩
  · rw [retryAttempt_unsettled, hu']
  · exact (retryAttempt_retried _).1.length ((topicRetries_retried s).length hl)

theorem windowRetries_entryQuery (hw : e.waits = true) (hc : e.closingWaits = false) :
    ∃ ok, (windowRetries s).stu.unsettled = front ++ { e with
          queries := if ok then min (e.queries + 1) 255 else e.queries
          left := if ok then e.left - 1 else e.left
          timer := if ok then some 40 else none
          waits := !ok } :: back
      ∧ (windowRetries s).cbi.enqueued ok 81 (be 2 e.trip ++ be 1 e.attempt) := by
  obtain ⟨hr, hu', hl'⟩ := settlementRetries_entry hl hm hu h
  obtain ⟨ok, hst, he⟩ := placeEntryQuery_spec hu' (fun y hy => (h y hy).1) hl'
  rw [← retryEntry_own _ hw hc, ← hr] at hst he
  exact ⟨ok, by rw [(windowRetries_frame s).2, hst], windowRetries_enqueued_of_settlement he⟩

theorem windowRetries_closingQuery (hw : e.waits = false) (hc : e.closingWaits = true) :
    ∃ ok, (windowRetries s).stu.unsettled = front ++ { e with
          queries := if ok then min (e.queries + 1) 255 else e.queries
          closingWaits := !ok } :: back
      ∧ (windowRetries s).cbi.enqueued ok 81 (be 2 e.trip ++ be 1 e.attempt) := by
  obtain ⟨hr, hu', hl'⟩ := settlementRetries_entry hl hm hu h
  obtain ⟨ok, hst, he⟩ := placeClosingQuery_spec hu' (fun y hy => (h y hy).1) hl'
  rw [← retryEntry_closing _ hw hc, ← hr] at hst he
  exact ⟨ok, by rw [(windowRetries_frame s).2, hst], windowRetries_enqueued_of_settlement he⟩

end OneEntry

/-! The frames of the SAU. -/

theorem windowRetries_totals (h2 : s.stage2Lasts = true) (hw : s.sau.totalsWaits = true) :
    (windowRetries s).cbi.enqueued (!(windowRetries s).sau.totalsWaits) 82 s.totalsFrame.payload := by
  have hsau : (settlementRetries (topicRetries s)).sau = { s.sau with owed := (topicRetries s).sau.owed } := by
    rw [(settlementRetries_retried _).2.2.1, topicRetries_sau]
  have hp : (settlementRetries (topicRetries s)).totalsFrame.payload = s.totalsFrame.payload := by
    simp [State.totalsFrame, hsau]
  have now := totalsRetry_enqueued (s := settlementRetries (topicRetries s))
    (by simpa [State.stage2Lasts, hsau] using h2) (by simpa [hsau] using hw)
    (((topicRetries_retried s).trans (settlementRetries_retried _).1).length hl)
  have h := ((partRetry_retried .journal _).trans (partRetry_retried .summary _)).took.enqueued List.not_mem_nil now
  obtain ⟨j, hj⟩ := partRetry_sau .journal (totalsRetry (settlementRetries (topicRetries s)))
  obtain ⟨u, hu⟩ := partRetry_sau .summary (partRetry .journal (totalsRetry (settlementRetries (topicRetries s))))
  have hwait : (windowRetries s).sau.totalsWaits
      = (totalsRetry (settlementRetries (topicRetries s))).sau.totalsWaits := by
    simp only [windowRetries_eq, eventRetries, hu, hj, Sau.setAnswer]
  rw [hwait, ← hp]
  exact h

/-- Before the parts are retried the answers stand as they stood. -/
theorem totalsRetry_answerOf (k : AnswerKind) :
    (totalsRetry (settlementRetries (topicRetries s))).sau.answerOf k = s.sau.answerOf k
      ∧ (totalsRetry (settlementRetries (topicRetries s))).cbi.boxes.length = 8 := by
  refine ⟨?_, (((topicRetries_retried s).trans (settlementRetries_retried _).1).trans
    (totalsRetry_retried _)).length hl⟩
  rw [totalsRetry_sau, (settlementRetries_retried _).2.2.1, topicRetries_sau]
  cases k <;> rfl

theorem windowRetries_journal {a : Answer} (ha : s.sau.journalAnswer = some a) (hb : a.box = none) :
    ∃ b, (windowRetries s).sau.journalAnswer = some { a with box := b }
      ∧ (windowRetries s).cbi.enqueued b.isSome 116 a.payload := by
  obtain ⟨hk, hl'⟩ := totalsRetry_answerOf hl .journal
  obtain ⟨b, hj, he⟩ := partRetry_enqueued (hk.trans ha) hb hl'
  obtain ⟨u, hu⟩ := partRetry_sau .summary (partRetry .journal (totalsRetry (settlementRetries (topicRetries s))))
  simp only [windowRetries_eq, eventRetries, hu, Sau.setAnswer]
  exact ⟨b, hj, (partRetry_retried .summary _).took.enqueued List.not_mem_nil he⟩

theorem windowRetries_summary {a : Answer} (ha : s.sau.summaryAnswer = some a) (hb : a.box = none) :
    ∃ b, (windowRetries s).sau.summaryAnswer = some { a with box := b }
      ∧ (windowRetries s).cbi.enqueued b.isSome 117 a.payload := by
  obtain ⟨hk, hl'⟩ := totalsRetry_answerOf hl .summary
  obtain ⟨j, hj⟩ := partRetry_sau .journal (totalsRetry (settlementRetries (topicRetries s)))
  have hk' : (partRetry .journal (totalsRetry (settlementRetries (topicRetries s)))).sau.answerOf .summary = some a := by
    rw [hj, Sau.summary_setAnswer_journal, hk]
    exact ha
  obtain ⟨b, hu, he⟩ := partRetry_enqueued hk' hb ((partRetry_retried .journal _).length hl')
  simp only [windowRetries_eq, eventRetries]
  exact ⟨b, hu, he⟩

end Waiting

end Sys2Proof.Machine

/-! The window end (R6 to R13): the closing at the ODU, the window record at its readers, the timers. -/

namespace Sys2Proof.Machine

/-! ### The closing at the ODU -/

section Close

variable (o : Odu) (gateway : Bool) {x : SensorSettings} (hx : o.settings = some x)

/-- The closing operation leaves the lines, the debt, the clock, the vehicle report and the settings. -/
@[simp] theorem Odu.close_frame :
    (o.close gateway).1.lineA = o.lineA ∧ (o.close gateway).1.lineB = o.lineB
      ∧ (o.close gateway).1.debt = o.debt ∧ (o.close gateway).1.clock = o.clock
      ∧ (o.close gateway).1.clockSet = o.clockSet ∧ (o.close gateway).1.report = o.report
      ∧ (o.close gateway).1.settings = o.settings := ⟨rfl, rfl, rfl, rfl, rfl, rfl, rfl⟩

theorem Odu.close_motion : (o.close gateway).1.motion = o.motion.next (o.close gateway).1.speed := rfl

theorem Motion.next_standing (v : Nat) : Motion.next .standing v = .moving ↔ 50 ≤ v := by
  by_cases h : 50 ≤ v <;> simp [Motion.next, Config.movingFrom, h]

theorem Motion.next_moving (v : Nat) : Motion.next .moving v = .standing ↔ v < 20 := by
  by_cases h : v < 20 <;> simp [Motion.next, Config.standingBelow, h]

include hx

theorem Odu.implausible_iff : o.implausible = true ↔ x.nmax < o.forward + o.reverse := by
  simp [Odu.implausible, Odu.nmax, Odu.total, hx]

theorem Odu.close_speed : (o.close gateway).1.speed = min ((o.close gateway).1.history.sum * 36000 / x.k) 2500 := by
  simp [Odu.close, speedOf, Odu.k, hx, Config.maxSpeed]

/-- The three runs (R11). -/
theorem Odu.close_implausibleRun : (o.close gateway).1.implausibleRun
    = if x.nmax < o.forward + o.reverse then min (o.implausibleRun + 1) 3 else 0 := by
  simp [Odu.close, runNext, o.implausible_iff hx, Config.implausibleRunMax]

omit hx in
theorem Odu.close_lossRun : (o.close gateway).1.lossRun
    = if gateway = true ∧ o.report.moving = true ∧ o.forward + o.reverse = 0 then min (o.lossRun + 1) 8 else 0 := by
  simp [Odu.close, runNext, Odu.lossEvidence, Odu.total, Config.lossRunMax, and_assoc]

theorem Odu.close_recoveryRun : (o.close gateway).1.recoveryRun
    = if o.forward + o.reverse ≤ x.nmax ∧ 1 ≤ o.forward + o.reverse ∧ (gateway = true → o.report.moving = true)
      then min (o.recoveryRun + 1) 16 else 0 := by
  have h : o.good gateway = true ↔ o.forward + o.reverse ≤ x.nmax ∧ 1 ≤ o.forward + o.reverse
      ∧ (gateway = true → o.report.moving = true) := by
    have hi : o.implausible = false ↔ o.forward + o.reverse ≤ x.nmax := by
      rw [← Bool.not_eq_true, o.implausible_iff hx, Nat.not_lt]
    have ht : decide (1 ≤ o.total) = true ↔ 1 ≤ o.forward + o.reverse := decide_eq_true_iff
    cases gateway <;> simp [Odu.good, ht, hi, and_assoc]
  simp [Odu.close, runNext, h, Config.recoveryRunMax]

/-- Table 1-5: evidence of a loss first, then by the state before. -/
theorem Odu.close_sensor :
    ((o.close gateway).1.lossRun = 8 → (o.close gateway).1.sensor = .lost)
      ∧ ((o.close gateway).1.lossRun ≠ 8 → o.sensor = .ok →
          (o.close gateway).1.sensor = if x.nmax < o.forward + o.reverse then .suspect else .ok)
      ∧ ((o.close gateway).1.lossRun ≠ 8 → o.sensor = .suspect →
          (o.close gateway).1.sensor = if (o.close gateway).1.implausibleRun = 3 then .fault
            else if x.nmax < o.forward + o.reverse then .suspect else .ok)
      ∧ ((o.close gateway).1.lossRun ≠ 8 → (o.sensor = .fault ∨ o.sensor = .lost) →
          (o.close gateway).1.sensor = if (o.close gateway).1.recoveryRun = 16 then .ok else o.sensor) := by
  have next : (o.close gateway).1.sensor = o.sensor.next o.implausible (o.close gateway).1.implausibleRun
      (o.close gateway).1.lossRun (o.close gateway).1.recoveryRun := rfl
  rw [next]
  refine ⟨fun h => ?_, fun h hs => ?_, fun h hs => ?_, fun h hs => ?_⟩
  · simp [SensorState.next, h, Config.lossRunMax]
  · simp [SensorState.next, h, hs, Config.lossRunMax, o.implausible_iff hx]
  · simp [SensorState.next, h, hs, Config.lossRunMax, Config.implausibleRunMax, o.implausible_iff hx]
  · obtain hs | hs := hs <;> simp [SensorState.next, h, hs, Config.lossRunMax, Config.recoveryRunMax] <;> rfl

/-- The window record (Table 1-7): the clamp to Nmax, and what it cuts off (R6). -/
theorem Odu.close_record : (o.close gateway).2 =
    ⟨o.sequence + 1, o.forward, o.reverse,
      if x.nmax < o.forward + o.reverse then min o.chargeable x.nmax else o.chargeable,
      if x.nmax < o.forward + o.reverse then o.chargeable - x.nmax else 0,
      (o.close gateway).1.sensor, (o.close gateway).1.motion, (o.close gateway).1.speed⟩ := by
  simp [Odu.close, Odu.passedOn, Odu.cutOff, o.implausible_iff hx, Odu.nmax, hx]

end Close

/-- With no settings and no pulses the window is empty and the runs are 0 (R16). -/
theorem Odu.close_unloaded {o : Odu} (hx : o.settings = none) (hf : o.forward = 0) (hr : o.reverse = 0)
    (hc : o.chargeable = 0) (hh : o.history = [0, 0, 0, 0]) (hs : o.sensor = .ok) :
    (o.close false).1 = { o with
      sequence := o.sequence + 1
      phase := o.phase + 1
      speed := 0
      motion := .standing
      implausibleRun := 0
      lossRun := 0
      recoveryRun := 0 } := by
  have motion : o.motion.next 0 = .standing := by cases o.motion <;> rfl
  have plausible : o.implausible = false := by simp [Odu.implausible, Odu.nmax, Odu.total, hx, hf, hr]
  simp [Odu.close, Odu.total, Odu.k, Odu.lossEvidence, Odu.good, plausible, runNext, speedOf, SensorState.next,
    Config.lossRunMax, hx, hf, hr, hc, hh, hs, motion]

/-! ### The window record at the FEN -/

theorem State.fareFrame_header (s : State) :
    s.fareFrame.cls = 3 ∧ s.fareFrame.topic = 112 ∧ s.fareFrame.kind = .state := ⟨rfl, rfl, rfl⟩

/-- Between two states the FEN took a window record: besides the FEN, the interface took a FARE_STATUS, the SAU counted a
rate-limited window, and a chime was requested. -/
structure State.FareWindowed (s t : State) : Prop where
  odu : t.odu = s.odu
  trc : t.trc = s.trc
  stu : t.stu = s.stu
  alm : t.alm = s.alm
  still : t.pld = s.pld ∧ t.rtm = s.rtm ∧ t.supply = s.supply ∧ t.pending = s.pending
  sau : ∃ n, t.sau = { s.sau with counters := { s.sau.counters with rateLimitedWindows := n } }
  cau : t.cau.floor = s.cau.floor ∧ t.cau.rearWaiting = s.cau.rearWaiting ∧ t.cau.owed = s.cau.owed
  lampTest : t.rsd.lampTest = s.rsd.lampTest
  listen : t.cbi.listen = s.cbi.listen
  took : s.cbi.TookFrames [112] t.cbi

namespace State.FareWindowed

theorem setFen (s : State) (x : Fen) : s.FareWindowed (s.setFen x) :=
  ⟨rfl, rfl, rfl, rfl, ⟨rfl, rfl, rfl, rfl⟩, ⟨_, rfl⟩, ⟨rfl, rfl, rfl⟩, rfl, rfl, .refl _ _⟩

theorem refl (s : State) : s.FareWindowed s := setFen s s.fen

theorem trans {s t u : State} (h : s.FareWindowed t) (g : t.FareWindowed u) : s.FareWindowed u where
  odu := g.odu.trans h.odu
  trc := g.trc.trans h.trc
  stu := g.stu.trans h.stu
  alm := g.alm.trans h.alm
  still := by simp [g.still, h.still]
  sau := by
    obtain ⟨n, hn⟩ := h.sau
    obtain ⟨m, hm⟩ := g.sau
    exact ⟨m, by rw [hm, hn]⟩
  cau := by simp [g.cau, h.cau]
  lampTest := g.lampTest.trans h.lampTest
  listen := g.listen.trans h.listen
  took := (h.took.trans g.took).mono (by simp)

/-- A part of the operation that a condition may leave out. -/
theorem ite {s t : State} {p : Prop} [Decidable p] (h : s.FareWindowed t) : s.FareWindowed (if p then t else s) := by
  split
  · exact h
  · exact refl s

end State.FareWindowed

theorem report_rateLimited_windowed (s : State) : s.FareWindowed (report Counters.addRateLimited s) := by
  unfold report
  split
  · exact .refl s
  · exact ⟨rfl, rfl, rfl, rfl, ⟨rfl, rfl, rfl, rfl⟩, ⟨_, rfl⟩, ⟨rfl, rfl, rfl⟩, rfl, rfl, .refl _ _⟩

@[simp] theorem Cau.nextChime_floor (c : Cau) :
    c.nextChime.floor = c.floor ∧ c.nextChime.rearWaiting = c.rearWaiting ∧ c.nextChime.owed = c.owed := by
  unfold Cau.nextChime
  split <;> simp

theorem requestChime_windowed (k : ChimeKind) (s : State) : s.FareWindowed (requestChime k s) := by
  unfold requestChime
  split
  · exact .refl s
  · split
    · exact ⟨rfl, rfl, rfl, rfl, ⟨rfl, rfl, rfl, rfl⟩, ⟨_, rfl⟩, by simp, rfl, rfl, .refl _ _⟩
    · exact .refl s

theorem windowFareStatus_windowed (s : State) : s.FareWindowed (windowFareStatus s) := by
  obtain ⟨hc, ht, -⟩ := s.fareFrame_header
  have took : s.cbi.TookFrames [112] (windowFareStatus s).cbi :=
    enqueue_took s (by simp [hc, clsAlarm]) (by simp [ht])
  exact ⟨by simp [windowFareStatus], by simp [windowFareStatus], by simp [windowFareStatus],
    by simp [windowFareStatus], by simp [windowFareStatus],
    ⟨s.sau.counters.rateLimitedWindows, by simp [windowFareStatus]⟩, by simp [windowFareStatus],
    by simp [windowFareStatus], by simp [windowFareStatus], took⟩

/-- The charge of a window leaves the fare record that R25 to R29 give; the FARE_STATUS changes no field of it. -/
theorem fareWindow_record (w : WindowRecord) (s : State) :
    (fareWindow w s).fen.record = if s.meter = .hired
      then ((((s.fen.record.advance w).drop Config.dropsPerWindow).1).takeStaged s.fen s.odu.k w.sequence).1
      else s.fen.record := by
  have status : ∀ t : State, (windowFareStatus t).fen.record = t.fen.record := fun t => by
    simp [windowFareStatus]
  unfold fareWindow
  split
  · dsimp only
    split <;> split <;> split <;> simp [status]
  · split <;> simp [status]

theorem fareWindow_windowed (w : WindowRecord) (s : State) : s.FareWindowed (fareWindow w s) := by
  unfold fareWindow
  split
  · exact ((State.FareWindowed.setFen s _).trans (report_rateLimited_windowed _).ite).trans
      (requestChime_windowed _ _).ite |>.trans (windowFareStatus_windowed _).ite
  · exact (windowFareStatus_windowed s).ite

/-! ### The window record at the SAU and the TRC -/

/-- The counters of the SAU after a window (R98). -/
def Sau.windowCounters (x : Sau) (w : WindowRecord) (hired : Bool) : Counters :=
  if x.shift = .opened then x.counters.addWindow (w.forward + w.reverse) w.discarded hired else x.counters

theorem shiftWindow_eq (w : WindowRecord) (s : State) :
    shiftWindow w s = s.setSau { s.sau with counters := s.sau.windowCounters w (s.meter == .hired) } := by
  unfold shiftWindow Sau.windowCounters
  split <;> rfl

/-- A window of unmetered-occupied travel that the SAU takes (R57, R99). -/
def State.unmetered (s : State) (w : WindowRecord) : Bool :=
  s.sau.shift != .closed && (s.meter == .free || s.meter == .booked) && w.motion == .moving
    && s.odu.report.rearSeat

/-- The trip record after a window (R56). -/
def State.windowTrip (s : State) (w : WindowRecord) : Option TripRecord :=
  if s.meter = .hired then s.trc.record.map (·.count w) else s.trc.record

theorem State.windowTrip_congr {s t : State} (w : WindowRecord) (h : t.trc = s.trc) :
    t.windowTrip w = s.windowTrip w := by
  unfold State.windowTrip State.meter
  rw [h]

/-- R56 in HIRED, R57 in FREE or BOOKED. -/
theorem tripWindow_eq (w : WindowRecord) (s : State) :
    tripWindow w s = (s.setTrc { s.trc with record := s.windowTrip w }).setSau { s.sau with
      counters := if s.unmetered w then s.sau.counters.addUnmetered else s.sau.counters } := by
  unfold tripWindow State.windowTrip
  by_cases hm : s.meter = .hired
  · have hu : s.unmetered w = false := by simp [State.unmetered, hm]
    simp only [hm, if_true, hu]
    rfl
  · by_cases hg : (s.meter = .free ∨ s.meter = .booked) ∧ w.motion = .moving ∧ s.odu.report.rearSeat
    · have hu : s.unmetered w = (s.sau.shift != .closed) := by simp [State.unmetered, hg]
      unfold report
      by_cases hc : s.sau.shift = .closed
      · simp only [if_neg hm, if_pos hg, hu, bne_iff_ne, ne_eq, if_pos hc, if_neg (not_not.2 hc)]
        rfl
      · simp only [if_neg hm, if_pos hg, hu, bne_iff_ne, ne_eq, if_neg hc, if_pos hc]
        rfl
    · have hu : s.unmetered w = false := by
        rw [← Bool.not_eq_true]
        simpa [State.unmetered, and_assoc] using fun _ => not_and.1 hg
      simp only [if_neg hm, if_neg hg, hu]
      rfl

section Record

variable (w : WindowRecord) (s : State)

/-- The window record at its readers, block by block. -/
@[simp] theorem windowRecord_frame :
    (windowRecord w s).odu = s.odu ∧ (windowRecord w s).stu = s.stu ∧ (windowRecord w s).alm = s.alm
      ∧ (windowRecord w s).pld = s.pld ∧ (windowRecord w s).rtm = s.rtm ∧ (windowRecord w s).supply = s.supply
      ∧ (windowRecord w s).pending = s.pending ∧ (windowRecord w s).cau.floor = s.cau.floor
      ∧ (windowRecord w s).cau.rearWaiting = s.cau.rearWaiting ∧ (windowRecord w s).cau.owed = s.cau.owed
      ∧ (windowRecord w s).rsd.lampTest = s.rsd.lampTest ∧ (windowRecord w s).cbi.listen = s.cbi.listen := by
  have h := fareWindow_windowed w s
  simp [windowRecord, tripWindow_eq, shiftWindow_eq, h.odu, h.stu, h.alm, h.still, h.cau, h.lampTest, h.listen]

theorem windowRecord_took : s.cbi.TookFrames [112] (windowRecord w s).cbi := by
  simpa [windowRecord, tripWindow_eq, shiftWindow_eq] using (fareWindow_windowed w s).took

theorem windowRecord_fen : (windowRecord w s).fen = (fareWindow w s).fen := by
  simp [windowRecord, tripWindow_eq, shiftWindow_eq]

theorem windowRecord_trc : (windowRecord w s).trc = { s.trc with record := s.windowTrip w } := by
  have h := (fareWindow_windowed w s).trc
  have hw : (shiftWindow w (fareWindow w s)).trc = s.trc := by rw [shiftWindow_eq]; exact h
  rw [windowRecord, tripWindow_eq, State.windowTrip_congr w hw, hw]
  rfl

/-- At the SAU the counters alone: those of R98, the rate-limited windows, and unmetered-occupied travel. -/
theorem windowRecord_sau : ∃ n m, (windowRecord w s).sau = { s.sau with
      counters := { s.sau.windowCounters w (s.meter == .hired) with rateLimitedWindows := n, unmeteredWindows := m } }
    ∧ m = if s.unmetered w then satAdd Config.max32 s.sau.counters.unmeteredWindows 1
        else s.sau.counters.unmeteredWindows := by
  have h := fareWindow_windowed w s
  obtain ⟨n, hn⟩ := h.sau
  have hm : (fareWindow w s).meter = s.meter := by rw [State.meter, h.trc]; rfl
  have counted : (shiftWindow w (fareWindow w s)).sau = { s.sau with counters :=
      { s.sau.windowCounters w (s.meter == .hired) with
        rateLimitedWindows := n, unmeteredWindows := s.sau.counters.unmeteredWindows } } := by
    rw [shiftWindow_eq, hn, hm]
    by_cases ho : s.sau.shift = .opened <;> cases s.meter == .hired <;>
      simp [Sau.windowCounters, Counters.addWindow, ho]
  have hu : (shiftWindow w (fareWindow w s)).unmetered w = s.unmetered w := by
    unfold State.unmetered
    rw [counted, shiftWindow_eq]
    simp [State.meter, h.trc, h.odu]
  rw [windowRecord, tripWindow_eq]
  refine ⟨n, _, ?_, rfl⟩
  rw [State.setSau_sau, counted]
  cases g : s.unmetered w <;> simp [hu, g, Counters.addUnmetered]

end Record

/-! ### The timers and the alarm switch -/

/-- The ALM after a window end: the hold count by the switch, where the image has one (R160); the repeat timer, while the
alarm is ACTIVE and not acknowledged (R163). -/
def State.windowAlm (closed : Bool) (s : State) : Alm :=
  { s.alm with
    holdCount := if s.pld.image = .invalid then s.alm.holdCount
      else if s.alm.state = .clear ∧ closed = true then s.alm.holdCount + 1 else 0
    repeatTimer := if s.alm.state = .active ∧ s.alm.acknowledged = false then s.alm.repeatTimer.map (· - 1)
      else s.alm.repeatTimer }

/-- An entry one window end on. -/
def UnsettledEntry.down (e : UnsettledEntry) : UnsettledEntry := { e with timer := e.timer.map (· - 1) }

/-- The STU after a window end's timers; they stand while the meter is INOPERATIVE (R90). -/
def State.windowStu (s : State) : Stu :=
  if s.meter = .inoperative then s.stu
  else
    { s.stu with
      attempt := s.stu.attempt.map fun a => { a with timer := a.timer.map (· - 1) }
      unsettled := s.stu.unsettled.map UnsettledEntry.down }

theorem repeatTick_switchSample (closed : Bool) (s : State) :
    repeatTick (switchSample closed s) = s.setAlm (s.windowAlm closed) := by
  have sampled : switchSample closed s = s.setAlm { s.alm with
      holdCount := if s.pld.image = .invalid then s.alm.holdCount
        else if s.alm.state = .clear ∧ closed = true then s.alm.holdCount + 1 else 0 } := by
    unfold switchSample
    split
    · rfl
    · rfl
  unfold repeatTick State.windowAlm
  rw [sampled]
  by_cases h : s.alm.state = .active ∧ s.alm.acknowledged = false
  · simp [h, tick, State.setAlm]
  · simp [h, State.setAlm]

theorem settlementTimers_eq (s : State) : settlementTimers s = s.setStu s.windowStu := by
  unfold settlementTimers State.windowStu
  split <;> rfl

/-- The timers of a window end touch five blocks. -/
theorem windowTimers_eq (closed : Bool) (s : State) : windowTimers closed s = { s with
    alm := s.windowAlm closed
    stu := s.windowStu
    sau := { s.sau with totalsTimer := s.sau.totalsTimer.map (· - 1) }
    rsd := { s.rsd with lampTest := s.rsd.lampTest.map (· - 1) }
    cbi := { s.cbi with listen := s.cbi.listen.map fun n => min (n + 1) 8 } } := by
  rw [windowTimers, repeatTick_switchSample, settlementTimers_eq]
  rfl

/-! ### The window end up to its retries -/

/-- The state that a window end hands to the retries: the window closed, its record taken, the timers counted. -/
def windowCounted (closed : Bool) (s : State) : State :=
  windowTimers closed (windowRecord (s.odu.close s.hasGateway).2 (s.setOdu (s.odu.close s.hasGateway).1))

theorem windowClosed_eq (closed : Bool) (s : State) :
    windowClosed closed s = dormancyTick (windowRetries (windowCounted closed s)) := rfl

section Counted

variable (closed : Bool) (s : State)

theorem windowCounted_frame :
    (windowCounted closed s).odu = (s.odu.close s.hasGateway).1 ∧ (windowCounted closed s).pld = s.pld
      ∧ (windowCounted closed s).rtm = s.rtm ∧ (windowCounted closed s).supply = s.supply
      ∧ (windowCounted closed s).pending = s.pending ∧ (windowCounted closed s).cau.floor = s.cau.floor
      ∧ (windowCounted closed s).cau.rearWaiting = s.cau.rearWaiting
      ∧ (windowCounted closed s).cau.owed = s.cau.owed
      ∧ (windowCounted closed s).rsd.lampTest = s.rsd.lampTest.map (· - 1)
      ∧ (windowCounted closed s).cbi.listen = s.cbi.listen.map fun n => min (n + 1) 8 := by
  simp [windowCounted, windowTimers_eq]

theorem windowCounted_took : s.cbi.TookFrames [112] (windowCounted closed s).cbi := by
  have h := windowRecord_took (s.odu.close s.hasGateway).2 (s.setOdu (s.odu.close s.hasGateway).1)
  have listen : ∀ (c : Cbi) (n : Option Nat), c.TookFrames [] { c with listen := n } := fun c n =>
    .of_same [] rfl rfl rfl
  rw [windowCounted, windowTimers_eq]
  exact (h.trans (listen _ _)).mono (by simp)

theorem windowCounted_trc :
    (windowCounted closed s).trc = { s.trc with record := s.windowTrip (s.odu.close s.hasGateway).2 } := by
  have h : (s.setOdu (s.odu.close s.hasGateway).1).trc = s.trc := rfl
  rw [windowCounted, windowTimers_eq, windowRecord_trc, State.windowTrip_congr _ h, h]

@[simp] theorem windowCounted_meter : (windowCounted closed s).meter = s.meter := by
  rw [State.meter, windowCounted_trc]
  rfl

theorem windowCounted_alm : (windowCounted closed s).alm = s.windowAlm closed := by
  simp [windowCounted, windowTimers_eq, State.windowAlm]

theorem windowCounted_stu : (windowCounted closed s).stu = s.windowStu := by
  have hm : (windowRecord (s.odu.close s.hasGateway).2 (s.setOdu (s.odu.close s.hasGateway).1)).meter = s.meter := by
    rw [State.meter, windowRecord_trc]
    rfl
  rw [windowCounted, windowTimers_eq]
  unfold State.windowStu
  rw [hm, (windowRecord_frame _ _).2.1]
  rfl

theorem windowCounted_fen : (windowCounted closed s).fen.record
    = (fareWindow (s.odu.close s.hasGateway).2 s).fen.record := by
  have hm : (s.setOdu (s.odu.close s.hasGateway).1).meter = s.meter := rfl
  rw [windowCounted, windowTimers_eq, windowRecord_fen, fareWindow_record, fareWindow_record, hm]
  rfl

theorem windowCounted_sau : ∃ n m, (windowCounted closed s).sau = { s.sau with
      counters := { s.sau.windowCounters (s.odu.close s.hasGateway).2 (s.meter == .hired) with
        rateLimitedWindows := n, unmeteredWindows := m }
      totalsTimer := s.sau.totalsTimer.map (· - 1) }
    ∧ m = if s.unmetered (s.odu.close s.hasGateway).2
        then satAdd Config.max32 s.sau.counters.unmeteredWindows 1 else s.sau.counters.unmeteredWindows := by
  obtain ⟨n, m, h, hm⟩ :=
    windowRecord_sau (s.odu.close s.hasGateway).2 (s.setOdu (s.odu.close s.hasGateway).1)
  refine ⟨n, m, ?_, hm⟩
  rw [windowCounted, windowTimers_eq, h]
  rfl

end Counted

/-! ### The whole window end -/

/-- A window end at the dormancy timer changes that timer alone. -/
@[simp] theorem dormancyTick_frame (s : State) :
    (dormancyTick s).odu = s.odu ∧ (dormancyTick s).fen = s.fen ∧ (dormancyTick s).trc = s.trc
      ∧ (dormancyTick s).stu = s.stu ∧ (dormancyTick s).sau = s.sau ∧ (dormancyTick s).rsd = s.rsd
      ∧ (dormancyTick s).cau = s.cau ∧ (dormancyTick s).alm = s.alm ∧ (dormancyTick s).pld = s.pld
      ∧ (dormancyTick s).rtm = s.rtm ∧ (dormancyTick s).supply = s.supply
      ∧ (dormancyTick s).pending = s.pending ∧ (dormancyTick s).cbi.boxes = s.cbi.boxes
      ∧ (dormancyTick s).cbi.listen = s.cbi.listen ∧ (dormancyTick s).cbi.dormant = s.cbi.dormant := by
  unfold dormancyTick
  split <;> simp

theorem dormancyTick_timer (s : State) : (dormancyTick s).cbi.dormancyTimer =
    if s.cbi.dormant = true then s.cbi.dormancyTimer
    else if s.quiet = true then min (s.cbi.dormancyTimer + 1) 240 else 0 := by
  unfold dormancyTick
  split <;> simp [Config.dormancyWindows]

@[simp] theorem dormancyTick_enqueued (s : State) (taken : Bool) (topic : Nat) (payload : List Byte) :
    (dormancyTick s).cbi.enqueued taken topic payload ↔ s.cbi.enqueued taken topic payload :=
  Cbi.enqueued_of_boxes (by simp)

theorem windowEnd_running {s : State} (closed : Bool) (hr : s.running = true) :
    windowEnd closed s = windowClosed closed (settleDue s) := by
  simp [windowEnd, hr]

/-- With no second end due, taking what is due leaves the whole base. -/
theorem settleDue_base_of_phase {s : State} (hp : s.odu.phase < 4) : s.SameBase (settleDue s) := by
  have h : secondEnd s = s := by simp [secondEnd, Config.windowsPerSecond, Nat.ne_of_lt hp]
  have base := settleDue_base s
  rwa [h] at base

section Closed

variable (closed : Bool) (s : State)

@[simp] theorem windowClosed_base :
    (windowClosed closed s).odu = (s.odu.close s.hasGateway).1 ∧ (windowClosed closed s).pld = s.pld
      ∧ (windowClosed closed s).rtm = s.rtm ∧ (windowClosed closed s).supply = s.supply
      ∧ (windowClosed closed s).pending = s.pending := by
  obtain ⟨ho, -, hp, hr, hs, hq⟩ := (windowRetries_retried (windowCounted closed s)).base
  obtain ⟨co, cp, cr, cs, cq, -⟩ := windowCounted_frame closed s
  rw [windowClosed_eq]
  simp [ho, hp, hr, hs, hq, co, cp, cr, cs, cq]

/-- The timers outside the STU, and the fare and trip records. -/
@[simp] theorem windowClosed_counted :
    (windowClosed closed s).rsd.lampTest = s.rsd.lampTest.map (· - 1)
      ∧ (windowClosed closed s).cbi.listen = s.cbi.listen.map (fun n => min (n + 1) 8)
      ∧ (windowClosed closed s).alm = s.windowAlm closed
      ∧ (windowClosed closed s).fen.record = (fareWindow (s.odu.close s.hasGateway).2 s).fen.record
      ∧ (windowClosed closed s).trc.record = s.windowTrip (s.odu.close s.hasGateway).2 := by
  have h := windowRetries_retried (windowCounted closed s)
  obtain ⟨-, -, -, -, -, -, -, -, hl, hc⟩ := windowCounted_frame closed s
  rw [windowClosed_eq]
  simp [h.lampTest, h.listen, h.alm, h.base.2.1, hl, hc, windowCounted_alm, windowCounted_fen, windowCounted_trc]

theorem windowClosed_sau : ∃ n b w j u, (windowClosed closed s).sau = { s.sau with
      counters := { s.sau.windowCounters (s.odu.close s.hasGateway).2 (s.meter == .hired) with
        rateLimitedWindows := n
        unmeteredWindows := if s.unmetered (s.odu.close s.hasGateway).2
          then satAdd Config.max32 s.sau.counters.unmeteredWindows 1 else s.sau.counters.unmeteredWindows }
      totalsTimer := s.sau.totalsTimer.map (· - 1)
      owed := b
      totalsWaits := w
      journalAnswer := j
      summaryAnswer := u } := by
  obtain ⟨n, m, h, hm⟩ := windowCounted_sau closed s
  obtain ⟨b, w, j, u, g⟩ := windowRetries_sau (windowCounted closed s)
  refine ⟨n, b, w, j, u, ?_⟩
  rw [windowClosed_eq, (dormancyTick_frame _).2.2.2.2.1, g, h, hm]

theorem windowClosed_stu :
    (windowClosed closed s).stu = (settlementRetries (topicRetries (windowCounted closed s))).stu := by
  rw [windowClosed_eq]
  simp

end Closed

/-- A placed attempt that waits for nothing: its timer counts. -/
theorem windowClosed_attempt (closed : Bool) {s : State} (hm : s.meter ≠ .inoperative) {a : Attempt}
    (ha : s.stu.attempt = some a) (hp : a.placed = true) (hw : a.waits = false) :
    (windowClosed closed s).stu.attempt = some { a with timer := a.timer.map (· - 1) } := by
  have counted : (topicRetries (windowCounted closed s)).stu.attempt = some { a with timer := a.timer.map (· - 1) } := by
    simp [windowCounted_stu, State.windowStu, hm, ha]
  rw [windowClosed_stu, settlementRetries_attempt (by simpa using hm), retryAttempt_quiet counted hp hw, counted]

/-- Entries that wait for nothing: their timers count. -/
theorem windowClosed_unsettled (closed : Bool) {s : State} (hm : s.meter ≠ .inoperative)
    (h : ∀ e ∈ s.stu.unsettled, e.waits = false ∧ e.closingWaits = false) :
    (windowClosed closed s).stu.unsettled = s.stu.unsettled.map UnsettledEntry.down := by
  have counted : (topicRetries (windowCounted closed s)).stu.unsettled = s.stu.unsettled.map UnsettledEntry.down := by
    simp [windowCounted_stu, State.windowStu, hm]
  rw [windowClosed_stu, settlementRetries_quiet, counted]
  rw [counted]
  exact List.forall_mem_map.2 h

/-! ### The counters of a window -/

section Counters

variable (x : Sau) (w : WindowRecord) (hired : Bool)

theorem Sau.windowCounters_allPulses : (x.windowCounters w hired).allPulses = if x.shift = .opened
    then min (x.counters.allPulses + (w.forward + w.reverse)) 4294967295 else x.counters.allPulses := by
  unfold Sau.windowCounters
  split <;> cases hired <;> rfl

theorem Sau.windowCounters_discardedPulses : (x.windowCounters w hired).discardedPulses = if x.shift = .opened
    then min (x.counters.discardedPulses + w.discarded) 4294967295 else x.counters.discardedPulses := by
  unfold Sau.windowCounters
  split <;> cases hired <;> rfl

theorem Sau.windowCounters_hiredWindows : (x.windowCounters w hired).hiredWindows
    = if x.shift = .opened ∧ hired = true
      then min (x.counters.hiredWindows + 1) 4294967295 else x.counters.hiredWindows := by
  unfold Sau.windowCounters
  split <;> cases hired <;> simp [*, Counters.addWindow, satAdd, Config.max32]

theorem Sau.windowCounters_hiredPulses : (x.windowCounters w hired).hiredPulses
    = if x.shift = .opened ∧ hired = true
      then min (x.counters.hiredPulses + (w.forward + w.reverse)) 4294967295 else x.counters.hiredPulses := by
  unfold Sau.windowCounters
  split <;> cases hired <;> simp [*, Counters.addWindow, satAdd, Config.max32]

end Counters

theorem State.unmetered_iff (s : State) (w : WindowRecord) : s.unmetered w = true ↔
    s.sau.shift ≠ .closed ∧ (s.meter = .free ∨ s.meter = .booked) ∧ w.motion = .moving
      ∧ s.odu.report.rearSeat = true := by
  simp [State.unmetered, and_assoc]

/-! ### Dormancy at a window end -/

/-- Up to the dormancy timer an AWAKE part stays AWAKE, and one that is DORMANT in the end was so all along. -/
theorem windowRetries_dormancy (closed : Bool) (s : State)
    (h : s.cbi.dormant = false ∨ (windowRetries (windowCounted closed s)).cbi.dormant = true) :
    (windowRetries (windowCounted closed s)).cbi.dormant = s.cbi.dormant
      ∧ (windowRetries (windowCounted closed s)).cbi.dormancyTimer = s.cbi.dormancyTimer :=
  ((windowCounted_took closed s).trans (windowRetries_retried _).took).dormancy h

theorem windowClosed_dormant (closed : Bool) {s : State} (hd : (windowClosed closed s).cbi.dormant = true) :
    (windowClosed closed s).cbi.dormancyTimer = s.cbi.dormancyTimer := by
  rw [windowClosed_eq] at hd ⊢
  have hu : (windowRetries (windowCounted closed s)).cbi.dormant = true := by simpa using hd
  rw [dormancyTick_timer, if_pos hu, (windowRetries_dormancy closed s (.inr hu)).2]

theorem windowClosed_awake (closed : Bool) {s : State} (hd : s.cbi.dormant = false) :
    (windowClosed closed s).cbi.dormancyTimer =
      if s.hasGateway = true ∧ s.odu.report.ignition = false ∧ s.sau.shift = .closed ∧ s.alm.state = .clear
          ∧ (∀ m ∈ (windowClosed closed s).cbi.boxes, m.state = .empty)
        then min (s.cbi.dormancyTimer + 1) 240 else 0 := by
  obtain ⟨hu, ht⟩ := windowRetries_dormancy closed s (.inl hd)
  obtain ⟨n, b, w, j, u, hs⟩ := windowClosed_sau closed s
  obtain ⟨ho, hp, -⟩ := windowClosed_base closed s
  have ha := (windowClosed_counted closed s).2.2.1
  rw [windowClosed_eq] at hs ho hp ha ⊢
  simp only [dormancyTick_frame] at hs ho hp ha ⊢
  have hq : (windowRetries (windowCounted closed s)).quiet = true ↔ s.hasGateway = true
      ∧ s.odu.report.ignition = false ∧ s.sau.shift = .closed ∧ s.alm.state = .clear
      ∧ ∀ m ∈ (windowRetries (windowCounted closed s)).cbi.boxes, m.state = .empty := by
    simp [State.quiet, State.hasGateway, hs, ho, hp, ha, State.windowAlm, and_assoc]
  rw [dormancyTick_timer, hu, hd, ht]
  simp only [hq, Bool.false_eq_true, if_false]

/-! ### What waits at a window end, and what it comes to -/

section Waiting

variable (closed : Bool) {s : State} (hl : s.cbi.boxes.length = 8)

/-- What the retries enqueued is there after the window end. -/
theorem windowClosed_enqueued {taken : Bool} {topic : Nat} {payload : List Byte} :
    (windowClosed closed s).cbi.enqueued taken topic payload
      ↔ (windowRetries (windowCounted closed s)).cbi.enqueued taken topic payload := by
  rw [windowClosed_eq, dormancyTick_enqueued]

/-- The other blocks after the window end are those after the retries. -/
theorem windowClosed_blocks : (windowClosed closed s).trc = (windowRetries (windowCounted closed s)).trc
    ∧ (windowClosed closed s).sau = (windowRetries (windowCounted closed s)).sau
    ∧ (windowClosed closed s).cau = (windowRetries (windowCounted closed s)).cau
    ∧ (windowClosed closed s).stu = (windowRetries (windowCounted closed s)).stu := by
  simp [windowClosed_eq]

include hl

theorem windowCounted_length : (windowCounted closed s).cbi.boxes.length = 8 :=
  (windowCounted_took closed s).length.trans hl

theorem windowClosed_meterState (ho : s.trc.owed = true) :
    (windowClosed closed s).cbi.enqueued (!(windowClosed closed s).trc.owed) 113 ([codeByte s.meter.code]
      ++ be 2 s.trc.lastTrip ++ [if s.trc.restricted then 1 else 0, codeByte s.sau.shift.code]) := by
  have h := windowRetries_meterState (windowCounted_length closed hl) (by simpa [windowCounted_trc] using ho)
  obtain ⟨n, m, hs, -⟩ := windowCounted_sau closed s
  rw [windowClosed_enqueued, (windowClosed_blocks closed).1]
  simpa [State.meterFrame, hs, windowCounted_trc, yesByte] using h

theorem windowClosed_shiftState (ho : s.sau.owed = true) :
    (windowClosed closed s).cbi.enqueued (!(windowClosed closed s).sau.owed) 115 ([codeByte s.sau.shift.code,
      codeByte s.sau.stage] ++ be 2 s.sau.number ++ be 4 s.sau.openTime.toNat
      ++ [codeByte (recCode (s.sau.summary.reconciliation.map (·.result))),
        if s.sau.retainedLost then 1 else 0]) := by
  obtain ⟨n, m, hs, -⟩ := windowCounted_sau closed s
  have h := windowRetries_shiftState (windowCounted_length closed hl) (by simpa [hs] using ho)
  rw [windowClosed_enqueued, (windowClosed_blocks closed).2.1]
  simpa [State.shiftFrame, hs, yesByte] using h

theorem windowClosed_talkState (ho : s.cau.owed = true) :
    (windowClosed closed s).cbi.enqueued (!(windowClosed closed s).cau.owed) 114
      [codeByte s.cau.floor.code, if s.cau.rearWaiting then 1 else 0] := by
  obtain ⟨-, -, -, -, -, hf, hw, hc, -⟩ := windowCounted_frame closed s
  have h := windowRetries_talkState (windowCounted_length closed hl) (hc.trans ho)
  rw [windowClosed_enqueued, (windowClosed_blocks closed).2.2.1]
  simpa [State.talkFrame, hf, hw, yesByte] using h

theorem windowClosed_attemptFrame (hm : s.meter ≠ .inoperative) {a : Attempt} (ha : s.stu.attempt = some a) :
    (a.state = .queued → a.placed = false →
        ∃ ok, (windowClosed closed s).stu.attempt = some { a with timer := a.timer.map (· - 1), placed := ok }
          ∧ (windowClosed closed s).cbi.enqueued ok 80 (be 2 a.trip ++ be 1 a.number ++ be 3 a.requested))
      ∧ (a.state = .cancelling → a.waits = true →
        ∃ ok, (windowClosed closed s).stu.attempt = some { a with timer := a.timer.map (· - 1), waits := !ok }
          ∧ (windowClosed closed s).cbi.enqueued ok 46 (be 2 a.trip ++ be 1 a.number))
      ∧ (a.state = .uncertain → a.waits = true →
        ∃ ok, (windowClosed closed s).stu.attempt = some { a with
            queries := if ok then min (a.queries + 1) 255 else a.queries
            timer := if ok then some 40 else none
            waits := !ok }
          ∧ (windowClosed closed s).cbi.enqueued ok 81 (be 2 a.trip ++ be 1 a.number)) := by
  have hm' : (windowCounted closed s).meter ≠ .inoperative := by simpa using hm
  have ha' : (windowCounted closed s).stu.attempt = some { a with timer := a.timer.map (· - 1) } := by
    simp [windowCounted_stu, State.windowStu, hm, ha]
  have hl' := windowCounted_length closed hl
  simp only [windowClosed_enqueued, (windowClosed_blocks closed).2.2.2]
  exact ⟨fun hs hp => windowRetries_queued hl' hm' ha' hs hp,
    fun hs hw => windowRetries_cancelling hl' hm' ha' hs hw,
    fun hs hw => windowRetries_uncertain (a := { a with timer := a.timer.map (· - 1) }) hl' hm' ha' hs hw⟩

theorem windowClosed_entryFrame (hm : s.meter ≠ .inoperative) {front back : List UnsettledEntry}
    {e : UnsettledEntry} (hu : s.stu.unsettled = front ++ e :: back)
    (h : ∀ y ∈ front ++ back, y.trip ≠ e.trip ∧ y.waits = false ∧ y.closingWaits = false) :
    (e.waits = true → e.closingWaits = false →
        ∃ ok, (windowClosed closed s).stu.unsettled = front.map UnsettledEntry.down ++ { e with
            queries := if ok then min (e.queries + 1) 255 else e.queries
            left := if ok then e.left - 1 else e.left
            timer := if ok then some 40 else none
            waits := !ok } :: back.map UnsettledEntry.down
          ∧ (windowClosed closed s).cbi.enqueued ok 81 (be 2 e.trip ++ be 1 e.attempt))
      ∧ (e.waits = false → e.closingWaits = true →
        ∃ ok, (windowClosed closed s).stu.unsettled = front.map UnsettledEntry.down ++ { e with
            queries := if ok then min (e.queries + 1) 255 else e.queries
            timer := e.timer.map (· - 1)
            closingWaits := !ok } :: back.map UnsettledEntry.down
          ∧ (windowClosed closed s).cbi.enqueued ok 81 (be 2 e.trip ++ be 1 e.attempt)) := by
  have hm' : (windowCounted closed s).meter ≠ .inoperative := by simpa using hm
  have hu' : (windowCounted closed s).stu.unsettled
      = front.map UnsettledEntry.down ++ e.down :: back.map UnsettledEntry.down := by
    simp [windowCounted_stu, State.windowStu, hm, hu]
  have h' : ∀ y ∈ front.map UnsettledEntry.down ++ back.map UnsettledEntry.down,
      y.trip ≠ e.down.trip ∧ y.waits = false ∧ y.closingWaits = false := by
    rw [← List.map_append]
    exact List.forall_mem_map.2 h
  have hl' := windowCounted_length closed hl
  simp only [windowClosed_enqueued, (windowClosed_blocks closed).2.2.2]
  exact ⟨fun hw hc => windowRetries_entryQuery (e := e.down) hl' hm' hu' h' hw hc,
    fun hw hc => windowRetries_closingQuery (e := e.down) hl' hm' hu' h' hw hc⟩

theorem windowClosed_totals (hs : s.sau.shift = .closing) (h2 : s.sau.stage = 2)
    (ht : s.sau.totalsTimer.isSome = true) (hw : s.sau.totalsWaits = true) :
    (windowClosed closed s).cbi.enqueued (!(windowClosed closed s).sau.totalsWaits) 82 (be 2 s.sau.number
      ++ be 3 s.sau.counters.cardApprovals ++ be 6 (s.sau.counters.card + s.sau.counters.cardTips)) := by
  obtain ⟨n, m, hc, -⟩ := windowCounted_sau closed s
  have h := windowRetries_totals (windowCounted_length closed hl)
    (by simp [State.stage2Lasts, hc, hs, h2, ht]) (by simp [hc, hw])
  rw [windowClosed_enqueued, (windowClosed_blocks closed).2.1]
  simpa [State.totalsFrame, hc, Sau.windowCounters, hs] using h

theorem windowClosed_journal {a : Answer} (ha : s.sau.journalAnswer = some a) (hb : a.box = none) :
    ∃ b, (windowClosed closed s).sau.journalAnswer = some { a with box := b }
      ∧ (windowClosed closed s).cbi.enqueued b.isSome 116 a.payload := by
  obtain ⟨n, m, hc, -⟩ := windowCounted_sau closed s
  simp only [windowClosed_enqueued, (windowClosed_blocks closed).2.1]
  exact windowRetries_journal (windowCounted_length closed hl) (by rw [hc]; exact ha) hb

theorem windowClosed_summary {a : Answer} (ha : s.sau.summaryAnswer = some a) (hb : a.box = none) :
    ∃ b, (windowClosed closed s).sau.summaryAnswer = some { a with box := b }
      ∧ (windowClosed closed s).cbi.enqueued b.isSome 117 a.payload := by
  obtain ⟨n, m, hc, -⟩ := windowCounted_sau closed s
  simp only [windowClosed_enqueued, (windowClosed_blocks closed).2.1]
  exact windowRetries_summary (windowCounted_length closed hl) (by rw [hc]; exact ha) hb

end Waiting

/-! ### The statement -/

/-- With no second end due, a window end is the closing of the window at the state with the rest of what is due taken. -/
theorem exec_windowEnd {s : State} (closed : Bool) (hr : s.running = true) :
    exec (.windowEnd closed) s = .next (windowClosed closed (settleDue s)) := by
  rw [← windowEnd_running closed hr]
  rfl

/-- With nothing due before it. -/
theorem exec_windowEnd_settled {s : State} (closed : Bool) (hr : s.running = true) (hq : settleDue s = s) :
    exec (.windowEnd closed) s = .next (windowClosed closed s) := by
  rw [exec_windowEnd closed hr, hq]

/-- Settles O5: the closing at the ODU, the window record and the timers, and the retries, each by the lemmas above. -/
theorem windowEndClosesTheWindow : Obligations.WindowEndClosesTheWindow := by
  unfold Obligations.WindowEndClosesTheWindow
  refine ⟨fun c s x hr hp hx => ?_, fun c s hr hp hx hg hf hv hc hh hs => ?_, fun c s hr hq => ?_⟩
  · obtain ⟨ho, -, hpl, hrt, hsu, hpe⟩ := settleDue_base_of_phase hp
    have gateway : (settleDue s).hasGateway = s.hasGateway := by simp only [State.hasGateway, hpl]
    obtain ⟨bo, bp, br, bs, bq⟩ := windowClosed_base c (settleDue s)
    rw [ho, gateway] at bo
    obtain ⟨lost, ok, suspect, recovered⟩ := s.odu.close_sensor s.hasGateway hx
    refine ⟨_, exec_windowEnd c hr, ?_⟩
    rw [bo, bp, br, bs, bq]
    refine ⟨rfl, rfl, rfl, rfl, rfl, rfl, s.odu.close_speed _ hx, ?_, ?_, s.odu.close_implausibleRun _ hx,
      s.odu.close_lossRun _, s.odu.close_recoveryRun _ hx, lost, ok, suspect, recovered, rfl, rfl, rfl, rfl, rfl,
      rfl, rfl, hpl, hrt, hsu, hpe, fun hq => ?_⟩
    · intro hm
      rw [s.odu.close_motion, hm]
      exact Motion.next_standing _
    · intro hm
      rw [s.odu.close_motion, hm]
      exact Motion.next_moving _
    · rw [hq]
      obtain ⟨lamp, listen, alm, fen, trc⟩ := windowClosed_counted c s
      obtain ⟨n, b, w, j, u, sau⟩ := windowClosed_sau c s
      rw [lamp, listen, alm, fen, trc, sau, s.odu.close_record _ hx]
      refine ⟨rfl, rfl, rfl, fun hi => if_neg hi, fun hm a ha hp hw => windowClosed_attempt c hm ha hp hw,
        fun hm h => windowClosed_unsettled c hm h, rfl, ?_⟩
      rintro total n d rfl rfl rfl
      refine ⟨rfl, rfl, Sau.windowCounters_allPulses _ _ _, Sau.windowCounters_discardedPulses _ _ _, ?_, ?_, ?_⟩
      · simpa using s.sau.windowCounters_hiredWindows _ (s.meter == .hired)
      · simpa using s.sau.windowCounters_hiredPulses _ (s.meter == .hired)
      · simp only [State.unmetered_iff]
        rfl
  · obtain ⟨ho, -, hpl, -⟩ := settleDue_base_of_phase hp
    have gateway : (settleDue s).hasGateway = false := by simpa only [State.hasGateway, hpl] using hg
    refine ⟨_, exec_windowEnd c hr, ?_⟩
    rw [(windowClosed_base c (settleDue s)).1, ho, gateway, Odu.close_unloaded hx hf hv hc hh hs]
  · refine ⟨_, exec_windowEnd_settled c hr hq, fun _ hd => windowClosed_dormant c hd,
      fun hd => windowClosed_awake c hd, fun _ hl => ?_⟩
    refine ⟨windowClosed_meterState c hl, windowClosed_shiftState c hl, windowClosed_talkState c hl,
      fun a hm ha => windowClosed_attemptFrame c hl hm ha, ?_, windowClosed_totals c hl,
      fun a => windowClosed_journal c hl, fun a => windowClosed_summary c hl⟩
    rintro front e back hm hu h _ rfl
    exact windowClosed_entryFrame c hl hm hu h

end Sys2Proof.Machine

/-! The supplies and the reset pin: what the due events leave of the retained records of the TRC and the ALM, and what a
loss or a start keeps (R188, R193, R194). -/

namespace Sys2Proof.Machine

/-! ### The due events of a part that does not run -/

theorem State.expired_stopped {s : State} (h : s.running = false) (x : AttemptState) : s.expired x = none := by
  simp [State.expired, h]

theorem entryExpiry_stopped {s : State} (h : s.running = false) (trip : Nat) : entryExpiry trip s = s := by
  simp [entryExpiry, h]

/-- Every due event needs a part that runs. -/
theorem settleDue_stopped {s : State} (h : s.running = false) : settleDue s = s := by
  have second : secondEnd s = s := by simp [secondEnd, h]
  have entry : alarmEntry s = s := by simp [alarmEntry, State.alarmDue, h]
  have notice : repeatExpiry s = s := by simp [repeatExpiry, State.repeatDue, h]
  have offer : offerExpiry s = s := by simp [offerExpiry, State.expired_stopped h]
  have result : resultExpiry s = s := by simp [resultExpiry, State.expired_stopped h]
  have cancel : cancelExpiry s = s := by simp [cancelExpiry, State.expired_stopped h]
  have query : queryExpiry s = s := by simp [queryExpiry, State.expired_stopped h]
  have entries : entryExpiries s = s := List.foldl_fixed' (fun e => entryExpiry_stopped h e.trip) _
  have totals : totalsExpiry s = s := by simp [totalsExpiry, h]
  have lamp : lampTestEnd s = s := by simp [lampTestEnd, h]
  have listen : listenEnd s = s := by simp [listenEnd, State.busOn, h]
  have sleep : dormancyEntry s = s := by simp [dormancyEntry, h]
  rw [settleDue, second, entry, notice, offer, result, cancel, query, entries, totals, lamp, listen, sleep]

/-! ### The trip and the alarm through the due events -/

/-- Two states agree in the retained records of the TRC and of the ALM. -/
def State.SameTrip (s t : State) : Prop :=
  t.trc.held = s.trc.held ∧ t.trc.lastTrip = s.trc.lastTrip ∧ t.trc.booking = s.trc.booking
    ∧ t.trc.record = s.trc.record ∧ t.alm.state = s.alm.state ∧ t.alm.acknowledged = s.alm.acknowledged

theorem State.SameTrip.of_eq {s t : State} (ht : t.trc = s.trc) (ha : t.alm = s.alm) : s.SameTrip t := by
  simp [State.SameTrip, ht, ha]

theorem State.SameTrip.refl (s : State) : s.SameTrip s := .of_eq rfl rfl

theorem State.SameTrip.trans {s t u : State} (h : s.SameTrip t) (g : t.SameTrip u) : s.SameTrip u := by
  obtain ⟨h1, h2, h3, h4, h5, h6⟩ := h
  obtain ⟨g1, g2, g3, g4, g5, g6⟩ := g
  exact ⟨g1.trans h1, g2.trans h2, g3.trans h3, g4.trans h4, g5.trans h5, g6.trans h6⟩

theorem State.SameTrip.foldl {α : Type} {g : State → α → State} (hg : ∀ (t : State) (x : α), t.SameTrip (g t x))
    (l : List α) (s : State) : s.SameTrip (l.foldl g s) := by
  induction l generalizing s with
  | nil => exact .refl s
  | cons x l ih => exact (hg s x).trans (ih _)

theorem placeNotice_trip (s : State) : s.SameTrip (placeNotice s) := by
  unfold placeNotice State.SameTrip
  dsimp only
  split <;> simp

theorem repeatExpiry_trip (s : State) : s.SameTrip (repeatExpiry s) := by
  unfold repeatExpiry
  split
  · exact (placeNotice_trip s).trans (by simp [State.SameTrip])
  · exact .refl s

theorem settleReport_trip (s : State) : s.SameTrip (settleReport s) :=
  .of_eq (by simp [settleReport]) (by simp [settleReport])

theorem placeQuery_trip (s : State) : s.SameTrip (placeQuery s) := by
  unfold placeQuery
  split
  · exact .refl s
  · dsimp only
    split <;> simp [State.SameTrip, State.setAttempt]

theorem enterUncertain_trip (a : Attempt) (s : State) : s.SameTrip (enterUncertain a s) :=
  (State.SameTrip.of_eq rfl rfl).trans (placeQuery_trip _)

theorem offerExpiry_trip (s : State) : s.SameTrip (offerExpiry s) := by
  unfold offerExpiry
  split
  · exact (State.SameTrip.of_eq rfl rfl).trans (settleReport_trip _)
  · exact .refl s

theorem resultExpiry_trip (s : State) : s.SameTrip (resultExpiry s) := by
  unfold resultExpiry
  split
  · exact (enterUncertain_trip _ s).trans (settleReport_trip _)
  · exact .refl s

theorem cancelExpiry_trip (s : State) : s.SameTrip (cancelExpiry s) := by
  unfold cancelExpiry
  split
  · exact (enterUncertain_trip _ s).trans (settleReport_trip _)
  · exact .refl s

theorem queryExpiry_trip (s : State) : s.SameTrip (queryExpiry s) := by
  unfold queryExpiry
  split
  · split
    · exact (State.SameTrip.of_eq rfl rfl).trans (placeQuery_trip _)
    · exact .of_eq rfl rfl
  · exact .refl s

theorem placeEntryQuery_trip (e : UnsettledEntry) (s : State) : s.SameTrip (placeEntryQuery e s) := by
  unfold placeEntryQuery
  dsimp only
  split <;> simp [State.SameTrip, State.mapEntry]

theorem entryExpiry_trip (trip : Nat) (s : State) : s.SameTrip (entryExpiry trip s) := by
  unfold entryExpiry
  split
  · split
    · dsimp only
      split
      · exact .of_eq rfl rfl
      · exact (State.SameTrip.of_eq rfl rfl).trans (placeEntryQuery_trip _ _)
    · exact .refl s
  · exact .refl s

theorem entryExpiries_trip (s : State) : s.SameTrip (entryExpiries s) :=
  State.SameTrip.foldl (fun t (e : UnsettledEntry) => entryExpiry_trip e.trip t) _ s

theorem convertEntry_trip (e : UnsettledEntry) (s : State) : s.SameTrip (convertEntry e s) :=
  (State.SameTrip.of_eq rfl rfl).trans (settleReport_trip _)

theorem convertAll_trip (s : State) : s.SameTrip (convertAll s) :=
  State.SameTrip.foldl (fun t e => convertEntry_trip e t) _ s

theorem enqueueShiftState_trip (s : State) : s.SameTrip (enqueueShiftState s) := by
  simp [enqueueShiftState, State.SameTrip]

/-- At the TRC the end of a closing takes the restriction away, and METER_STATE may come to be owed. -/
theorem finishClosing_trip (x : Option (Nat × Nat)) (s : State) : s.SameTrip (finishClosing x s) := by
  have reconciled : s.SameTrip ((endStage2 s).setSau { (endStage2 s).sau with
      reconciliation := some (reconcile (endStage2 s).sau.counters x) }) := by
    simp [State.SameTrip, endStage2]
  have frozen : ∀ (t : State) (y : Sau),
      t.SameTrip (enqueueMeterState ((t.setSau y).setTrc { t.trc with restricted := false })) := fun t y => by
    simp [State.SameTrip]
  unfold finishClosing
  exact ((reconciled.trans (convertAll_trip _)).trans (frozen _ _)).trans (enqueueShiftState_trip _)

theorem totalsExpiry_trip (s : State) : s.SameTrip (totalsExpiry s) := by
  unfold totalsExpiry
  split
  · exact finishClosing_trip _ s
  · exact .refl s

theorem lampTestEnd_trip (s : State) : s.SameTrip (lampTestEnd s) := by
  unfold lampTestEnd
  split
  · exact .of_eq rfl rfl
  · exact .refl s

theorem listenEnd_trip (s : State) : s.SameTrip (listenEnd s) := by
  unfold listenEnd
  split
  · exact .of_eq rfl rfl
  · exact .refl s

theorem dormancyEntry_trip (s : State) : s.SameTrip (dormancyEntry s) := by
  unfold dormancyEntry
  split
  · simp [State.SameTrip, audioDormant, endLampTest]
  · exact .refl s

/-- Of the due events the alarm's entry alone writes these records. -/
theorem settleDue_trip (s : State) : (alarmEntry (secondEnd s)).SameTrip (settleDue s) :=
  (repeatExpiry_trip _).trans <| (offerExpiry_trip _).trans <| (resultExpiry_trip _).trans <|
    (cancelExpiry_trip _).trans <| (queryExpiry_trip _).trans <| (entryExpiries_trip _).trans <|
    (totalsExpiry_trip _).trans <| (lampTestEnd_trip _).trans <| (listenEnd_trip _).trans <| dormancyEntry_trip _

/-- The alarm's entry marks a trip in progress and leaves the rest of the trip (R58, R161). -/
theorem alarmEntered_trip (s : State) :
    (alarmEntered s).trc = { s.trc with record := s.trc.record.map fun r => { r with alarmDuring := true } }
      ∧ (alarmEntered s).alm.state = .active ∧ (alarmEntered s).alm.acknowledged = false := by
  obtain ⟨-, -, -, -, hs, ha⟩ := placeNotice_trip (wake (s.setAlm { s.alm with
    state := .active, acknowledged := false, holdCount := 0, repeatTimer := some Config.repeatTimer }))
  have ht : ∀ t, (placeNotice t).trc = t.trc := fun t => by
    unfold placeNotice
    dsimp only
    split <;> simp
  simp [alarmEntered, audioAlarmEntry, endLampTest, markAlarm, ht, hs, ha]

theorem State.alarmDue_iff (s : State) :
    s.alarmDue = true ↔ s.running = true ∧ s.alm.state = .clear ∧ 8 ≤ s.alm.holdCount := by
  simp only [State.alarmDue, Bool.and_eq_true, beq_iff_eq, decide_eq_true_eq, and_assoc]
  rfl

/-- The trip and the alarm after the due events (R161). -/
theorem settleDue_alarm (s : State) :
    (settleDue s).trc.held = s.trc.held ∧ (settleDue s).trc.lastTrip = s.trc.lastTrip
      ∧ (settleDue s).trc.booking = s.trc.booking
      ∧ (s.alarmDue = true →
          (settleDue s).trc.record = s.trc.record.map (fun r => { r with alarmDuring := true })
            ∧ (settleDue s).alm.state = .active ∧ (settleDue s).alm.acknowledged = false)
      ∧ (¬s.alarmDue = true → (settleDue s).trc.record = s.trc.record ∧ (settleDue s).alm.state = s.alm.state
          ∧ (settleDue s).alm.acknowledged = s.alm.acknowledged) := by
  obtain ⟨hh, hl, hb, hr, hs, ha⟩ := settleDue_trip s
  rw [hh, hl, hb, hr, hs, ha]
  have frame := secondEnd_frame s
  have due : (secondEnd s).alarmDue = s.alarmDue := by rw [frame]; rfl
  have trc : (secondEnd s).trc = s.trc := by rw [frame]; rfl
  have alm : (secondEnd s).alm = s.alm := by rw [frame]; rfl
  unfold alarmEntry
  rw [due]
  obtain ⟨et, es, ea⟩ := alarmEntered_trip (secondEnd s)
  by_cases h : s.alarmDue = true
  · simp [h, et, es, ea, trc]
  · simp [h, trc, alm]

/-- The clock after the due events (R14). -/
theorem settleDue_clock (s : State) :
    (s.running = true ∧ s.odu.phase = 4 → (settleDue s).odu.clock = s.odu.clock + 1)
      ∧ (¬(s.running = true ∧ s.odu.phase = 4) → (settleDue s).odu.clock = s.odu.clock)
      ∧ (settleDue s).odu.clockSet = s.odu.clockSet ∧ (settleDue s).fen = s.fen ∧ (settleDue s).rtm = s.rtm
      ∧ (settleDue s).pending = s.pending := by
  obtain ⟨ho, hf, -, hr, -, hp⟩ := settleDue_base s
  rw [ho, hf, hr, hp]
  unfold secondEnd
  by_cases h : s.running = true ∧ s.odu.phase = 4
  · simp [h, Config.windowsPerSecond]
  · have h' : (s.running && s.odu.phase == Config.windowsPerSecond) = false := by
      simpa [Config.windowsPerSecond] using h
    simp [h, h']

/-! ### What a loss and the beginning of a start keep -/

theorem exec_mainSupplyLoss {s : State} (h : s.supply.main = true) :
    exec .mainSupplyLoss s = .next ((settleDue s).retainedOnly false s.pld.kind) := by
  show Host.Outcome.next (supplyLoss s) = _
  rw [supplyLoss, if_pos h]

theorem exec_mainSupplyReturn {s : State} (h : s.supply.main = false) :
    exec .mainSupplyReturn s = .next (s.retainedOnly true s.rtm.startKind) := by
  show Host.Outcome.next (supplyReturn s) = _
  simp [supplyReturn, h, beginStart]

theorem exec_resetPin {s : State} (h : s.supply.main = true) :
    exec .resetPin s = .next ((settleDue s).retainedOnly true (settleDue s).rtm.startKind) := by
  show Host.Outcome.next (resetPin s) = _
  rw [resetPin, if_pos h]
  rfl

theorem State.running_supply {s : State} (h : s.supply.main = false) : s.running = false := by
  simp [State.running, h]

theorem Rtm.startKind_warm (r : Rtm) : r.startKind = .warm ↔ r.latch = false ∧ r.checkAgrees = true := by
  unfold Rtm.startKind
  cases r.latch <;> cases r.checkAgrees <;> decide

/-- Each of the three commands leaves the retained records of the state with what is due taken. -/
theorem supply_commands {s u : State} {c : Instr} (hu : exec c s = .next u)
    (hc : (c = .mainSupplyLoss ∧ s.supply.main = true) ∨ (c = .mainSupplyReturn ∧ s.supply.main = false)
      ∨ (c = .resetPin ∧ s.supply.main = true)) :
    ∃ main kind, u = (settleDue s).retainedOnly main kind ∧ (c = .mainSupplyLoss → main = false)
      ∧ (c ≠ .mainSupplyLoss → main = true ∧ kind = s.rtm.startKind) := by
  obtain ⟨rfl, hm⟩ | ⟨rfl, hm⟩ | ⟨rfl, hm⟩ := hc
  · rw [exec_mainSupplyLoss hm] at hu
    cases hu
    exact ⟨false, _, rfl, fun _ => rfl, fun h => absurd rfl h⟩
  · rw [exec_mainSupplyReturn hm] at hu
    cases hu
    rw [settleDue_stopped (State.running_supply hm)]
    exact ⟨true, _, rfl, nofun, fun _ => ⟨rfl, rfl⟩⟩
  · rw [exec_resetPin hm, (settleDue_clock s).2.2.2.2.1] at hu
    cases hu
    exact ⟨true, _, rfl, nofun, fun _ => ⟨rfl, rfl⟩⟩

/-- A part that has just kept its retained records alone does not run. -/
theorem State.retainedOnly_running (s : State) (main : Bool) (kind : StartKind) :
    (s.retainedOnly main kind).running = false := by
  simp [State.running, State.retainedOnly, Pld.reading]

/-- Settles O59: what is due is taken, and then the retained records and the pins alone are kept. -/
theorem suppliesKeepTheRetainedRecords : Obligations.SuppliesKeepTheRetainedRecords := by
  unfold Obligations.SuppliesKeepTheRetainedRecords
  intro s
  refine ⟨?_, ?_, settleDue_stopped, fun hm => ?_, fun hm => ?_⟩
  · rintro u c v _ _ hc hu rfl rfl
    obtain rfl : v = settleDue s := by
      obtain ⟨-, -, h⟩ | ⟨-, hm, h⟩ | ⟨-, -, h⟩ := hc
      · exact h
      · rw [h, settleDue_stopped (State.running_supply hm)]
      · exact h
    have hc' := hc.imp (And.imp_right And.left) (Or.imp (And.imp_right And.left) (And.imp_right And.left))
    obtain ⟨main, kind, rfl, loss, start⟩ := supply_commands hu hc'
    obtain ⟨second, still, clockSet, fen, rtm, pending⟩ := settleDue_clock s
    obtain ⟨held, lastTrip, booking, entered, calm⟩ := settleDue_alarm s
    rw [State.alarmDue_iff] at entered calm
    generalize settleDue s = v at second still clockSet fen rtm pending held lastTrip booking entered calm ⊢
    refine ⟨second, still, clockSet, (congrArg Fen.record fen :), held, lastTrip, booking, entered, calm, rfl, rfl,
      rtm, rfl, rfl, rfl, rfl, rfl, State.retainedOnly_running _ _ _, pending, loss, fun h => ?_⟩
    obtain ⟨hmain, hkind⟩ := start h
    exact ⟨hmain, rfl, by rw [← Rtm.startKind_warm, ← hkind]; rfl⟩
  · rintro u c hc hm hq hu
    obtain ⟨main, kind, rfl, -⟩ := supply_commands hu
      (hc.imp (⟨·, hm⟩) fun h => Or.inr ⟨h, hm⟩)
    rw [hq]
    exact ⟨rfl, rfl, rfl, rfl, rfl, rfl⟩
  · exact ⟨⟨_, exec_mainSupplyLoss hm, rfl⟩, ⟨_, exec_resetPin hm, rfl⟩⟩
  · refine ⟨⟨_, exec_mainSupplyReturn hm, rfl, rfl⟩, ?_⟩
    show Host.Outcome.next (backupFail s) = _
    simp [backupFail, hm]

end Sys2Proof.Machine

/-! The FEN through every operation: most leave it as it stands, a mailbox outcome may owe a FARE_STATUS, and a hire start, a
window, a staged tariff, the extras and a start keep the fare total equal to its parts (R21). -/

namespace Sys2Proof.Machine

/-! ### Operations of the other blocks leave the FEN -/

/-! The CAU and the ALM. -/

@[simp] theorem giveUpFloor_fen (s : State) : (giveUpFloor s).fen = s.fen := by
  unfold giveUpFloor
  split <;> simp

theorem floorRequest_fen (topic : Nat) (f : RxFrame) (act : State → State) (s : State)
    (h : (act s).fen = s.fen) : (floorRequest topic f act s).fen = s.fen := by
  unfold floorRequest
  split
  · simp
  · split <;> simp [h]

theorem talkPress_fen (f : RxFrame) (s : State) : (talkPress f s).fen = s.fen := by
  refine floorRequest_fen _ f _ s ?_
  unfold talkPressed
  dsimp only
  split <;> simp

theorem talkRelease_fen (f : RxFrame) (s : State) : (talkRelease f s).fen = s.fen := by
  refine floorRequest_fen _ f _ s ?_
  unfold talkReleased
  dsimp only
  split <;> simp

theorem callPress_fen (f : RxFrame) (s : State) : (callPress f s).fen = s.fen := by
  refine floorRequest_fen _ f _ s ?_
  unfold callPressed
  dsimp only
  split
  · simp
  · split <;> simp
  · simp

theorem callRelease_fen (f : RxFrame) (s : State) : (callRelease f s).fen = s.fen := by
  refine floorRequest_fen _ f _ s ?_
  unfold callReleased
  dsimp only
  split
  · simp
  · split <;> simp
  · simp

theorem voxAction_fen (slot : Nat) (before : SourceLevel) (s : State) : (voxAction slot before s).fen = s.fen := by
  unfold voxAction
  dsimp only
  split
  · split
    · split <;> simp
    · split <;> simp
  · rfl

@[simp] theorem slotEnd_fen (s : State) : (slotEnd s).fen = s.fen := by
  unfold slotEnd
  split
  · split
    · dsimp only
      split <;> simp [voxAction_fen]
    · rfl
  · rfl

@[simp] theorem chimeEnd_fen (s : State) : (chimeEnd s).fen = s.fen := by
  unfold chimeEnd
  split
  · split <;> simp
  · rfl

theorem samplePeriod_fen (front rear radio : Sample) (s : State) : (samplePeriod front rear radio s).fen = s.fen := by
  unfold samplePeriod
  split <;> simp

@[simp] theorem placeNotice_fen (s : State) : (placeNotice s).fen = s.fen := (placeNotice_base s).2.1

@[simp] theorem noticeOutcome_fen (s : State) : (noticeOutcome s).fen = s.fen := by
  unfold noticeOutcome
  split
  · dsimp only
    split <;> simp
  · rfl

theorem alarmAck_fen (f : RxFrame) (s : State) : (alarmAck f s).fen = s.fen := by
  unfold alarmAck
  split <;> simp

theorem alarmClear_fen (f : RxFrame) (s : State) : (alarmClear f s).fen = s.fen := by
  unfold alarmClear alarmCleared audioAlarmCleared
  split
  · simp
  · dsimp only
    split <;> simp

/-! The RSD and the ODU. -/

theorem signTest_fen (f : RxFrame) (s : State) : (signTest f s).fen = s.fen := by
  unfold signTest
  split
  · simp
  · split <;> simp [lampTestStarted]

theorem signWrite_fen (f : RxFrame) (s : State) : (signWrite f s).fen = s.fen := by
  unfold signWrite
  dsimp only
  split <;> simp

@[simp] theorem scrollStep_fen (s : State) : (scrollStep s).fen = s.fen := by
  unfold scrollStep
  split <;> simp

theorem refreshPass_fen (s : State) : (refreshPass s).fen = s.fen := by
  unfold refreshPass
  split <;> simp

theorem wheelInput_fen (l : WheelLine) (level : Bool) (s : State) : (wheelInput l level s).fen = s.fen := by
  unfold wheelInput
  split
  · split <;> simp
  · simp

theorem filterElapsed_fen (l : WheelLine) (s : State) : (filterElapsed l s).fen = s.fen := by
  unfold filterElapsed
  split
  · split <;> simp
  · rfl

theorem secondEnd_fen (s : State) : (secondEnd s).fen = s.fen := by
  rw [secondEnd_frame]
  rfl

theorem retainedTick_fen (s : State) : (retainedTick s).fen = s.fen := by
  unfold retainedTick
  split <;> simp

theorem clockSet_fen (f : RxFrame) (s : State) : (clockSet f s).fen = s.fen := by simp [clockSet]

theorem vehicleState_fen (f : RxFrame) (s : State) : (vehicleState f s).fen = s.fen := rfl

/-! The TRC. -/

@[simp] theorem closeTrip_fen (o : TripOutcome) (waived : Nat) (s : State) : (closeTrip o waived s).fen = s.fen := by
  unfold closeTrip
  split <;> simp [tripCloseArrival]

theorem stop_fen (f : RxFrame) (s : State) : (stop f s).fen = s.fen := by
  unfold stop stopped
  repeat' split
  all_goals simp

theorem resume_fen (f : RxFrame) (s : State) : (resume f s).fen = s.fen := by
  unfold resume
  repeat' split
  all_goals simp

theorem bookingAssign_fen (f : RxFrame) (s : State) : (bookingAssign f s).fen = s.fen := by
  unfold bookingAssign
  dsimp only
  repeat' split
  all_goals simp

theorem bookingCancel_fen (f : RxFrame) (s : State) : (bookingCancel f s).fen = s.fen := by
  unfold bookingCancel
  repeat' split
  all_goals simp

/-! The STU: its frames, the attempt, the tenders, the unsettled list. -/

@[simp] theorem settleReport_fen (s : State) : (settleReport s).fen = s.fen := (settleReport_base s).2.1

@[simp] theorem placeQuery_fen (s : State) : (placeQuery s).fen = s.fen := (placeQuery_base s).2.1

@[simp] theorem setAttempt_fen (s : State) (a : Attempt) : (s.setAttempt a).fen = s.fen := rfl

@[simp] theorem placeRequest_fen (s : State) : (placeRequest s).fen = s.fen := (placeRequest_retried s).1.base.2.1

@[simp] theorem enterCancelling_fen (a : Attempt) (s : State) : (enterCancelling a s).fen = s.fen :=
  (placeCancel_retried _).1.base.2.1

@[simp] theorem enterUncertain_fen (a : Attempt) (s : State) : (enterUncertain a s).fen = s.fen :=
  (enterUncertain_base a s).2.1

@[simp] theorem dropAttempt_fen (e : Ending) (a : Attempt) (s : State) : (dropAttempt e a s).fen = s.fen := by
  simp [dropAttempt, abortAttemptFrames]

@[simp] theorem endAttempt_fen (e : Ending) (a : Attempt) (s : State) : (endAttempt e a s).fen = s.fen := by
  simp [endAttempt]

@[simp] theorem closeIfPaid_fen (s : State) : (closeIfPaid s).fen = s.fen := by
  unfold closeIfPaid
  split <;> simp

@[simp] theorem approveAttempt_fen (a : Attempt) (approved tip : Nat) (s : State) :
    (approveAttempt a approved tip s).fen = s.fen := by
  unfold approveAttempt
  dsimp only
  split <;> split <;> simp

@[simp] theorem settled_fen (s : State) : (settled s).fen = s.fen := by
  unfold settled openSession
  split
  · simp
  · split <;> simp

theorem settle_fen (f : RxFrame) (s : State) : (settle f s).fen = s.fen := by
  unfold settle
  repeat' split
  all_goals simp

theorem void_fen (f : RxFrame) (s : State) : (void f s).fen = s.fen := by
  unfold void voided
  repeat' split
  all_goals simp

theorem tenderCash_fen (f : RxFrame) (s : State) : (tenderCash f s).fen = s.fen := by
  unfold tenderCash
  dsimp only
  repeat' split
  all_goals simp

theorem tenderCard_fen (f : RxFrame) (s : State) : (tenderCard f s).fen = s.fen := by
  unfold tenderCard openAttempt
  dsimp only
  repeat' split
  all_goals simp

@[simp] theorem cancelQueued_fen (a : Attempt) (s : State) : (cancelQueued a s).fen = s.fen := by
  unfold cancelQueued
  dsimp only
  split
  · simp
  · split <;> simp

theorem payCancel_fen (f : RxFrame) (s : State) : (payCancel f s).fen = s.fen := by
  unfold payCancel
  repeat' split
  all_goals simp

@[simp] theorem payRequestOutcome_fen (payload : List Byte) (o : BoxOutcome) (s : State) :
    (payRequestOutcome payload o s).fen = s.fen := by
  unfold payRequestOutcome
  repeat' split
  all_goals simp

theorem settleDefer_fen (f : RxFrame) (s : State) : (settleDefer f s).fen = s.fen := by
  unfold settleDefer deferred
  repeat' split
  all_goals simp

@[simp] theorem accepted_fen (a : Attempt) (s : State) : (accepted a s).fen = s.fen := by
  unfold accepted
  dsimp only
  repeat' split
  all_goals simp

@[simp] theorem stray_fen (s : State) : (stray s).fen = s.fen := by simp [stray]

theorem payAccepted_fen (f : RxFrame) (s : State) : (payAccepted f s).fen = s.fen := by
  unfold payAccepted
  dsimp only
  repeat' split
  all_goals simp

@[simp] theorem resolveEntry_fen (e : UnsettledEntry) (ok : Bool) (approved tip : Nat) (s : State) :
    (resolveEntry e ok approved tip s).fen = s.fen := by
  simp [resolveEntry, resolution, dropEntry]

@[simp] theorem attemptResult_fen (a : Attempt) (outcome approved tip : Nat) (s : State) :
    (attemptResult a outcome approved tip s).fen = s.fen := by
  unfold attemptResult
  split
  · simp
  · split <;> simp

theorem payResult_fen (f : RxFrame) (s : State) : (payResult f s).fen = s.fen := by
  unfold payResult
  dsimp only
  repeat' split
  all_goals simp

theorem payReference_fen (f : RxFrame) (s : State) : (payReference f s).fen = s.fen := by
  unfold payReference State.mapEntry
  dsimp only
  repeat' split
  all_goals simp

/-! The SAU. -/

@[simp] theorem placeClosingQuery_fen (e : UnsettledEntry) (s : State) : (placeClosingQuery e s).fen = s.fen :=
  (placeClosingQuery_retried e s).1.base.2.1

@[simp] theorem enqueueShiftState_fen (s : State) : (enqueueShiftState s).fen = s.fen := (enqueueShiftState_base s).2.1

/-- The queries of stage 1 leave what no retry writes. -/
theorem queryAllEntries_retried (s : State) : s.StuRetried (queryAllEntries s) := by
  unfold queryAllEntries
  generalize s.stu.unsettled = l
  induction l generalizing s with
  | nil => exact .refl s
  | cons e l ih => exact (placeClosingQuery_retried e s).trans (ih _)

@[simp] theorem awaitTotals_fen (s : State) : (awaitTotals s).fen = s.fen := by
  simp [awaitTotals, placeTotals, (queryAllEntries_retried s).1.base.2.1]

@[simp] theorem finishClosing_fen (x : Option (Nat × Nat)) (s : State) : (finishClosing x s).fen = s.fen :=
  (finishClosing_base x s).2.1

@[simp] theorem runClosing_fen (s : State) : (runClosing s).fen = s.fen := by
  unfold runClosing
  split <;> simp

theorem shiftOpen_fen (f : RxFrame) (s : State) : (shiftOpen f s).fen = s.fen := by
  unfold shiftOpen shiftOpened
  repeat' split
  all_goals simp

theorem shiftClose_fen (f : RxFrame) (s : State) : (shiftClose f s).fen = s.fen := by
  unfold shiftClose shiftClosed enterClosing
  dsimp only
  repeat' split
  all_goals simp

theorem terminalTotals_fen (f : RxFrame) (s : State) : (terminalTotals f s).fen = s.fen := by
  unfold terminalTotals
  split <;> simp

@[simp] theorem placePart_fen (k : AnswerKind) (s : State) : (placePart k s).fen = s.fen := by
  unfold placePart
  split <;> simp

@[simp] theorem startAnswer_fen (k : AnswerKind) (number : Nat) (bytes : List Byte) (s : State) :
    (startAnswer k number bytes s).fen = s.fen := by
  unfold startAnswer abortPart
  dsimp only
  split <;> simp

@[simp] theorem partOutcome_fen (k : AnswerKind) (box : Nat) (o : BoxOutcome) (s : State) :
    (partOutcome k box o s).fen = s.fen := by
  unfold partOutcome
  repeat' split
  all_goals simp

theorem journalRead_fen (f : RxFrame) (s : State) : (journalRead f s).fen = s.fen := by
  unfold journalRead
  split <;> simp

theorem summaryRead_fen (f : RxFrame) (s : State) : (summaryRead f s).fen = s.fen := by simp [summaryRead]

/-! The interface. -/

theorem statusRead_fen (f : RxFrame) (s : State) : (statusRead f s).fen = s.fen := by
  unfold statusRead
  dsimp only
  split <;> simp

@[simp] theorem offlineRecovery_fen (s : State) : (offlineRecovery s).fen = s.fen := by
  obtain ⟨c, h, -⟩ := offlineRecovery_eq s
  rw [h]
  rfl

@[simp] theorem lineIdle_fen (s : State) : (lineIdle s).fen = s.fen := by
  obtain ⟨c, h, -⟩ := lineIdle_eq s
  rw [h]
  rfl

@[simp] theorem wakeOnEdge_fen (s : State) : (wakeOnEdge s).fen = s.fen := by
  unfold wakeOnEdge
  split <;> simp

theorem startMark_fen (s : State) : (startMark s).fen = s.fen := by
  unfold startMark
  repeat' split
  all_goals simp

theorem receiveFault_fen (x : ReceiveFault) (s : State) : (receiveFault x s).fen = s.fen := by
  unfold receiveFault endReception impliedIdle
  dsimp only
  repeat' split
  all_goals simp

theorem transmitAttempt_fen (s : State) : (transmitAttempt s).fen = s.fen := by
  unfold transmitAttempt beginAttempt
  repeat' split
  all_goals simp

theorem duplicateStation_fen (s : State) : (duplicateStation s).fen = s.fen := by
  unfold duplicateStation
  dsimp only
  split <;> simp [stopSettlementTimers]


/-! ### What R21 reads of the FEN -/

/-- The half of R21 that the fare record bears: the total is its parts, and no more than 9,999,999. -/
def FareRecord.Balanced (r : FareRecord) : Prop :=
  r.total = r.metered + (r.extras.map (·.amount)).sum + r.bookingFee ∧ r.total ≤ Config.maxAmount

/-- The half that the tables bear: a flag fall and a booking fee a trip can start with. -/
def Fen.TablesSound (f : Fen) : Prop := (∀ t, some t ∈ f.tariffs → t.f ≤ 99999) ∧ f.bookingFee ≤ 99999

theorem fareSound_iff (f : Fen) : FareSound f ↔ f.record.Balanced ∧ f.TablesSound := by
  simp [FareSound, FareRecord.Balanced, Fen.TablesSound, Config.maxAmount, and_assoc]

/-- A new balanced record beside sound tables. -/
theorem FareSound.of_record {f g : Fen} (h : FareSound f) (hr : g.record.Balanced) (ht : g.tariffs = f.tariffs)
    (hb : g.bookingFee = f.bookingFee) : FareSound g := by
  rw [fareSound_iff] at h ⊢
  exact ⟨hr, by simpa [Fen.TablesSound, ht, hb] using h.2⟩

/-- Between two states the FEN kept all but its owed flag. -/
def State.SameFare (s t : State) : Prop := t.fen = { s.fen with owed := t.fen.owed }

theorem State.SameFare.of_eq {s t : State} (h : t.fen = s.fen) : s.SameFare t := by simp [State.SameFare, h]

theorem State.SameFare.trans {s t u : State} (h : s.SameFare t) (g : t.SameFare u) : s.SameFare u := by
  unfold State.SameFare at *
  rw [g, h]

theorem State.SameFare.sound {s t : State} (h : s.SameFare t) (hs : FareSound s.fen) : FareSound t.fen := by
  rw [h]
  exact hs

/-! ### FARE_STATUS and the outcomes of mailboxes change the owed flag alone -/

theorem enqueueFareStatus_sameFare (s : State) : s.SameFare (enqueueFareStatus s) := by
  unfold enqueueFareStatus State.SameFare
  dsimp only
  split <;> simp

theorem windowFareStatus_sameFare (s : State) : s.SameFare (windowFareStatus s) := by
  simp [windowFareStatus, State.SameFare]

theorem sauOutcome_fen (box : Nat) (f : TxFrame) (o : BoxOutcome) (s : State) :
    (sauOutcome box f o s).fen = s.fen := by
  unfold sauOutcome
  repeat' split
  all_goals simp

theorem mailboxOutcome_sameFare (box : Nat) (f : TxFrame) (o : BoxOutcome) (s : State) :
    s.SameFare (mailboxOutcome box f o s) := by
  unfold mailboxOutcome
  cases f.owner with
  | fen => dsimp only; split <;> simp [State.SameFare]
  | trc | cau => exact .of_eq (by dsimp only; split <;> simp)
  | sau => exact .of_eq (sauOutcome_fen box f o s)
  | stu => exact .of_eq (by dsimp only; split <;> simp)
  | alm => exact .of_eq (noticeOutcome_fen s)
  | odu | rsd | cbi => exact .of_eq rfl

theorem reportAll_sameFare (l : List (Nat × TxFrame × BoxOutcome)) (s : State) : s.SameFare (reportAll l s) := by
  unfold reportAll
  induction l generalizing s with
  | nil => exact .of_eq rfl
  | cons x l ih => exact (mailboxOutcome_sameFare _ _ _ s).trans (ih _)

theorem enterOffline_sameFare (s : State) : s.SameFare (enterOffline s) :=
  (State.SameFare.of_eq rfl).trans (reportAll_sameFare _ _)

theorem sentOne_sameFare (i : Nat) (s : State) : s.SameFare (sentOne i s) :=
  (State.SameFare.of_eq rfl).trans (mailboxOutcome_sameFare _ _ _ _)

theorem failedOne_sameFare (i : Nat) (x : TransmitFault) (s : State) : s.SameFare (failedOne i x s) := by
  have offline : ∀ c : Cbi, s.SameFare (enterOffline (s.setCbi c)) := fun c =>
    (State.SameFare.of_eq rfl).trans (enterOffline_sameFare _)
  unfold failedOne
  dsimp only
  split
  · exact offline _
  · split <;> split
    · exact (offline _).trans (mailboxOutcome_sameFare _ _ _ _)
    · exact (State.SameFare.of_eq rfl).trans (mailboxOutcome_sameFare _ _ _ _)
    · exact offline _
    · exact .of_eq rfl

theorem lostOne_sameFare (i : Nat) (s : State) : s.SameFare (lostOne i s) := by
  unfold lostOne
  dsimp only
  split
  · exact (State.SameFare.of_eq rfl).trans (mailboxOutcome_sameFare _ _ _ _)
  · exact .of_eq rfl

theorem endAttemptWith_sameFare {act : Nat → State → State} (h : ∀ i s, State.SameFare s (act i s)) (idle : Nat)
    (receiving : Bool) (s : State) : s.SameFare (endAttemptWith act idle receiving s) := by
  unfold endAttemptWith
  split
  · exact .of_eq rfl
  · split
    · exact .of_eq rfl
    · split
      · exact .of_eq rfl
      · exact h _ s

/-! ### A window keeps the record balanced (R25 to R29) -/

theorem FareRecord.drop_balanced (n : Nat) {r : FareRecord} (h : r.Balanced) : (r.drop n).1.Balanced := by
  induction n generalizing r with
  | zero =>
    unfold FareRecord.drop
    split <;> exact h
  | succ n ih =>
    unfold FareRecord.drop
    split
    · split
      · exact h
      · rename_i within
        refine ih ⟨?_, Nat.not_lt.1 within⟩
        dsimp only
        rw [h.1]
        omega
    · exact h

theorem FareRecord.takeStaged_balanced {r : FareRecord} (f : Fen) (k : Nat) (x : Seq) (h : r.Balanced) :
    (r.takeStaged f k x).1.Balanced := by
  unfold FareRecord.takeStaged
  split
  · exact h
  · split <;> exact h

/-- A window record at the FEN leaves the tables. -/
theorem fareWindow_tables (w : WindowRecord) (s : State) :
    (fareWindow w s).fen.tariffs = s.fen.tariffs ∧ (fareWindow w s).fen.bookingFee = s.fen.bookingFee := by
  have status : ∀ t : State, (windowFareStatus t).fen.tariffs = t.fen.tariffs
      ∧ (windowFareStatus t).fen.bookingFee = t.fen.bookingFee := fun t => by
    rw [windowFareStatus_sameFare t]
    exact ⟨rfl, rfl⟩
  unfold fareWindow
  split
  · dsimp only
    split <;> split <;> split <;> simp [status]
  · split <;> simp [status]

theorem fareWindow_sound (w : WindowRecord) {s : State} (h : FareSound s.fen) : FareSound (fareWindow w s).fen := by
  refine h.of_record ?_ (fareWindow_tables w s).1 (fareWindow_tables w s).2
  have hr := ((fareSound_iff _).1 h).1
  rw [fareWindow_record]
  split
  · exact FareRecord.takeStaged_balanced _ _ _ (FareRecord.drop_balanced _ hr)
  · exact hr

theorem windowCounted_sound (closed : Bool) {s : State} (h : FareSound s.fen) :
    FareSound (windowCounted closed s).fen := by
  have record : (windowCounted closed s).fen
      = (fareWindow (s.odu.close s.hasGateway).2 (s.setOdu (s.odu.close s.hasGateway).1)).fen := by
    simp only [windowCounted, windowTimers_eq, windowRecord_fen]
  rw [record]
  exact fareWindow_sound _ (s := s.setOdu (s.odu.close s.hasGateway).1) h

theorem windowEnd_sound (closed : Bool) {s : State} (h : FareSound s.fen) : FareSound (windowEnd closed s).fen := by
  unfold windowEnd
  split
  · have due : (settleDue s).fen = s.fen := (settleDue_base s).2.1.trans (secondEnd_fen s)
    rw [windowClosed_eq, (dormancyTick_frame _).2.1, (windowRetries_retried _).base.2.1]
    exact windowCounted_sound closed (by rwa [due])
  · exact h

/-! ### The requests of the FEN and HIRE (R23, R32, R34, R35) -/

theorem removeLast_sum {i : Nat} {l : List Extra} {e : Extra} (h : l.reverse.find? (·.kind == i) = some e) :
    ((removeLast i l).map (·.amount)).sum + e.amount = (l.map (·.amount)).sum := by
  obtain ⟨hk, front, back, hl, hf⟩ := List.find?_eq_some_iff_append.1 h
  have hr : l.reverse.eraseP (·.kind == i) = front ++ back := by
    rw [hl, List.eraseP_append_right _ (fun x hx => by simpa using hf x hx)]
    simp [hk]
  have hs : (l.map (·.amount)).sum = ((l.reverse).map (·.amount)).sum := by
    rw [List.map_reverse, List.sum_reverse]
  rw [removeLast, hr, hs, hl, List.map_reverse, List.sum_reverse]
  simp
  omega

theorem extraAdd_sound (f : RxFrame) {s : State} (h : FareSound s.fen) : FareSound (extraAdd f s).fen := by
  unfold extraAdd
  dsimp only
  split
  · simpa using h
  · split
    · simpa using h
    · split
      · simpa using h
      · rename_i fits
        rw [(answer_frame _ _ _ _).2.1]
        refine (enqueueFareStatus_sameFare _).sound (h.of_record ?_ rfl rfl)
        simp only [not_or, not_le, not_lt] at fits
        obtain ⟨parts, -⟩ := ((fareSound_iff _).1 h).1
        refine ⟨?_, fits.2.2⟩
        simp [parts]
        omega

theorem extraRemove_sound (f : RxFrame) {s : State} (h : FareSound s.fen) : FareSound (extraRemove f s).fen := by
  unfold extraRemove
  dsimp only
  split
  · simpa using h
  · split
    · simpa using h
    · rename_i found
      rw [(answer_frame _ _ _ _).2.1]
      refine (enqueueFareStatus_sameFare _).sound (h.of_record ?_ rfl rfl)
      obtain ⟨parts, cap⟩ := ((fareSound_iff _).1 h).1
      have less := removeLast_sum found
      refine ⟨?_, (Nat.sub_le _ _).trans cap⟩
      show s.fen.record.total - _ = _
      rw [parts]
      dsimp only [State.setFen_fen]
      omega

/-- The meter states in which a tariff may be selected (Table 2-9). -/
def MeterState.selectsTariff : MeterState → Bool
  | .free | .booked | .hired | .stopped => true
  | .settling | .offDuty | .inoperative => false

/-- A TARIFF_SELECT carried out: preselected before a trip, staged in one (R31). -/
def tariffSelected (i : Nat) (s : State) : State :=
  if s.meter = .free ∨ s.meter = .booked then s.setTrc { s.trc with preselected := i }
  else s.setFen { s.fen with
    record := { s.fen.record with staged := if i = s.fen.record.active then none else some i } }

/-- TARIFF_SELECT: the refusals of R32 in their order, then its effect. -/
theorem tariffSelect_eq (f : RxFrame) (s : State) : tariffSelect f s =
    if s.meter.selectsTariff = false then answer Topic.tariffSelect f .refusedState s
    else if s.trc.restricted then answer Topic.tariffSelect f .refusedParams s
    else if s.fen.tariff (field f.payload 0 1) = none then answer Topic.tariffSelect f .refusedAbsent s
    else answer Topic.tariffSelect f .done (tariffSelected (field f.payload 0 1) s) := by
  unfold tariffSelect
  cases h : s.meter <;> simp [MeterState.selectsTariff, tariffSelected, h]

theorem tariffSelect_sound (f : RxFrame) {s : State} (h : FareSound s.fen) : FareSound (tariffSelect f s).fen := by
  have selected : FareSound (tariffSelected (field f.payload 0 1) s).fen := by
    unfold tariffSelected
    split
    · exact h
    · exact h.of_record ((fareSound_iff _).1 h).1 rfl rfl
  rw [tariffSelect_eq]
  repeat' split
  all_goals rw [(answer_frame _ _ _ _).2.1]
  all_goals assumption

/-- A present tariff stands in the table. -/
theorem Fen.tariff_mem {f : Fen} {i : Nat} {t : Tariff} (h : f.tariff i = some t) : some t ∈ f.tariffs := by
  unfold Fen.tariff at h
  split at h
  · exact absurd h (by simp)
  · rw [List.getD_eq_getElem?_getD] at h
    cases hx : f.tariffs[i - 1]? with
    | none => simp [hx] at h
    | some x =>
      obtain rfl : x = some t := by simpa [hx] using h
      exact List.mem_of_getElem? hx

/-- The flag fall and the booking fee of a hire start are far below the cap. -/
theorem Fen.hireStart_balanced {f : Fen} (h : f.TablesSound) (k trip index : Nat) (booked : Bool) :
    (f.hireStart k trip index booked).Balanced := by
  have fall : ∀ i, ((f.tariff i).getD ⟨0, 0, 0, 0, 0, .single⟩).f ≤ 99999 := fun i => by
    cases ht : f.tariff i with
    | none => simp
    | some t => exact h.1 t (Fen.tariff_mem ht)
  have fee : (if booked then f.bookingFee else 0) ≤ 99999 := by
    split
    · exact h.2
    · simp
  refine ⟨by simp [Fen.hireStart], (Nat.add_le_add (fall _) fee).trans (by decide)⟩

theorem hired_sound {s : State} (h : FareSound s.fen) : FareSound (hired s).fen := by
  refine (enqueueFareStatus_sameFare _).sound (h.of_record ?_ ?_ ?_)
  · exact Fen.hireStart_balanced (by simpa using ((fareSound_iff _).1 h).2) _ _ _ _
  · simp
  · simp

theorem hire_sound (f : RxFrame) {s : State} (h : FareSound s.fen) : FareSound (hire f s).fen := by
  unfold hire
  repeat' split
  all_goals rw [(answer_frame _ _ _ _).2.1]
  case isFalse => exact hired_sound h
  all_goals exact h


/-! ### Starts and supplies (R19, R20, R40 to R42, R193) -/

theorem FareRecord.empty_balanced : FareRecord.empty.Balanced := ⟨rfl, by decide⟩

/-- The tables of an image have their amounts in range; an INVALID image gives none. -/
theorem Fen.start_tables (f : Fen) (img : List Byte) (warm : Bool) : (f.start img warm).TablesSound := by
  unfold Fen.start
  split
  · refine ⟨fun t ht => ?_, ?_⟩
    · obtain ⟨i, -, hi⟩ := List.mem_map.1 ht
      unfold imageTariff at hi
      dsimp only at hi
      split at hi
      · rename_i range
        obtain ⟨m, -, rfl⟩ := Option.map_eq_some_iff.1 hi
        exact range.1
      · exact absurd hi (by simp)
    · show imageBookingFee img ≤ 99999
      unfold imageBookingFee
      split
      · assumption
      · simp
  · exact ⟨fun t ht => by simp [Fen.initial] at ht, Nat.zero_le _⟩

/-- The record is kept by the start of the FEN. -/
@[simp] theorem Fen.start_record (f : Fen) (img : List Byte) (warm : Bool) : (f.start img warm).record = f.record := by
  unfold Fen.start
  split <;> rfl

/-- The FEN as a load completion finds it: the kept record, or the empty one of a cold start. -/
def State.loadedFen (s : State) (img : List Byte) : Fen :=
  if s.pld.kind = .cold then ({ s.fen with record := FareRecord.empty } : Fen).start img false else s.fen.start img true

@[simp] theorem startTrips_fen (s : State) : (startTrips s).fen = s.fen := by
  unfold startTrips
  split
  · dsimp only
    split <;> simp
  · rfl

@[simp] theorem startAttempt_fen (s : State) : (startAttempt s).fen = s.fen := by
  unfold startAttempt
  repeat' split
  all_goals simp

@[simp] theorem startSettlement_fen (s : State) : (startSettlement s).fen = s.fen := by
  unfold startSettlement
  split
  · dsimp only
    split <;> simp
  · simp [stopSettlementTimers]

@[simp] theorem startShift_fen (s : State) : (startShift s).fen = s.fen := by
  unfold startShift
  split <;> simp

@[simp] theorem startAlarm_fen (s : State) : (startAlarm s).fen = s.fen := by
  unfold startAlarm
  dsimp only
  split <;> simp

@[simp] theorem startBlocks_fen (s : State) : (startBlocks s).fen = s.fen := by simp [startBlocks]

theorem loadCompletion_fen (img : List Byte) (s : State) :
    (loadCompletion img s).fen = s.fen ∨ (loadCompletion img s).fen = s.loadedFen img := by
  unfold loadCompletion
  split
  · right
    rw [startBlocks_fen, State.loadedFen]
    cases h : s.pld.kind with
    | cold => simp [deliverImage, coldRecords, h]; rfl
    | warm => simp [deliverImage, h]
  · exact .inl rfl

theorem loadCompletion_sound (img : List Byte) {s : State} (h : FareSound s.fen) :
    FareSound (loadCompletion img s).fen := by
  obtain same | loaded := loadCompletion_fen img s
  · rwa [same]
  · rw [loaded, State.loadedFen, fareSound_iff]
    split
    · exact ⟨by simpa using FareRecord.empty_balanced, Fen.start_tables _ _ _⟩
    · exact ⟨by simpa using ((fareSound_iff _).1 h).1, Fen.start_tables _ _ _⟩

theorem retainedOnly_sound {s : State} (h : FareSound s.fen) (main : Bool) (kind : StartKind) :
    FareSound (s.retainedOnly main kind).fen :=
  (fareSound_iff _).2 ⟨((fareSound_iff _).1 h).1, fun t ht => by simp [State.retainedOnly, Fen.initial] at ht,
    Nat.zero_le _⟩

theorem settleDue_sound {s : State} (h : FareSound s.fen) : FareSound (settleDue s).fen := by
  have due : (settleDue s).fen = s.fen := (settleDue_base s).2.1.trans (secondEnd_fen s)
  rwa [due]

theorem supplyLoss_sound {s : State} (h : FareSound s.fen) : FareSound (supplyLoss s).fen := by
  unfold supplyLoss
  split
  · exact retainedOnly_sound (settleDue_sound h) _ _
  · exact h

theorem supplyReturn_sound {s : State} (h : FareSound s.fen) : FareSound (supplyReturn s).fen := by
  unfold supplyReturn
  split
  · exact h
  · exact retainedOnly_sound h _ _

theorem resetPin_sound {s : State} (h : FareSound s.fen) : FareSound (resetPin s).fen := by
  unfold resetPin
  split
  · exact retainedOnly_sound (settleDue_sound h) _ _
  · exact h

theorem backupFail_fen (s : State) : (backupFail s).fen = s.fen := by
  unfold backupFail
  split <;> simp

/-! ### Every frame and every command -/

/-- A complete frame leaves the FEN, or its owner acts on the state after the reception. -/
theorem frameComplete_fen (topic : Nat) (f : RxFrame) (d : State → State) (s : State) :
    (frameComplete topic f d s).fen = s.fen ∨ frameComplete topic f d s = d (received s) := by
  unfold frameComplete
  split
  · exact .inl rfl
  · split
    · exact .inl (wakeOnEdge_fen s)
    · split
      · exact .inl rfl
      · dsimp only
        split
        · exact .inl (by simp [duplicateStation_fen])
        · split
          · exact .inl (by simp)
          · split
            · exact .inr rfl
            · exact .inl (by simp)
            · exact .inl (by simp)

theorem frameComplete_sound {d : State → State} (hd : ∀ t : State, FareSound t.fen → FareSound (d t).fen)
    (topic : Nat) (f : RxFrame) {s : State} (h : FareSound s.fen) : FareSound (frameComplete topic f d s).fen := by
  obtain same | acted := frameComplete_fen topic f d s
  · rwa [same]
  · rw [acted]
    exact hd _ (by simpa using h)

/-- Every topic's delivery. -/
theorem deliver_sound (topic : Nat) (f : RxFrame) {s : State} (h : FareSound s.fen) :
    FareSound (deliver topic f s).fen := by
  unfold deliver
  split
  case h_3 => exact hire_sound f h
  case h_10 => exact tariffSelect_sound f h
  case h_11 => exact extraAdd_sound f h
  case h_12 => exact extraRemove_sound f h
  all_goals simpa [alarmAck_fen, alarmClear_fen, stop_fen, resume_fen, settle_fen, void_fen, bookingAssign_fen,
    bookingCancel_fen, tenderCash_fen, tenderCard_fen, payCancel_fen, settleDefer_fen, shiftOpen_fen,
    shiftClose_fen, journalRead_fen, summaryRead_fen, talkPress_fen, talkRelease_fen, callPress_fen,
    callRelease_fen, signTest_fen, signWrite_fen, statusRead_fen, clockSet_fen, vehicleState_fen,
    payAccepted_fen, payResult_fen, payReference_fen, terminalTotals_fen] using h

/-- A command with a frame of topic `topic` is the delivery of that topic. -/
theorem frame_sound (topic : Nat) (f : RxFrame) {s : State} (h : FareSound s.fen) :
    FareSound (frameComplete topic f (deliver topic f) s).fen :=
  frameComplete_sound (fun _ ht => deliver_sound topic f ht) topic f h

/-- Every command, by the rows of the table. -/
theorem exec_sound (c : Instr) {s t : State} (h : FareSound s.fen) (he : exec c s = .next t) : FareSound t.fen := by
  have keep : ∀ {u : State}, u.fen = s.fen → FareSound u.fen := fun hu => by rwa [hu]
  cases c <;> obtain ⟨rfl⟩ := he
  case wheelInputChange l x => exact keep (wheelInput_fen l x s)
  case filterWidthElapsed l => exact keep (filterElapsed_fen l s)
  case windowEnd x => exact windowEnd_sound x h
  case secondEnd => exact keep (secondEnd_fen s)
  case retainedSecondsTick => exact keep (retainedTick_fen s)
  case alarmEntry => exact keep (alarmEntry_base s).2.1
  case repeatTimerExpiry => exact keep (repeatExpiry_base s).2.1
  case alarmAck f => exact frame_sound 2 f h
  case alarmClear f => exact frame_sound 3 f h
  case hire f => exact frame_sound 32 f h
  case stop f => exact frame_sound 33 f h
  case resume f => exact frame_sound 34 f h
  case settle f => exact frame_sound 35 f h
  case void f => exact frame_sound 36 f h
  case bookingAssign f => exact frame_sound 38 f h
  case bookingCancel f => exact frame_sound 39 f h
  case tariffSelect f => exact frame_sound 40 f h
  case extraAdd f => exact frame_sound 41 f h
  case extraRemove f => exact frame_sound 42 f h
  case tenderCash f => exact frame_sound 44 f h
  case tenderCard f => exact frame_sound 45 f h
  case payCancel f => exact frame_sound 46 f h
  case settleDefer f => exact frame_sound 47 f h
  case payAccepted f => exact frame_sound 64 f h
  case payResult f => exact frame_sound 65 f h
  case payReference f => exact frame_sound 66 f h
  case offerTimerExpiry => exact keep (offerExpiry_base s).2.1
  case resultTimerExpiry => exact keep (resultExpiry_base s).2.1
  case cancelTimerExpiry => exact keep (cancelExpiry_base s).2.1
  case queryTimerExpiry => exact keep (queryExpiry_base s).2.1
  case entryQueryTimerExpiry trip => exact keep (entryExpiry_base _ s).2.1
  case shiftOpen f => exact frame_sound 48 f h
  case shiftClose f => exact frame_sound 49 f h
  case terminalTotals f => exact frame_sound 68 f h
  case totalsTimerExpiry => exact keep (totalsExpiry_base s).2.1
  case journalRead f => exact frame_sound 50 f h
  case summaryRead f => exact frame_sound 51 f h
  case talkPress f => exact frame_sound 52 f h
  case talkRelease f => exact frame_sound 53 f h
  case callPress f => exact frame_sound 54 f h
  case callRelease f => exact frame_sound 55 f h
  case signTest f => exact frame_sound 56 f h
  case lampTestEnd => exact keep (lampTestEnd_base s).2.1
  case signWrite f => exact frame_sound 57 f h
  case refreshPass => exact keep (refreshPass_fen s)
  case scrollStep => exact keep (scrollStep_fen s)
  case samplePeriod a b c => exact keep (samplePeriod_fen a b c s)
  case slotEnd => exact keep (slotEnd_fen s)
  case chimeEnd => exact keep (chimeEnd_fen s)
  case statusRead f => exact frame_sound 58 f h
  case clockSet f => exact frame_sound 59 f h
  case vehicleState f => exact frame_sound 72 f h
  case receiveFault x => exact keep (receiveFault_fen x s)
  case unmatchedFrame topic f => exact frame_sound _ f h
  case ownNumberFrame topic cls payload => exact frame_sound _ (s.ownFrame cls payload) h
  case transmitAttempt => exact keep (transmitAttempt_fen s)
  case attemptSucceeded => exact (endAttemptWith_sameFare sentOne_sameFare _ _ s).sound h
  case attemptFailed x => exact (endAttemptWith_sameFare (failedOne_sameFare · x) _ _ s).sound h
  case arbitrationLost => exact (endAttemptWith_sameFare lostOne_sameFare _ _ s).sound h
  case offlineRecovery => exact keep (offlineRecovery_fen s)
  case listenPhaseEnd => exact keep (listenEnd_base s).2.1
  case dormancyEntry => exact keep (dormancyEntry_base s).2.1
  case wakeByLine => exact keep (wakeOnEdge_fen s)
  case mainSupplyLoss => exact supplyLoss_sound h
  case backupSupplyFail => exact keep (backupFail_fen s)
  case mainSupplyReturn => exact supplyReturn_sound h
  case resetPin => exact resetPin_sound h
  case loadCompletion img => exact loadCompletion_sound img h
  case lineIdle => exact keep (lineIdle_fen s)
  case startMark => exact keep (startMark_fen s)

/-- Settles O12: an idle step changes nothing, and the command at the front keeps the total. -/
theorem stepKeepsFareTotal : Obligations.StepKeepsFareTotal := by
  unfold Obligations.StepKeepsFareTotal
  intro s t h hs
  unfold step at hs
  split at hs
  · obtain ⟨rfl⟩ := hs
    exact h
  · rename_i c rest _
    exact exec_sound c (s := s.setPending rest) h hs

end Sys2Proof.Machine

/-! 02: tariff selection, a staged tariff, the extras and the hire start (R23, R29 to R37). -/

namespace Sys2Proof.Machine

/-! ### TARIFF_SELECT (R31, R32) -/

/-- The four states in which a tariff may be selected, and the three in which it may not (Table 2-9). -/
theorem MeterState.selectsTariff_iff (m : MeterState) :
    m.selectsTariff = true ↔ m = .free ∨ m = .booked ∨ m = .hired ∨ m = .stopped := by
  cases m <;> simp [MeterState.selectsTariff]

theorem MeterState.selectsTariff_false (m : MeterState) :
    m.selectsTariff = false ↔ m = .settling ∨ m = .offDuty ∨ m = .inoperative := by
  cases m <;> simp [MeterState.selectsTariff]

/-- A TARIFF_SELECT that reaches the FEN, by its byte. -/
theorem exec_tariffSelect {s : State} {f : RxFrame} {b : Byte} (hd : s.delivers 40 f = true) (hp : f.payload = [b]) :
    exec (.tariffSelect f) s = .next
      (if s.meter.selectsTariff = false then answer 40 f .refusedState (received s)
      else if s.trc.restricted then answer 40 f .refusedParams (received s)
      else if s.fen.tariff b.toNat = none then answer 40 f .refusedAbsent (received s)
      else answer 40 f .done (tariffSelected b.toNat (received s))) := by
  show Host.Outcome.next (frameComplete 40 f (tariffSelect f) s) = _
  rw [frameComplete_delivers _ hd, tariffSelect_eq, field_one (b := b) (by simp [hp])]
  simp [Topic.tariffSelect]

theorem tariffSelected_preselects {s : State} (i : Nat) (h : s.meter = .free ∨ s.meter = .booked) :
    tariffSelected i s = s.setTrc { s.trc with preselected := i } := by
  simp [tariffSelected, h]

theorem tariffSelected_stages {s : State} (i : Nat) (h : s.meter = .hired ∨ s.meter = .stopped) :
    tariffSelected i s = s.setFen { s.fen with
      record := { s.fen.record with staged := if i = s.fen.record.active then none else some i } } := by
  obtain h | h := h <;> simp [tariffSelected, h]

/-- Settles O8, by the meter state, the restriction and the table. -/
theorem tariffSelectPreselectsOrStages : Obligations.TariffSelectPreselectsOrStages := by
  unfold Obligations.TariffSelectPreselectsOrStages
  intro s f b hd hp
  rw [exec_tariffSelect hd hp]
  refine ⟨fun hm hr ht => ?_, fun hm hr ht => ?_, fun hm => ?_, fun hm hr => ?_, fun hm hr ht => ?_⟩
  · have selects : s.meter.selectsTariff = true := s.meter.selectsTariff_iff.2 (hm.imp_right .inl)
    rw [tariffSelected_preselects _ (by simpa using hm)]
    simp [selects, hr, Option.isSome_iff_ne_none.1 ht]
  · have selects : s.meter.selectsTariff = true := s.meter.selectsTariff_iff.2 (.inr (.inr hm))
    rw [tariffSelected_stages _ (by simpa using hm)]
    simp [selects, hr, Option.isSome_iff_ne_none.1 ht]
  · simp [s.meter.selectsTariff_false.2 hm]
  · simp [s.meter.selectsTariff_iff.2 hm, hr]
  · simp [s.meter.selectsTariff_iff.2 hm, hr, ht]

/-! ### A staged tariff (R29, R30) -/

theorem FareRecord.takeStaged_none {r : FareRecord} (f : Fen) (k : Nat) (x : Seq) (h : r.staged = none) :
    r.takeStaged f k x = (r, false) := by
  simp [FareRecord.takeStaged, h]

theorem FareRecord.takeStaged_absent {r : FareRecord} {f : Fen} {i : Nat} (k : Nat) (x : Seq)
    (h : r.staged = some i) (hf : f.tariff i = none) : r.takeStaged f k x = ({ r with staged := none }, false) := by
  simp [FareRecord.takeStaged, h, hf]

theorem FareRecord.takeStaged_present {r : FareRecord} {f : Fen} {i : Nat} {t : Tariff} (k : Nat) (x : Seq)
    (h : r.staged = some i) (hf : f.tariff i = some t) :
    r.takeStaged f k x = (r.changeTariff i t k x, true) := by
  simp [FareRecord.takeStaged, h, hf]

/-- Where there is room the change is listed. -/
theorem FareRecord.changeTariff_listed {r : FareRecord} (i : Nat) (t : Tariff) (k : Nat) (x : Seq)
    (h : r.changes.length < 4) : (r.changeTariff i t k x).changes = r.changes ++ [⟨i, x⟩]
      ∧ (r.changeTariff i t k x).flags = r.flags := by
  simp [FareRecord.changeTariff, Config.maxChanges, h]

theorem FareRecord.changeTariff_unlisted {r : FareRecord} (i : Nat) (t : Tariff) (k : Nat) (x : Seq)
    (h : 4 ≤ r.changes.length) : (r.changeTariff i t k x).changes = r.changes
      ∧ (r.changeTariff i t k x).flags = { r.flags with changesUnlisted := true } := by
  simp [FareRecord.changeTariff, Config.maxChanges, Nat.not_lt.2 h]

/-- Settles O11: an absent staged tariff is dropped; a present one rescales p and is listed where there is room. -/
theorem stagedTariffTakesEffect : Obligations.StagedTariffTakesEffect := by
  unfold Obligations.StagedTariffTakesEffect
  intro r f k x i hs
  refine ⟨FareRecord.takeStaged_absent k x hs, fun t y ht hy => ?_⟩
  have hp : (r.changeTariff i t k x).p = progressOf y := by rw [hy]; rfl
  refine ⟨r.changeTariff i t k x, FareRecord.takeStaged_present k x hs ht, fun h => ?_, fun h => ?_, rfl, rfl, rfl,
    FareRecord.changeTariff_listed i t k x, FareRecord.changeTariff_unlisted i t k x, rfl, rfl, rfl, rfl, rfl, rfl, rfl⟩
  · exact hp.trans (progressOf_exact h)
  · exact hp ▸ progressOf_below h

/-! ### State topics at an event (R38, R65) -/

/-- An enqueue that was taken carries; one that was not has its topic owed. -/
theorem Cbi.enqueued.carriesOrOwes {c : Cbi} {taken owed : Bool} {topic : Nat} {payload : List Byte}
    (h : c.enqueued taken topic payload) (ho : taken = false → owed = true) : c.carriesOrOwes owed topic payload := by
  cases ht : taken with
  | true => exact .inl (h.1 ht)
  | false => exact .inr ⟨ho ht, h.2 ht⟩

/-- What a state topic came to stays, where later frames are of other topics. -/
theorem Cbi.TookFrames.carriesOrOwes {topics : List Nat} {c d : Cbi} (h : c.TookFrames topics d) {owed : Bool}
    {topic : Nat} {payload : List Byte} (ht : topic ∉ topics) (hc : c.carriesOrOwes owed topic payload) :
    d.carriesOrOwes owed topic payload := by
  obtain carried | ⟨ho, full⟩ := hc
  · exact .inl ((h.enqueued (taken := true) ht ⟨fun _ => carried, nofun⟩).1 rfl)
  · exact .inr ⟨ho, fun i h1 h8 => h.filled i (full i h1 h8)⟩

/-- `carriesOrOwes` reads the mailboxes alone. -/
theorem Cbi.carriesOrOwes_of_boxes {c d : Cbi} (h : d.boxes = c.boxes) {owed : Bool} {topic : Nat}
    {payload : List Byte} : d.carriesOrOwes owed topic payload ↔ c.carriesOrOwes owed topic payload := by
  simp [Cbi.carriesOrOwes, Cbi.carries, Cbi.box, h]

theorem enqueueFareStatus_carriesOrOwes (s : State) (hl : s.cbi.boxes.length = 8) :
    (enqueueFareStatus s).cbi.carriesOrOwes (enqueueFareStatus s).fen.owed 112 s.fareFrame.payload := by
  have h := enqueue_enqueued s (f := s.fareFrame) (by simp [s.fareFrame_header, clsAlarm]) hl
  unfold enqueueFareStatus
  dsimp only
  split
  · rename_i taken
    exact h.carriesOrOwes fun no => absurd (taken.symm.trans no) nofun
  · exact h.carriesOrOwes fun _ => rfl

theorem enqueueFareStatus_took (s : State) : s.cbi.TookFrames [112] (enqueueFareStatus s).cbi := by
  have h := enqueue_took s (f := s.fareFrame) (topics := [112]) (by simp [s.fareFrame_header, clsAlarm])
    (by simp [s.fareFrame_header])
  unfold enqueueFareStatus
  dsimp only
  split <;> exact h

theorem enqueueMeterState_carriesOrOwes (s : State) (hl : s.cbi.boxes.length = 8) :
    (enqueueMeterState s).cbi.carriesOrOwes (enqueueMeterState s).trc.owed 113 s.meterFrame.payload := by
  have h := enqueue_enqueued s (f := s.meterFrame) (by simp [clsAlarm]) hl
  unfold enqueueMeterState
  dsimp only
  split
  · rename_i taken
    exact h.carriesOrOwes fun no => absurd (taken.symm.trans no) nofun
  · exact h.carriesOrOwes fun _ => rfl

theorem enqueueTalkState_took (s : State) : s.cbi.TookFrames [114] (enqueueTalkState s).cbi :=
  enqueue_took s (f := s.talkFrame) (by simp [clsAlarm]) (by simp)

theorem changeFloor_took (x : Floor) (w : Bool) (s : State) : s.cbi.TookFrames [114] (changeFloor x w s).cbi := by
  unfold changeFloor
  split
  · exact .refl _ _
  · exact enqueueTalkState_took (setRouting (s.setCau { s.cau with floor := x, rearWaiting := w }))

theorem clearFloor_took (s : State) : s.cbi.TookFrames [114] (clearFloor s).cbi :=
  changeFloor_took .none false (s.setCau { s.cau with frontHeld := false, rearHeld := false })

/-- METER_STATE at a change of the meter state: a TALK_STATE after it leaves it. -/
theorem meterChanged_carriesOrOwes (old : MeterState) (s : State) (hl : s.cbi.boxes.length = 8) :
    (meterChanged old s).cbi.carriesOrOwes (meterChanged old s).trc.owed 113 s.meterFrame.payload := by
  have h := enqueueMeterState_carriesOrOwes s hl
  unfold meterChanged
  dsimp only
  split
  · have later := (clearFloor_took (updateLamp (enqueueMeterState s))).carriesOrOwes (by decide) h
    split <;> simpa using later
  · simpa using h

theorem enqueueMeterState_took (s : State) : s.cbi.TookFrames [113] (enqueueMeterState s).cbi := by
  have h := enqueue_took s (f := s.meterFrame) (topics := [113]) (by simp [clsAlarm]) (by simp)
  unfold enqueueMeterState
  dsimp only
  split <;> exact h

theorem meterChanged_took (old : MeterState) (s : State) : s.cbi.TookFrames [113, 114] (meterChanged old s).cbi := by
  have h := enqueueMeterState_took s
  unfold meterChanged
  dsimp only
  split
  · have later := h.trans (clearFloor_took (updateLamp (enqueueMeterState s)))
    split <;> simpa using later
  · simpa using h.mono (by simp)

theorem setHeld_took (x : HeldState) (s : State) : s.cbi.TookFrames [113, 114] (setHeld x s).cbi :=
  meterChanged_took _ (s.setTrc { s.trc with held := x })

theorem setHeld_carriesOrOwes (x : HeldState) (s : State) (hl : s.cbi.boxes.length = 8) :
    (setHeld x s).cbi.carriesOrOwes (setHeld x s).trc.owed 113
      (s.setTrc { s.trc with held := x }).meterFrame.payload :=
  meterChanged_carriesOrOwes _ (s.setTrc { s.trc with held := x }) hl

/-! ### The extras (R34, R35, R37) -/

/-- A new fare record of an AWAKE part that has just taken a frame, and its FARE_STATUS. -/
theorem fareChanged_spec {s : State} (hd : (received s).cbi.dormant = false) (r : FareRecord) :
    ∃ u, u = enqueueFareStatus ((received s).setFen { s.fen with record := r })
      ∧ u = { s with fen := u.fen, cbi := u.cbi } ∧ (received s).cbi.onlyMailboxes u.cbi
      ∧ u.fen = { s.fen with owed := u.fen.owed, record := r }
      ∧ (s.cbi.boxes.length = 8 → u.cbi.carriesOrOwes u.fen.owed 112 (be 2 r.trip
          ++ [codeByte s.meter.code, codeByte r.active] ++ be 3 r.total ++ be 2 r.drops)) := by
  obtain ⟨c, b, h, only⟩ := enqueueFareStatus_awake (s := (received s).setFen { s.fen with record := r }) hd
  obtain ⟨c0, h0, -⟩ := received_eq s
  refine ⟨_, rfl, ?_, ?_, ?_, fun hl => ?_⟩
  · rw [h, h0]; rfl
  · rw [h]; exact only
  · rw [h]; rfl
  · have carried := enqueueFareStatus_carriesOrOwes ((received s).setFen { s.fen with record := r }) (by simpa using hl)
    simpa [State.fareFrame, State.meter] using carried

theorem State.extrasOpen_iff (s : State) : s.extrasOpen = true ↔ s.meter = .hired ∨ s.meter = .stopped := by
  simp [State.extrasOpen]

@[simp] theorem received_extrasOpen (s : State) : (received s).extrasOpen = s.extrasOpen := by simp [State.extrasOpen]

/-- An EXTRA_ADD within every limit. -/
theorem extraAdd_done {s : State} {f : RxFrame} {i : Nat} {k : ExtraKind} (hi : field f.payload 0 1 = i)
    (hm : s.extrasOpen = true) (hk : s.fen.kind i = some k) (he : s.fen.record.extras.length < 8)
    (hc : (s.fen.record.extras.filter (·.kind == i)).length < k.limit)
    (ht : s.fen.record.total + k.amount ≤ 9999999) :
    extraAdd f s = answer 41 f .done (enqueueFareStatus (s.setFen { s.fen with record := { s.fen.record with
      extras := s.fen.record.extras ++ [⟨i, k.amount⟩], total := s.fen.record.total + k.amount } })) := by
  simp [extraAdd, hi, hm, hk, Topic.extraAdd, Config.maxExtras, Config.maxAmount, Nat.not_le.2 he, Nat.not_le.2 hc,
    Nat.not_lt.2 ht]

/-- Of the entries of a kind the one added last is found first from the end, and it alone is removed. -/
theorem find_removeLast {i : Nat} {front back : List Extra} {e : Extra} (he : e.kind = i)
    (hb : ∀ x ∈ back, x.kind ≠ i) :
    (front ++ e :: back).reverse.find? (·.kind == i) = some e ∧ removeLast i (front ++ e :: back) = front ++ back := by
  have skip : ∀ x ∈ back.reverse, ¬(x.kind == i) = true := by simpa using hb
  have hr : (front ++ e :: back).reverse = back.reverse ++ e :: front.reverse := by simp
  refine ⟨?_, ?_⟩
  · rw [hr, List.find?_append, List.find?_eq_none.2 skip]
    simp [he]
  · rw [removeLast, hr, List.eraseP_append_right _ skip]
    simp [he]

theorem extraRemove_done {s : State} {f : RxFrame} {i : Nat} {front back : List Extra} {e : Extra}
    (hi : field f.payload 0 1 = i) (hm : s.extrasOpen = true) (hx : s.fen.record.extras = front ++ e :: back)
    (he : e.kind = i) (hb : ∀ x ∈ back, x.kind ≠ i) :
    extraRemove f s = answer 42 f .done (enqueueFareStatus (s.setFen { s.fen with record := { s.fen.record with
      extras := front ++ back, total := s.fen.record.total - e.amount } })) := by
  obtain ⟨found, removed⟩ := find_removeLast (front := front) he hb
  simp [extraRemove, hi, hm, hx, found, removed, Topic.extraRemove, -List.reverse_append, -List.reverse_cons]

theorem exec_extraAdd {s : State} {f : RxFrame} (hd : s.delivers 41 f = true) :
    exec (.extraAdd f) s = .next (extraAdd f (received s)) :=
  congrArg Host.Outcome.next (frameComplete_delivers (extraAdd f) hd)

theorem exec_extraRemove {s : State} {f : RxFrame} (hd : s.delivers 42 f = true) :
    exec (.extraRemove f) s = .next (extraRemove f (received s)) :=
  congrArg Host.Outcome.next (frameComplete_delivers (extraRemove f) hd)

/-- Settles O9: each request carried out is one new fare record with its FARE_STATUS; and the refusals. -/
theorem extrasMoveTheTotal : Obligations.ExtrasMoveTheTotal := by
  unfold Obligations.ExtrasMoveTheTotal
  have byte : ∀ {f : RxFrame} {b : Byte}, f.payload = [b] → field f.payload 0 1 = b.toNat := fun hp =>
    field_one (by simp [hp])
  refine ⟨?_, ?_, ?_, ?_⟩
  · intro s f b k hd hp hm hk he hc ht
    obtain ⟨u, hu, spec⟩ := fareChanged_spec (State.delivers_awake hd) { s.fen.record with
      extras := s.fen.record.extras ++ [⟨b.toNat, k.amount⟩], total := s.fen.record.total + k.amount }
    refine ⟨u, ?_, spec⟩
    have opened : (received s).extrasOpen = true := by simpa [State.extrasOpen] using hm
    rw [exec_extraAdd hd, extraAdd_done (byte hp) opened (by simpa using hk) (by simpa using he) (by simpa using hc)
      (by simpa using ht), hu]
    simp
  · intro s f b front e back hd hp hm hx he hb
    obtain ⟨u, hu, spec⟩ := fareChanged_spec (State.delivers_awake hd) { s.fen.record with
      extras := front ++ back, total := s.fen.record.total - e.amount }
    refine ⟨u, ?_, spec⟩
    have opened : (received s).extrasOpen = true := by simpa [State.extrasOpen] using hm
    rw [exec_extraRemove hd, extraRemove_done (byte hp) opened (by simpa using hx) he hb, hu]
    simp
  · intro s f b hd hp
    rw [exec_extraAdd hd]
    refine ⟨fun hm => ?_, fun hm hk => ?_, fun k hm hk limit => ?_⟩
    · have shut : s.extrasOpen = false := by simpa [State.extrasOpen] using hm
      simp [extraAdd, shut, Topic.extraAdd]
    · simp [extraAdd, byte hp, s.extrasOpen_iff.2 hm, hk, Topic.extraAdd]
    · simp [extraAdd, byte hp, s.extrasOpen_iff.2 hm, hk, Topic.extraAdd, Config.maxExtras, Config.maxAmount, limit]
  · intro s f b hd hp
    rw [exec_extraRemove hd]
    refine ⟨fun hm => ?_, fun hm absent => ?_⟩
    · have shut : s.extrasOpen = false := by simpa [State.extrasOpen] using hm
      simp [extraRemove, shut, Topic.extraRemove]
    · have none : s.fen.record.extras.reverse.find? (·.kind == b.toNat) = none := by simpa using absent
      simp [extraRemove, byte hp, s.extrasOpen_iff.2 hm, none, Topic.extraRemove]

/-! ### HIRE (R23, R45 to R48) -/

/-- The tariff a HIRE asks for: the booking's where it names a present one, else the preselected one. -/
theorem State.chosenTariff_eq {s : State} {j : Nat}
    (hb : ∀ b, s.trc.booking = some b → (s.fen.tariff b.tariff).isSome → j = b.tariff)
    (hp : (∀ b, s.trc.booking = some b → s.fen.tariff b.tariff = none) → j = s.trc.preselected) :
    s.chosenTariff = j := by
  unfold State.chosenTariff
  split
  · rename_i b he
    split
    · exact (hb b he ‹_›).symm
    · rename_i absent
      refine (hp fun x hx => ?_).symm
      obtain rfl := Option.some.inj (he.symm.trans hx)
      simpa using absent
  · rename_i he
    exact (hp fun x hx => by simp [he] at hx).symm

/-- The lowest-numbered present tariff. -/
theorem Fen.lowestTariff_eq {f : Fen} {i : Nat} (hi : (f.tariff i).isSome) (h8 : i ≤ 8)
    (hl : ∀ n, n < i → f.tariff n = none) : f.lowestTariff = i := by
  have h1 : 1 ≤ i := by
    by_contra h
    obtain rfl : i = 0 := by omega
    simp [Fen.tariff] at hi
  have places : ([1, 2, 3, 4, 5, 6, 7, 8] : List Nat) = List.range' 1 (i - 1) ++ i :: List.range' (i + 1) (8 - i) := by
    interval_cases i <;> rfl
  have below : ∀ n ∈ List.range' 1 (i - 1), ¬(f.tariff n).isSome = true := fun n hn => by
    rw [List.mem_range'_1] at hn
    simp [hl n (by omega)]
  rw [Fen.lowestTariff, places, List.find?_append, List.find?_eq_none.2 below]
  simp [hi]

/-- The fare record of a hire start, at the tariff asked for where it is present, else at the lowest. -/
theorem Fen.hireStart_eq {f : Fen} {i j : Nat} {t : Tariff} (k trip : Nat) (booked : Bool)
    (ht : f.tariff i = some t) (hj : (f.tariff j).isSome → i = j)
    (hl : f.tariff j = none → i ≤ 8 ∧ ∀ n, n < i → f.tariff n = none) :
    f.hireStart k trip j booked = {
      trip := trip
      active := i
      working := ⟨t, k⟩
      staged := none
      atStart := i
      p := -(4 * k * t.td * t.d0 : Int)
      drops := 0
      metered := t.f
      extras := []
      bookingFee := if booked then f.bookingFee else 0
      total := t.f + (if booked then f.bookingFee else 0)
      changes := []
      flags := ⟨false, false, false, false⟩ } := by
  have active : (if (f.tariff j).isSome then j else f.lowestTariff) = i := by
    split
    · exact (hj ‹_›).symm
    · rename_i absent
      obtain ⟨h8, hn⟩ := hl (by simpa using absent)
      exact Fen.lowestTariff_eq (by simp [ht]) h8 hn
  simp [Fen.hireStart, active, ht, WorkingTariff.q0, FareFlags.none]

/-- A HIRE with nothing against it. -/
theorem hire_done {s : State} {f : RxFrame} (hm : s.meter = .free ∨ s.meter = .booked) (hr : s.trc.restricted = false)
    (hs : s.odu.sensor = .ok ∨ s.odu.sensor = .suspect) (hu : s.stu.unsettled.length < 4)
    (hl : s.trc.lastTrip < 65535) : hire f s = answer 32 f .done (hired s) := by
  have works : s.meter ≠ .inoperative := by obtain h | h := hm <;> simp [h]
  have trusted : s.odu.sensor.trusted = true := by obtain h | h := hs <;> simp [h, SensorState.trusted]
  simp [hire, works, hm, hr, trusted, Config.maxUnsettled, Nat.not_le.2 hu, Config.max16, Nat.not_le.2 hl, Topic.hire]

/-- The TRC's part of a HIRE, before the meter changes. -/
def State.tripBegun (s : State) : State :=
  s.setTrc { s.trc with lastTrip := s.trc.lastTrip + 1, record := some s.newRecord, booking := none }

/-- A HIRE carried out on an AWAKE part in FREE or BOOKED: four blocks change, and METER_STATE and FARE_STATUS say so. -/
theorem hired_spec {s : State} (hd : s.cbi.dormant = false) (hm : s.meter = .free ∨ s.meter = .booked) :
    ∃ c b o, hired s = { s with
          trc := { s.trc with
            held := .hired
            lastTrip := s.trc.lastTrip + 1
            record := some s.newRecord
            booking := none
            owed := b }
          fen := { s.fen with
            record := s.fen.hireStart s.odu.k (s.trc.lastTrip + 1) s.chosenTariff s.trc.booking.isSome
            owed := o }
          rsd := { s.rsd with freeLamp := false }
          cbi := c }
      ∧ s.cbi.onlyMailboxes c
      ∧ (s.cbi.boxes.length = 8 →
          c.carriesOrOwes b 113 (meterBytes 4 (s.trc.lastTrip + 1) s.trc.restricted s.sau.shift)
          ∧ c.carriesOrOwes o 112 (be 2 (s.trc.lastTrip + 1)
            ++ [4, codeByte (s.fen.hireStart s.odu.k (s.trc.lastTrip + 1) s.chosenTariff s.trc.booking.isSome).active]
            ++ be 3 (s.fen.hireStart s.odu.k (s.trc.lastTrip + 1) s.chosenTariff s.trc.booking.isSome).total
            ++ be 2 0)) := by
  have reason : s.trc.reason = .none := by
    obtain h | h := hm <;> exact (Trc.meter_held h (by decide)).1
  have outside : s.meter.inTrip = false := by obtain h | h := hm <;> simp [h, MeterState.inTrip]
  have meter : (s.tripBegun.setTrc { s.tripBegun.trc with held := .hired }).meter = .hired := by
    simp [State.meter, Trc.meter, State.tripBegun, reason, HeldState.meter]
  obtain ⟨c1, b, held, only1⟩ := setHeld_stay (s := s.tripBegun) .hired hd reason
    (by show (s.meter.inTrip && _) = false; simp [outside])
  have meter_told := setHeld_carriesOrOwes .hired s.tripBegun
  have meter_took := setHeld_took .hired s.tripBegun
  have hired_eq : hired s = enqueueFareStatus ((setHeld .hired s.tripBegun).setFen { s.fen with
      record := s.fen.hireStart s.odu.k (s.trc.lastTrip + 1) s.chosenTariff s.trc.booking.isSome }) := by
    show enqueueFareStatus ((setHeld .hired s.tripBegun).setFen { (setHeld .hired s.tripBegun).fen with
      record := (setHeld .hired s.tripBegun).fen.hireStart (setHeld .hired s.tripBegun).odu.k _ _ _ }) = _
    rw [(setHeld_frame .hired s.tripBegun).1, (setHeld_frame .hired s.tripBegun).2.1]
    rfl
  have trip : (s.fen.hireStart s.odu.k (s.trc.lastTrip + 1) s.chosenTariff s.trc.booking.isSome).trip
      = s.trc.lastTrip + 1 := rfl
  have drops : (s.fen.hireStart s.odu.k (s.trc.lastTrip + 1) s.chosenTariff s.trc.booking.isSome).drops = 0 := rfl
  generalize s.fen.hireStart s.odu.k (s.trc.lastTrip + 1) s.chosenTariff s.trc.booking.isSome = r
    at hired_eq trip drops ⊢
  generalize hv : (setHeld .hired s.tripBegun).setFen { s.fen with record := r } = v at hired_eq
  rw [held] at hv meter_told meter_took
  have awake : v.cbi.dormant = false := by rw [← hv]; exact (Cbi.onlyMailboxes_dormant only1).trans hd
  obtain ⟨c, o, status, only⟩ := enqueueFareStatus_awake awake
  have took := enqueueFareStatus_took v
  have fare_told := enqueueFareStatus_carriesOrOwes v
  have fare_frame : v.fareFrame.payload
      = be 2 (s.trc.lastTrip + 1) ++ [4, codeByte r.active] ++ be 3 r.total ++ be 2 0 := by
    have hired : v.meter = .hired := by rw [← hv]; exact meter
    have record : v.fen.record = r := by rw [← hv]; rfl
    simp [State.fareFrame, hired, record, trip, drops, MeterState.code, codeByte]
  rw [status] at took fare_told
  refine ⟨c, b, o, ?_, ?_, fun hl => ?_⟩
  · rw [hired_eq, status, ← hv]
    rfl
  · exact Cbi.onlyMailboxes_trans only1 (by rw [← hv] at only; exact only)
  · have length : v.cbi.boxes.length = 8 := by
      rw [← hv]
      exact meter_took.length.trans hl
    refine ⟨?_, fare_frame ▸ fare_told length⟩
    refine took.carriesOrOwes (by decide) ?_
    rw [State.meterFrame, meter] at meter_told
    rw [← hv]
    exact meter_told hl

/-- Settles O14: the HIRE passes its checks, and its fare record is the one of the tariff chosen. -/
theorem hireStartsTheTrip : Obligations.HireStartsTheTrip := by
  unfold Obligations.HireStartsTheTrip
  intro s f i j t hd hm hr hs hu hl hb hp ht hj hlow
  obtain ⟨c, b, o, hired_eq, only, told⟩ := hired_spec (s := received s) (State.delivers_awake hd) (by simpa using hm)
  have chosen : (received s).chosenTariff = j := State.chosenTariff_eq (by simpa using hb) (by simpa using hp)
  have record := Fen.hireStart_eq s.odu.k (s.trc.lastTrip + 1) s.trc.booking.isSome ht hj hlow
  refine ⟨hired (received s), (received s).newRecord, ?_, ?_⟩
  · show Host.Outcome.next (frameComplete 32 f (hire f) s) = _
    rw [frameComplete_delivers _ hd, hire_done (by simpa using hm) (by simpa using hr) (by simpa using hs)
      (by simpa using hu) (by simpa using hl)]
  · rw [chosen] at hired_eq told
    rw [hired_eq]
    simp only [received_frame] at record told ⊢
    rw [record, hr] at told
    simp only [record, State.newRecord, Odu.stamp, received_frame, true_and, and_true]
    exact ⟨fun hlen => told (by simpa using hlen), only⟩

end Sys2Proof.Machine

/-! 02: the charge of a window (R24 to R29, R37, R38). -/

namespace Sys2Proof.Machine

/-! ### The drops of a window (R26 to R28) -/

/-- The record after `n` drops (R26). -/
def FareRecord.dropped (r : FareRecord) (n : Nat) : FareRecord :=
  { r with
    p := r.p - n * r.working.q
    drops := min (r.drops + n) 65535
    metered := r.metered + n * r.working.tariff.a
    total := r.total + n * r.working.tariff.a }

theorem FareRecord.dropped_zero {r : FareRecord} (h : r.drops ≤ 65535) : r.dropped 0 = r := by
  simp [FareRecord.dropped, h]

theorem FareRecord.dropped_succ (r : FareRecord) (n : Nat) : (r.dropped 1).dropped n = r.dropped (n + 1) := by
  simp only [FareRecord.dropped]
  congr 1
  · push_cast; ring
  · omega
  · ring
  · ring

/-- The first of some drops, as `FareRecord.drop` makes it. -/
theorem FareRecord.dropped_one (r : FareRecord) : r.dropped 1 =
    { r with
      p := r.p - r.working.q
      drops := satAdd Config.max16 r.drops 1
      metered := r.metered + r.working.tariff.a
      total := r.total + r.working.tariff.a } := by
  simp [FareRecord.dropped, satAdd, Config.max16]

/-- At most `m` drops: `n` of them, each from a p of at least Q and within the cap; and how they end. -/
theorem FareRecord.drop_spec (m : Nat) (r : FareRecord) (h : r.drops ≤ 65535) :
    ∃ n, n ≤ m
      ∧ (∀ j : Nat, j < n → (j + 1) * r.working.q ≤ r.p ∧ r.total + (j + 1) * r.working.tariff.a ≤ 9999999)
      ∧ (((r.dropped n).p < r.working.q ∧ r.drop m = (r.dropped n, false))
        ∨ (n = m ∧ r.working.q ≤ (r.dropped n).p
          ∧ r.drop m = ({ r.dropped n with p := r.working.q - 1, flags := { r.flags with rateLimited := true } }, true))
        ∨ (n < m ∧ r.working.q ≤ (r.dropped n).p ∧ 9999999 < (r.dropped n).total + r.working.tariff.a
          ∧ r.drop m = ({ r.dropped n with p := r.working.q - 1, flags := { r.flags with capped := true } }, false))) := by
  induction m generalizing r with
  | zero =>
    refine ⟨0, le_rfl, nofun, ?_⟩
    rw [FareRecord.dropped_zero h]
    unfold FareRecord.drop
    split
    · exact .inr (.inl ⟨rfl, ‹_›, rfl⟩)
    · exact .inl ⟨not_le.1 ‹_›, rfl⟩
  | succ m ih =>
    by_cases reached : r.working.q ≤ r.p
    swap
    · refine ⟨0, Nat.zero_le _, nofun, .inl ?_⟩
      rw [FareRecord.dropped_zero h]
      exact ⟨not_le.1 reached, by simp [FareRecord.drop, reached]⟩
    by_cases cap : Config.maxAmount < r.total + r.working.tariff.a
    · refine ⟨0, Nat.zero_le _, nofun, .inr (.inr ?_)⟩
      rw [FareRecord.dropped_zero h]
      exact ⟨Nat.succ_pos m, reached, cap, by simp [FareRecord.drop, reached, cap]⟩
    · have first : r.drop (m + 1) = (r.dropped 1).drop m := by
        rw [FareRecord.dropped_one]
        simp [FareRecord.drop, reached, cap]
      obtain ⟨n, hn, each, ends⟩ := ih (r.dropped 1) (by simp [FareRecord.dropped])
      refine ⟨n + 1, Nat.succ_le_succ hn, fun j hj => ?_, ?_⟩
      · cases j with
        | zero => exact ⟨by simpa using reached, by simpa [Config.maxAmount] using cap⟩
        | succ j =>
          obtain ⟨hp, ht⟩ := each j (by omega)
          simp only [FareRecord.dropped] at hp ht
          constructor
          · push_cast at hp ⊢; linarith
          · linarith
      · rw [first, ← FareRecord.dropped_succ]
        exact ends.imp_right (Or.imp (And.imp_left (congrArg _)) (And.imp_left Nat.succ_lt_succ))

/-- The same, with the record's p and flags apart from what every end has in common. -/
theorem FareRecord.drop_ends (m : Nat) (r : FareRecord) (h : r.drops ≤ 65535) :
    ∃ n, n ≤ m
      ∧ (∀ j : Nat, j < n → (j + 1) * r.working.q ≤ r.p ∧ r.total + (j + 1) * r.working.tariff.a ≤ 9999999)
      ∧ (r.drop m).1 = { r.dropped n with p := (r.drop m).1.p, flags := (r.drop m).1.flags }
      ∧ (((r.dropped n).p < r.working.q ∧ (r.drop m).1.p = (r.dropped n).p ∧ (r.drop m).2 = false
          ∧ (r.drop m).1.flags = r.flags)
        ∨ (n = m ∧ r.working.q ≤ (r.dropped n).p ∧ (r.drop m).1.p = r.working.q - 1 ∧ (r.drop m).2 = true
          ∧ (r.drop m).1.flags = { r.flags with rateLimited := true })
        ∨ (n < m ∧ r.working.q ≤ (r.dropped n).p ∧ 9999999 < (r.dropped n).total + r.working.tariff.a
          ∧ (r.drop m).1.p = r.working.q - 1 ∧ (r.drop m).2 = false
          ∧ (r.drop m).1.flags = { r.flags with capped := true })) := by
  obtain ⟨n, hn, each, ends⟩ := r.drop_spec m h
  refine ⟨n, hn, each, ?_⟩
  obtain ⟨low, e⟩ | ⟨all, high, e⟩ | ⟨few, high, cap, e⟩ := ends <;> rw [e]
  · exact ⟨rfl, .inl ⟨low, rfl, rfl, rfl⟩⟩
  · exact ⟨rfl, .inr (.inl ⟨all, high, rfl, rfl, rfl⟩)⟩
  · exact ⟨rfl, .inr (.inr ⟨few, high, cap, rfl, rfl, rfl⟩)⟩

/-- The total after the drops is still within the cap. -/
theorem FareRecord.dropped_total {r : FareRecord} {n : Nat} (h : r.total ≤ 9999999)
    (each : ∀ j : Nat, j < n → (j + 1) * r.working.q ≤ r.p ∧ r.total + (j + 1) * r.working.tariff.a ≤ 9999999) :
    (r.dropped n).total ≤ 9999999 := by
  cases n with
  | zero => simpa [FareRecord.dropped] using h
  | succ n => exact (each n n.lt_succ_self).2

/-- The staged tariff is not read by the drops. -/
theorem FareRecord.drop_staged (m : Nat) (r : FareRecord) (x : Option Nat) :
    ({ r with staged := x } : FareRecord).drop m = ({ (r.drop m).1 with staged := x }, (r.drop m).2) := by
  induction m generalizing r with
  | zero =>
    unfold FareRecord.drop
    dsimp only
    split <;> rfl
  | succ m ih =>
    unfold FareRecord.drop
    dsimp only
    split
    · split
      · rfl
      · exact ih { r with
          p := r.p - r.working.q
          drops := satAdd Config.max16 r.drops 1
          metered := r.metered + r.working.tariff.a
          total := r.total + r.working.tariff.a }
    · rfl

/-- The drops leave the staged tariff. -/
theorem FareRecord.drop_keeps_staged (m : Nat) (r : FareRecord) : (r.drop m).1.staged = r.staged :=
  congrArg (fun d => d.1.staged) (r.drop_staged m r.staged)

/-! ### The charged state -/

/-- The record of a window before a staged tariff is looked at, and whether the window is rate-limited. -/
def State.charge (s : State) (w : WindowRecord) : FareRecord × Bool :=
  (s.fen.record.advance w).drop Config.dropsPerWindow

theorem State.charge_staged (s : State) (w : WindowRecord) : (s.charge w).1.staged = s.fen.record.staged :=
  FareRecord.drop_keeps_staged _ _

/-- The record taken over, and a rate-limited window reported. -/
def State.charged (s : State) (r : FareRecord) (limited : Bool) : State :=
  if limited then report Counters.addRateLimited (s.setFen { s.fen with record := r })
  else s.setFen { s.fen with record := r }

theorem State.charged_eq (s : State) (r : FareRecord) (limited : Bool) :
    s.charged r limited = { s with
      fen := { s.fen with record := r }
      sau := if limited = true ∧ s.sau.shift ≠ .closed
        then { s.sau with counters := s.sau.counters.addRateLimited } else s.sau } := by
  unfold State.charged report
  by_cases hc : s.sau.shift = .closed <;> cases limited <;> simp [hc, State.setFen, State.setSau]

theorem fareWindow_hired {s : State} (w : WindowRecord) (h : s.meter = .hired) : fareWindow w s =
    (let c := (s.charge w).1.takeStaged s.fen s.odu.k w.sequence
    let t := s.charged c.1 (s.charge w).2
    let t' := if c.2 then requestChime .tariffChanged t else t
    if c.1.total ≠ s.fen.record.total ∨ c.2 ∨ s.fen.owed then windowFareStatus t' else t') := by
  have owed : ∀ r l (c : Bool), (if c then requestChime .tariffChanged (s.charged r l) else s.charged r l).fen.owed
      = s.fen.owed := fun r l c => by
    split <;> simp [State.charged_eq]
  have unfolded : fareWindow w s = (let c := (s.charge w).1.takeStaged s.fen s.odu.k w.sequence
      let t := s.charged c.1 (s.charge w).2
      let t' := if c.2 then requestChime .tariffChanged t else t
      if c.1.total ≠ s.fen.record.total ∨ c.2 ∨ t'.fen.owed then windowFareStatus t' else t') := if_pos h
  rw [unfolded]
  simp only [owed]

/-- With none staged, or an absent one, no tariff changes. -/
theorem fareWindow_unchanged {s : State} {r : FareRecord} (w : WindowRecord) (h : s.meter = .hired)
    (hc : (s.charge w).1.takeStaged s.fen s.odu.k w.sequence = (r, false)) : fareWindow w s =
    if r.total ≠ s.fen.record.total ∨ s.fen.owed then windowFareStatus (s.charged r (s.charge w).2)
    else s.charged r (s.charge w).2 := by
  simp [fareWindow_hired w h, hc]

/-- A change of tariff is always reported. -/
theorem fareWindow_changed {s : State} {r : FareRecord} (w : WindowRecord) (h : s.meter = .hired)
    (hc : (s.charge w).1.takeStaged s.fen s.odu.k w.sequence = (r, true)) : fareWindow w s =
    windowFareStatus (requestChime .tariffChanged (s.charged r (s.charge w).2)) := by
  simp [fareWindow_hired w h, hc]

/-! ### What else a window does -/

theorem windowFareStatus_enqueued (s : State) (hl : s.cbi.boxes.length = 8) :
    (windowFareStatus s).cbi.enqueued (!(windowFareStatus s).fen.owed) 112 s.fareFrame.payload := by
  have h := enqueue_enqueued s (f := s.fareFrame) (by simp [s.fareFrame_header, clsAlarm]) hl
  simpa [windowFareStatus, s.fareFrame_header] using h

theorem windowFareStatus_awake {s : State} (h : s.cbi.dormant = false) :
    ∃ c o, windowFareStatus s = { s with fen := { s.fen with owed := o }, cbi := c } ∧ s.cbi.onlyMailboxes c := by
  unfold windowFareStatus
  simp only [enqueue_eq _ h]
  exact ⟨_, _, rfl, Cbi.enqueue_only _ _⟩

/-- A window record at the FEN touches five blocks. -/
theorem fareWindow_blocks (w : WindowRecord) (s : State) : fareWindow w s = { s with
    fen := (fareWindow w s).fen
    sau := (fareWindow w s).sau
    rsd := (fareWindow w s).rsd
    cau := (fareWindow w s).cau
    cbi := (fareWindow w s).cbi } := by
  have h := fareWindow_windowed w s
  obtain ⟨hp, hr, hs, hq⟩ := h.still
  rw [← h.odu, ← h.trc, ← h.stu, ← h.alm, ← hp, ← hr, ← hs, ← hq]

/-- The report of a rate-limited window (R99). -/
theorem fareWindow_sau {s : State} (w : WindowRecord) (h : s.meter = .hired) : (fareWindow w s).sau =
    if (s.charge w).2 = true ∧ s.sau.shift ≠ .closed then { s.sau with counters := s.sau.counters.addRateLimited }
    else s.sau := by
  rw [fareWindow_hired w h]
  dsimp only
  split <;> split <;> simp [windowFareStatus, State.charged_eq]

/-- The record of a window with none staged. -/
theorem fareWindow_unstaged_record {s : State} (w : WindowRecord) (h : s.meter = .hired)
    (hs : s.fen.record.staged = none) : (fareWindow w s).fen.record = (s.charge w).1 := by
  rw [fareWindow_record, if_pos h]
  show ((s.charge w).1.takeStaged s.fen s.odu.k w.sequence).1 = _
  rw [FareRecord.takeStaged_none _ _ _ ((s.charge_staged w).trans hs)]

/-- FARE_STATUS of a window with none staged: at a changed total or an owed one, with the figures as they then stand. -/
theorem fareWindow_unstaged_status {s : State} (w : WindowRecord) (h : s.meter = .hired)
    (hs : s.fen.record.staged = none) :
    ((s.charge w).1.total = s.fen.record.total → s.fen.owed = false → (fareWindow w s).cbi = s.cbi)
      ∧ (s.cbi.dormant = false → s.cbi.boxes.length = 8 →
        ((s.charge w).1.total ≠ s.fen.record.total ∨ s.fen.owed = true) →
          s.cbi.onlyMailboxes (fareWindow w s).cbi
          ∧ (fareWindow w s).cbi.enqueued (!(fareWindow w s).fen.owed) 112 (be 2 (s.charge w).1.trip
            ++ [4, codeByte (s.charge w).1.active] ++ be 3 (s.charge w).1.total ++ be 2 (s.charge w).1.drops)) := by
  have unchanged := fareWindow_unchanged w h (FareRecord.takeStaged_none s.fen s.odu.k w.sequence
    ((s.charge_staged w).trans hs))
  rw [unchanged]
  generalize s.charge w = d
  refine ⟨fun ht ho => ?_, fun awake hl why => ?_⟩
  · simp [ht, ho, State.charged_eq]
  · rw [if_pos why]
    have hired : (s.charged d.1 d.2).meter = .hired := by simpa [State.charged_eq, State.meter] using h
    obtain ⟨c, o, e, only⟩ := windowFareStatus_awake (s := s.charged d.1 d.2) (by simpa [State.charged_eq] using awake)
    have told := windowFareStatus_enqueued (s.charged d.1 d.2) (by simpa [State.charged_eq] using hl)
    refine ⟨?_, ?_⟩
    · rw [e]
      simpa [State.charged_eq] using only
    · rw [State.fareFrame, hired] at told
      simpa [State.charged_eq, MeterState.code, codeByte] using told

/-- A window with nothing to charge: FARE_STATUS alone, where it is owed. -/
theorem fareWindow_idle {s : State} (w : WindowRecord) (h : s.meter ≠ .hired) :
    fareWindow w s = if s.fen.owed then windowFareStatus s else s := by
  simp [fareWindow, h]

/-- The contribution of a window (R25). -/
theorem contribution_eq (flag d0 a dd td k : Nat) (m : Method) (w : WindowRecord) {cd ct c : Int}
    (hcd : cd = if w.sensor = .ok ∨ w.sensor = .suspect then 4000 * (w.chargeable : Int) * td else 0)
    (hct : ct = k * dd) (hc : c = if m = .single then max cd ct else cd + ct) :
    contribution ⟨⟨flag, d0, a, dd, td, m⟩, k⟩ w.chargeable w.sensor.trusted = c := by
  have trusted : w.sensor.trusted = true ↔ w.sensor = .ok ∨ w.sensor = .suspect := by
    cases w.sensor <;> simp [SensorState.trusted]
  subst hcd hct hc
  unfold contribution
  cases m <;> simp [trusted, WorkingTariff.cd, WorkingTariff.ct]

/-- The advance of a window (R25, R26). -/
theorem FareRecord.advance_eq {r : FareRecord} {w : WindowRecord} {c : Int}
    (h : contribution r.working w.chargeable w.sensor.trusted = c) : r.advance w = { r with
      p := r.p + c
      flags := { r.flags with degraded := r.flags.degraded || w.sensor == .fault || w.sensor == .lost } } := by
  have untrusted : (!w.sensor.trusted) = (w.sensor == .fault || w.sensor == .lost) := by
    cases w.sensor <;> rfl
  rw [FareRecord.advance, h, untrusted, Bool.or_assoc]

/-- The flags of a window before its drops. -/
def FareFlags.sensed (x : FareFlags) (w : WindowRecord) : FareFlags :=
  { x with degraded := x.degraded || w.sensor == .fault || w.sensor == .lost }

/-- The charge of a window, with its Q, A and contribution: `n` drops, and how they end. -/
theorem State.charge_spec {s : State} {w : WindowRecord} {q c : Int} {a : Nat} (hd : s.fen.record.drops ≤ 65535)
    (ht : s.fen.record.total ≤ 9999999) (hq : s.fen.record.working.q = q) (ha : s.fen.record.working.tariff.a = a)
    (hc : contribution s.fen.record.working w.chargeable w.sensor.trusted = c) :
    ∃ n : Nat, n ≤ 4
      ∧ (∀ j : Nat, j < n → (j + 1) * q ≤ s.fen.record.p + c ∧ s.fen.record.total + (j + 1) * a ≤ 9999999)
      ∧ s.fen.record.total + n * a ≤ 9999999
      ∧ (s.charge w).1 = { s.fen.record with
          p := (s.charge w).1.p
          drops := min (s.fen.record.drops + n) 65535
          metered := s.fen.record.metered + n * a
          total := s.fen.record.total + n * a
          flags := (s.charge w).1.flags }
      ∧ ((s.fen.record.p + c - n * q < q ∧ (s.charge w).1.p = s.fen.record.p + c - n * q ∧ (s.charge w).2 = false
          ∧ (s.charge w).1.flags = s.fen.record.flags.sensed w)
        ∨ (n = 4 ∧ q ≤ s.fen.record.p + c - n * q ∧ (s.charge w).1.p = q - 1 ∧ (s.charge w).2 = true
          ∧ (s.charge w).1.flags = { s.fen.record.flags.sensed w with rateLimited := true })
        ∨ (n < 4 ∧ q ≤ s.fen.record.p + c - n * q ∧ 9999999 < s.fen.record.total + n * a + a
          ∧ (s.charge w).1.p = q - 1 ∧ (s.charge w).2 = false
          ∧ (s.charge w).1.flags = { s.fen.record.flags.sensed w with capped := true })) := by
  subst hq ha
  have charge : s.charge w = FareRecord.drop 4 { s.fen.record with
      p := s.fen.record.p + c, flags := s.fen.record.flags.sensed w } :=
    congrArg (FareRecord.drop 4) (FareRecord.advance_eq hc)
  rw [charge]
  obtain ⟨n, hn, each, shape, ends⟩ := FareRecord.drop_ends 4 { s.fen.record with
    p := s.fen.record.p + c, flags := s.fen.record.flags.sensed w } hd
  exact ⟨n, hn, each, FareRecord.dropped_total (r := { s.fen.record with
    p := s.fen.record.p + c, flags := s.fen.record.flags.sensed w }) ht each, shape, ends⟩

/-! ### A staged tariff at a window (R29) -/

/-- The state with its staged tariff forgotten. -/
def State.unstaged (s : State) : State :=
  s.setFen { s.fen with record := { s.fen.record with staged := none } }

theorem State.unstaged_charge (s : State) (w : WindowRecord) :
    s.unstaged.charge w = ({ (s.charge w).1 with staged := none }, (s.charge w).2) :=
  FareRecord.drop_staged 4 (s.fen.record.advance w) none

theorem State.unstaged_charged (s : State) (r : FareRecord) (limited : Bool) :
    s.unstaged.charged r limited = s.charged r limited := by
  rw [State.charged_eq, State.charged_eq]
  rfl

/-- An absent staged tariff is dropped, and the window is as with none staged. -/
theorem fareWindow_absent {s : State} {i : Nat} (w : WindowRecord) (h : s.meter = .hired)
    (hs : s.fen.record.staged = some i) (ht : s.fen.tariff i = none) : fareWindow w s = fareWindow w s.unstaged := by
  have dropped := FareRecord.takeStaged_absent s.odu.k w.sequence ((s.charge_staged w).trans hs) ht
  have none : (s.unstaged.charge w).1.takeStaged s.unstaged.fen s.unstaged.odu.k w.sequence
      = ({ (s.charge w).1 with staged := none }, false) := by
    rw [State.unstaged_charge]
    exact FareRecord.takeStaged_none _ _ _ rfl
  rw [fareWindow_unchanged w h dropped, fareWindow_unchanged w (s := s.unstaged) h none, State.unstaged_charge,
    State.unstaged_charged]
  rfl

/-- A chime request that finds the alarm ACTIVE or the queue full is dropped. -/
theorem requestChime_dropped (k : ChimeKind) {s : State} (h : s.alm.state = .active ∨ 4 ≤ s.cau.queue.length) :
    requestChime k s = s := by
  unfold requestChime
  split
  · rfl
  · rename_i heard
    exact if_neg (not_lt.2 (h.resolve_left fun a => heard (.inl a)))

/-- A chime request of an AWAKE part with the alarm CLEAR and room in the queue. -/
theorem requestChime_queued (k : ChimeKind) {s : State} (ha : s.alm.state = .clear) (hd : s.cbi.dormant = false)
    (hq : s.cau.queue.length < 4) :
    requestChime k s = s.setCau ({ s.cau with queue := s.cau.queue ++ [k] } : Cau).nextChime := by
  simp [requestChime, ha, hd, hq, Config.maxChimes]

/-- With a chime in play the queue waits. -/
theorem Cau.nextChime_playing {c : Cau} (h : c.chime ≠ none) : c.nextChime = c := by
  unfold Cau.nextChime
  split
  · exact absurd ‹_› h
  · rfl

theorem Cau.nextChime_first {c : Cau} {k : ChimeKind} (h : c.chime = none) (hq : c.queue = [k]) :
    c.nextChime = { c with chime := some (ChimePlay.atNote k 0), queue := [] } := by
  simp [Cau.nextChime, h, hq]

/-- A chime request changes the queue and the chime of the CAU alone. -/
theorem requestChime_eq (k : ChimeKind) (s : State) : ∃ q p,
    requestChime k s = { s with cau := { s.cau with queue := q, chime := p } } := by
  unfold requestChime
  split
  · exact ⟨_, _, rfl⟩
  · split
    · unfold Cau.nextChime
      split <;> exact ⟨_, _, rfl⟩
    · exact ⟨_, _, rfl⟩

/-- A window of an AWAKE part at which a staged tariff takes effect. -/
theorem fareWindow_present {s : State} {i : Nat} {x : Tariff} (w : WindowRecord) (h : s.meter = .hired)
    (hs : s.fen.record.staged = some i) (ht : s.fen.tariff i = some x) (hd : s.cbi.dormant = false) :
    ∃ c o, fareWindow w s = { s with
          fen := { s.fen with record := (s.charge w).1.changeTariff i x s.odu.k w.sequence, owed := o }
          sau := (fareWindow w s.unstaged).sau
          cau := (requestChime .tariffChanged s).cau
          cbi := c }
      ∧ s.cbi.onlyMailboxes c
      ∧ (s.cbi.boxes.length = 8 → c.enqueued (!o) 112 (be 2 (s.charge w).1.trip ++ [4, codeByte i]
          ++ be 3 (s.charge w).1.total ++ be 2 (s.charge w).1.drops)) := by
  have sau : (s.charged ((s.charge w).1.changeTariff i x s.odu.k w.sequence) (s.charge w).2).sau
      = (fareWindow w s.unstaged).sau := by
    rw [fareWindow_sau w (s := s.unstaged) h, State.unstaged_charge, State.charged_eq]
    rfl
  have chime : ∀ f a, (requestChime .tariffChanged { s with fen := f, sau := a }) =
      { s with fen := f, sau := a, cau := (requestChime .tariffChanged s).cau } := fun f a => by
    unfold requestChime
    dsimp only
    split
    · rfl
    · split <;> rfl
  rw [fareWindow_changed w h (FareRecord.takeStaged_present s.odu.k w.sequence ((s.charge_staged w).trans hs) ht)]
  have hired : ∀ t : State, t.trc = s.trc → t.meter = .hired := fun t ht => by rw [State.meter, ht]; exact h
  rw [State.charged_eq] at sau ⊢
  rw [chime]
  generalize hv : ({ s with
    fen := { s.fen with record := (s.charge w).1.changeTariff i x s.odu.k w.sequence }
    sau := _
    cau := _ } : State) = v
  have cbi : v.cbi = s.cbi := by rw [← hv]
  have meter : v.meter = .hired := hired v (by rw [← hv])
  have record : v.fen.record = (s.charge w).1.changeTariff i x s.odu.k w.sequence := by rw [← hv]
  obtain ⟨c, o, e, only⟩ := windowFareStatus_awake (s := v) (cbi ▸ hd)
  have told := windowFareStatus_enqueued v
  rw [cbi, e, State.fareFrame, meter, record] at told
  rw [e]
  refine ⟨c, o, ?_, cbi ▸ only, told⟩
  rw [← hv, ← sau]

/-- Settles O10: with none staged by the ends of the drops, with one staged by the table, and outside HIRED. -/
theorem hiredWindowIsCharged : Obligations.HiredWindowIsCharged := by
  unfold Obligations.HiredWindowIsCharged
  refine ⟨?_, ?_, ?_⟩
  · intro w s flag d0 a dd td k m q cd ct c hm hs hd ht hw hq hpos hcd hct hc u r r' hu hr hr'
    have contributed : contribution s.fen.record.working w.chargeable w.sensor.trusted = c := by
      rw [hw]; exact contribution_eq flag d0 a dd td k m w hcd hct hc
    obtain ⟨n, hn, each, cap, shape, ends⟩ := State.charge_spec hd ht (q := q) (a := a) (by rw [hw, hq]; rfl)
      (by rw [hw]) contributed
    obtain ⟨quiet, told⟩ := fareWindow_unstaged_status w hm hs
    have sau := fareWindow_sau w hm
    have blocks := fareWindow_blocks w s
    rw [← fareWindow_unstaged_record w hm hs] at ends shape quiet told
    rw [← hu] at ends shape quiet told sau blocks
    rw [← hr'] at ends shape quiet told
    rw [← hr] at each cap ends shape quiet told hs
    have figures : r'.metered = r.metered + n * a ∧ r'.total = r.total + n * a ∧ r'.drops = min (r.drops + n) 65535
        ∧ r'.extras = r.extras ∧ r'.bookingFee = r.bookingFee ∧ r'.working = r.working ∧ r'.active = r.active
        ∧ r'.atStart = r.atStart ∧ r'.trip = r.trip ∧ r'.changes = r.changes ∧ r'.staged = none := by
      rw [shape]
      exact ⟨rfl, rfl, rfl, rfl, rfl, rfl, rfl, rfl, rfl, rfl, hs⟩
    obtain ⟨metered, total, drops, extras, fee, working, active, atStart, trip, changes, staged⟩ := figures
    have below : r'.p < q := by
      obtain ⟨low, e, -⟩ | ⟨-, -, e, -⟩ | ⟨-, -, -, e, -⟩ := ends
      · exact e ▸ low
      · omega
      · omega
    refine ⟨n, hn, each, metered, total, total ▸ cap, drops, ?_, below, extras, fee, working, active, atStart, trip,
      changes, staged, quiet, fun awake hl why => ?_, blocks⟩
    · obtain ⟨low, e, unlimited, flags⟩ | ⟨all, high, e, limited, flags⟩ | ⟨few, high, past, e, unlimited, flags⟩ := ends
      · exact .inl ⟨low, e, by simpa [unlimited] using sau, flags⟩
      · refine .inr (.inl ⟨all, high, e, ?_, flags⟩)
        rw [sau, limited]
        by_cases shut : s.sau.shift = .closed <;> simp [shut, Counters.addRateLimited, satAdd, Config.max32]
      · exact .inr (.inr ⟨few, high, past, e, by simpa [unlimited] using sau, flags⟩)
    · obtain ⟨only, enqueued⟩ := told awake hl why
      refine ⟨only, ?_⟩
      cases ho : u.fen.owed with
      | true => exact .inl rfl
      | false => exact .inr ⟨rfl, enqueued.1 (by simp [ho])⟩
  · intro w s i hm hs u v hu hv
    obtain rfl : v = fareWindow w s.unstaged := hv
    refine ⟨fun absent => hu.trans (fareWindow_absent w hm hs absent), fun x present awake hl => ?_⟩
    obtain ⟨c, o, e, only, told⟩ := fareWindow_present w hm hs present awake
    have staged : ({ (fareWindow w s.unstaged).fen.record with staged := some i } : FareRecord) = (s.charge w).1 := by
      rw [fareWindow_unstaged_record w (s := s.unstaged) hm rfl, State.unstaged_charge, ← hs, ← s.charge_staged w]
    rw [staged, FareRecord.takeStaged_present s.odu.k w.sequence ((s.charge_staged w).trans hs) present]
    obtain ⟨q, p, chime⟩ := requestChime_eq .tariffChanged s
    rw [hu, e]
    refine ⟨rfl, rfl, only, told hl, by rw [chime], fun deaf => ?_, fun clear room => ⟨fun playing => ?_, fun silent empty => ?_⟩, rfl⟩
    · rw [requestChime_dropped _ deaf]
    · dsimp only
      rw [requestChime_queued _ clear awake room, State.setCau_cau, Cau.nextChime_playing (by exact playing)]
      exact ⟨rfl, rfl⟩
    · dsimp only
      have first := Cau.nextChime_first (c := { s.cau with queue := s.cau.queue ++ [.tariffChanged] })
        (k := .tariffChanged) silent (by simp [empty])
      rw [requestChime_queued _ clear awake room, State.setCau_cau, first]
      exact ⟨rfl, rfl⟩
  · intro w s u hm hu
    rw [fareWindow_idle w hm] at hu
    cases owed : s.fen.owed with
    | false =>
      obtain rfl : u = s := by simpa [owed] using hu
      exact ⟨rfl, rfl, rfl, fun _ => rfl, nofun⟩
    | true =>
      rw [if_pos owed] at hu
      have status := windowFareStatus_sameFare s
      have windowed := windowFareStatus_windowed s
      rw [hu]
      refine ⟨status, windowed.trc, by simp [windowFareStatus], nofun, fun _ awake hl => ?_⟩
      obtain ⟨c, o, e, only⟩ := windowFareStatus_awake awake
      have told := windowFareStatus_enqueued s hl
      rw [e] at told ⊢
      exact ⟨only, told, rfl⟩

end Sys2Proof.Machine

/-! 09, for the topics that may be owed: the end of an attempt (R170 to R172, R176, R182) and what FAILED makes owed (R38, R65,
R114, R154). -/

namespace Sys2Proof.Machine

/-! ### The attempt under way ends -/

theorem endAttemptWith_acts {s : State} {i : Nat} (act : Nat → State → State) (idle : Nat) (receiving : Bool)
    (hb : s.busOn = true) (hs : s.cbi.standing ≠ .silenced) (hi : s.cbi.inFlight = some i) :
    endAttemptWith act idle receiving s = act i s := by
  simp [endAttemptWith, hb, hs, hi]

theorem endAttemptWith_silenced {s : State} {i : Nat} (act : Nat → State → State) (idle : Nat) (receiving : Bool)
    (hb : s.busOn = true) (hs : s.cbi.standing = .silenced) (hi : s.cbi.inFlight = some i) :
    endAttemptWith act idle receiving s = s.setCbi ((s.cbi.attemptOver idle receiving).quietEnd i) := by
  simp [endAttemptWith, hb, hs, hi]

/-- A mailbox that holds a frame is one of the eight. -/
theorem Cbi.box_lt {c : Cbi} {i : Nat} (h : (c.box i).state ≠ .empty) : i < c.boxes.length := by
  by_contra out
  simp [Cbi.box, List.getD_eq_getElem?_getD, List.getElem?_eq_none (not_lt.1 out), Mailbox.empty] at h

/-- A SENDING mailbox goes back to PENDING. -/
theorem Cbi.unsent_kept {c : Cbi} {i : Nat} (h : (c.box i).state = .sending) (hn : c.superseded (c.box i).frame = false) :
    c.unsent i = (c.setBox i { c.box i with state := .pending }, false) := by
  simp [Cbi.unsent, h, hn]

/-- An ABORTING mailbox, and one with newer content, is emptied and reported ABORTED. -/
theorem Cbi.unsent_emptied {c : Cbi} {i : Nat} (h : (c.box i).state = .sending ∨ (c.box i).state = .aborting)
    (hn : (c.box i).state = .aborting ∨ c.superseded (c.box i).frame = true) :
    c.unsent i = (c.setBox i Mailbox.empty, true) := by
  unfold Cbi.unsent
  obtain h | h := h
  · have newer := hn.resolve_left (by simp [h])
    simp [h, newer]
  · simp [h]

theorem Cbi.quietEnd_eq {c : Cbi} {i : Nat} (h : (c.box i).state = .sending ∨ (c.box i).state = .aborting) :
    c.quietEnd i = { c with
      boxes := if (c.box i).state = .aborting then c.boxes
        else c.boxes.set i (if c.superseded (c.box i).frame then Mailbox.empty else { c.box i with state := .pending }) } := by
  obtain h | h := h <;> simp [Cbi.quietEnd, h, Cbi.setBox]

/-! ### The fault counter of a failed attempt (R171) -/

theorem standingOf_online {n : Nat} (h : n < 256) : standingOf n = if n < 96 then .normal else .limited := by
  simp [standingOf, Config.limitedFrom, Config.faultMax, h]

/-- The interface of a failed attempt, before its mailbox is dealt with. -/
def Cbi.failing (c : Cbi) (fault : TransmitFault) : Cbi :=
  { (c.attemptOver 0 false).setCounter (satAdd Config.faultMax c.faultCounter Config.faultRise) with
    ackDriven := c.ackDriven && fault != .noAck }

theorem Cbi.failing_online {c : Cbi} (fault : TransmitFault) (h : c.faultCounter + 8 < 256) : c.failing fault = { c with
    inFlight := none
    line := []
    idleCount := 0
    inFrame := false
    faultCounter := c.faultCounter + 8
    standing := if c.faultCounter + 8 < 96 then .normal else .limited
    ackDriven := c.ackDriven && fault != .noAck } := by
  have counter : satAdd Config.faultMax c.faultCounter Config.faultRise = c.faultCounter + 8 :=
    Nat.min_eq_left h.le
  rw [Cbi.failing, counter, Cbi.setCounter, standingOf_online h]
  rfl

theorem Cbi.failing_offline {c : Cbi} (fault : TransmitFault) (h : 256 ≤ c.faultCounter + 8) : c.failing fault = { c with
    inFlight := none
    line := []
    idleCount := 0
    inFrame := false
    faultCounter := 256
    standing := .offline
    ackDriven := c.ackDriven && fault != .noAck } := by
  have counter : satAdd Config.faultMax c.faultCounter Config.faultRise = 256 := Nat.min_eq_right h
  rw [Cbi.failing, counter]
  rfl

/-- The mailboxes are not touched by the counter. -/
@[simp] theorem Cbi.failing_box (c : Cbi) (fault : TransmitFault) :
    (c.failing fault).boxes = c.boxes ∧ (∀ i, (c.failing fault).box i = c.box i)
      ∧ ∀ f, (c.failing fault).superseded f = c.superseded f := ⟨rfl, fun _ => rfl, fun _ => rfl⟩

theorem failedOne_eq (i : Nat) (fault : TransmitFault) (s : State) : failedOne i fault s =
    if (s.cbi.failing fault).standing = .offline ∧ (s.cbi.box i).state = .sending then
      enterOffline (s.setCbi ((s.cbi.failing fault).setBox i { s.cbi.box i with state := .pending }))
    else
      let r := (s.cbi.failing fault).unsent i
      let t := if r.1.standing = .offline then enterOffline (s.setCbi r.1) else s.setCbi r.1
      if r.2 then mailboxOutcome i (s.cbi.box i).frame .aborted t else t := rfl

/-! ### The entry into OFFLINE (R172) -/

/-- The mailboxes of a list emptied. -/
def Cbi.emptied (c : Cbi) (l : List Nat) : Cbi := l.foldl (fun c i => c.setBox i Mailbox.empty) c

theorem Cbi.emptied_frame (c : Cbi) (l : List Nat) : c.emptied l = { c with boxes := (c.emptied l).boxes } := by
  unfold Cbi.emptied
  induction l generalizing c with
  | nil => rfl
  | cons i l ih => exact (ih (c.setBox i Mailbox.empty)).trans rfl

@[simp] theorem Cbi.emptied_length (c : Cbi) (l : List Nat) : (c.emptied l).boxes.length = c.boxes.length := by
  unfold Cbi.emptied
  induction l generalizing c with
  | nil => rfl
  | cons i l ih => exact (ih (c.setBox i Mailbox.empty)).trans (c.setBox_length i _)

theorem Cbi.emptied_box (c : Cbi) (l : List Nat) {j : Nat} (hj : j < c.boxes.length) :
    (c.emptied l).box j = if j ∈ l then Mailbox.empty else c.box j := by
  unfold Cbi.emptied
  induction l generalizing c with
  | nil => simp
  | cons i l ih =>
    rw [List.foldl_cons, ih _ (by simpa using hj), Cbi.box_setBox]
    by_cases hi : i = j
    · subst hi
      simp [hj]
    · simp [hi, Ne.symm hi]

/-- Eight mailboxes, one by one. -/
theorem Cbi.boxes_eq {c : Cbi} (h : c.boxes.length = 8) : c.boxes = (List.range 8).map c.box := by
  refine List.ext_getElem (by simp [h]) fun j hj _ => ?_
  simp [Cbi.box, List.getD_eq_getElem?_getD, List.getElem?_eq_getElem hj]

theorem Cbi.mem_filled {c : Cbi} {j : Nat} : j ∈ c.filled ↔ 1 ≤ j ∧ j < 8 ∧ (c.box j).state ≠ .empty := by
  simp [Cbi.filled, mem_routineBoxes, and_assoc]

/-- The entry into OFFLINE: mailbox 0 and the EMPTY ones stay, the others are emptied, and then FAILED is reported. -/
theorem enterOffline_eq {s : State} (h : s.cbi.boxes.length = 8) : enterOffline s =
    reportAll (s.cbi.filled.map fun j => (j, (s.cbi.box j).frame, .failed)) (s.setCbi { s.cbi with
      boxes := (List.range 8).map fun j =>
        if j = 0 ∨ (s.cbi.box j).state = .empty then s.cbi.box j else Mailbox.empty
      idleGaps := 0 }) := by
  have boxes : (s.cbi.emptied s.cbi.filled).boxes = (List.range 8).map fun j =>
      if j = 0 ∨ (s.cbi.box j).state = .empty then s.cbi.box j else Mailbox.empty := by
    rw [Cbi.boxes_eq ((Cbi.emptied_length _ _).trans h)]
    refine List.map_congr_left fun j hj => ?_
    have h8 : j < 8 := List.mem_range.1 hj
    rw [Cbi.emptied_box _ _ (h ▸ h8)]
    simp only [Cbi.mem_filled]
    by_cases h0 : j = 0
    · simp [h0]
    · by_cases he : (s.cbi.box j).state = .empty <;> simp [h0, he, h8, Nat.one_le_iff_ne_zero]
  show reportAll _ (s.setCbi { s.cbi.emptied s.cbi.filled with idleGaps := 0 }) = _
  rw [Cbi.emptied_frame, boxes]

/-- What FAILED is reported for at the entry into OFFLINE, where the failed attempt left `m'` in its mailbox. -/
theorem Cbi.filled_setBox {c : Cbi} {i : Nat} {m : Mailbox} (hi : i < c.boxes.length)
    (hm : m.state ≠ .empty → m.frame = (c.box i).frame) (he : (c.box i).state ≠ .empty) :
    ((c.setBox i m).filled.map fun j => (j, ((c.setBox i m).box j).frame, BoxOutcome.failed))
      = (([1, 2, 3, 4, 5, 6, 7].filter fun j => (c.box j).state != .empty && (j != i || m.state != .empty)).map
          fun j => (j, (c.box j).frame, BoxOutcome.failed)) := by
  have same : ∀ j, (((c.setBox i m).box j).state != .empty)
      = ((c.box j).state != .empty && (j != i || m.state != .empty)) := fun j => by
    rw [Cbi.box_setBox]
    by_cases hj : i = j
    · subst hj
      simp [hi, bne_iff_ne.2 he]
    · simp [hj, Ne.symm hj]
  have filled : (c.setBox i m).filled
      = [1, 2, 3, 4, 5, 6, 7].filter fun j => (c.box j).state != .empty && (j != i || m.state != .empty) :=
    List.filter_congr fun j _ => same j
  rw [filled]
  refine List.map_congr_left fun j hj => ?_
  rw [Cbi.box_setBox]
  split
  · rename_i here
    obtain ⟨rfl, -⟩ := here
    have holds := (List.mem_filter.1 hj).2
    simp only [bne_self_eq_false, Bool.false_or, Bool.and_eq_true, bne_iff_ne] at holds
    rw [hm holds.2]
  · rfl

/-! ### The table -/

section Ends

variable {s : State} {i : Nat} (hb : s.busOn = true) (hs : s.cbi.standing ≠ .silenced) (hi : s.cbi.inFlight = some i)

include hb hs hi

theorem exec_attemptSucceeded : exec .attemptSucceeded s = .next (sentOne i s) :=
  congrArg Host.Outcome.next (endAttemptWith_acts sentOne _ _ hb hs hi)

theorem exec_attemptFailed (fault : TransmitFault) : exec (.attemptFailed fault) s = .next (failedOne i fault s) :=
  congrArg Host.Outcome.next (endAttemptWith_acts (failedOne · fault) _ _ hb hs hi)

theorem exec_arbitrationLost : exec .arbitrationLost s = .next (lostOne i s) :=
  congrArg Host.Outcome.next (endAttemptWith_acts lostOne _ _ hb hs hi)

end Ends

section Failed

variable {s : State} {i : Nat} (fault : TransmitFault)

/-- A failed attempt below the bound of OFFLINE, its frame still to be sent. -/
theorem failedOne_kept (hc : s.cbi.faultCounter + 8 < 256) (h : (s.cbi.box i).state = .sending)
    (hn : s.cbi.superseded (s.cbi.box i).frame = false) : failedOne i fault s =
    s.setCbi ((s.cbi.failing fault).setBox i { s.cbi.box i with state := .pending }) := by
  have online : (s.cbi.failing fault).standing ≠ .offline := by
    rw [Cbi.failing_online fault hc]
    dsimp only
    split <;> simp
  have kept := Cbi.unsent_kept (c := s.cbi.failing fault) h hn
  rw [failedOne_eq, if_neg (fun x => online x.1), kept]
  simp only [Bool.false_eq_true, if_false]
  exact if_neg online

/-- A failed attempt below the bound of OFFLINE, its frame given up. -/
theorem failedOne_emptied (hc : s.cbi.faultCounter + 8 < 256)
    (h : (s.cbi.box i).state = .sending ∨ (s.cbi.box i).state = .aborting)
    (hn : (s.cbi.box i).state = .aborting ∨ s.cbi.superseded (s.cbi.box i).frame = true) : failedOne i fault s =
    mailboxOutcome i (s.cbi.box i).frame .aborted (s.setCbi ((s.cbi.failing fault).setBox i Mailbox.empty)) := by
  have online : (s.cbi.failing fault).standing ≠ .offline := by
    rw [Cbi.failing_online fault hc]
    dsimp only
    split <;> simp
  have emptied := Cbi.unsent_emptied (c := s.cbi.failing fault) h hn
  rw [failedOne_eq, if_neg (fun x => online x.1), emptied]
  simp only [if_true]
  exact congrArg _ (if_neg online)

/-- A failed attempt that brings OFFLINE. -/
theorem failedOne_offline (hc : 256 ≤ s.cbi.faultCounter + 8) :
    ((s.cbi.box i).state = .sending → failedOne i fault s =
      enterOffline (s.setCbi ((s.cbi.failing fault).setBox i { s.cbi.box i with state := .pending })))
    ∧ ((s.cbi.box i).state = .aborting → failedOne i fault s = mailboxOutcome i (s.cbi.box i).frame .aborted
      (enterOffline (s.setCbi ((s.cbi.failing fault).setBox i Mailbox.empty)))) := by
  have offline : (s.cbi.failing fault).standing = .offline := by rw [Cbi.failing_offline fault hc]
  refine ⟨fun h => ?_, fun h => ?_⟩
  · rw [failedOne_eq, if_pos ⟨offline, h⟩]
  · have emptied := Cbi.unsent_emptied (c := s.cbi.failing fault) (i := i) (.inr h) (.inl h)
    rw [failedOne_eq, if_neg (by simp [h]), emptied]
    simp only [if_true]
    exact congrArg _ (if_pos offline)

/-- The interface in OFFLINE, where the failed attempt of mailbox `i` left `m` in it. -/
def Cbi.offlineAfter (c : Cbi) (i : Nat) (m : Mailbox) (fault : TransmitFault) : Cbi :=
  { c with
    boxes := (List.range 8).map fun j =>
      if j = 0 ∧ i = 0 then m
      else if j = 0 ∨ (c.box j).state = .empty then c.box j
      else Mailbox.empty
    inFlight := none
    line := []
    idleCount := 0
    inFrame := false
    faultCounter := 256
    standing := .offline
    idleGaps := 0
    ackDriven := c.ackDriven && fault != .noAck }

theorem enterOffline_failing {m : Mailbox} (hl : s.cbi.boxes.length = 8) (hc : 256 ≤ s.cbi.faultCounter + 8)
    (he : (s.cbi.box i).state ≠ .empty) (hm : m.state ≠ .empty → m.frame = (s.cbi.box i).frame)
    (hz : m.state = .empty → m = Mailbox.empty) :
    enterOffline (s.setCbi ((s.cbi.failing fault).setBox i m)) =
      reportAll (([1, 2, 3, 4, 5, 6, 7].filter fun j => (s.cbi.box j).state != .empty
          && (j != i || m.state != .empty)).map fun j => (j, (s.cbi.box j).frame, BoxOutcome.failed))
        (s.setCbi (s.cbi.offlineAfter i m fault)) := by
  have here : i < s.cbi.boxes.length := Cbi.box_lt he
  have boxes : ((List.range 8).map fun j =>
        if j = 0 ∨ (((s.cbi.failing fault).setBox i m).box j).state = .empty
        then ((s.cbi.failing fault).setBox i m).box j else Mailbox.empty)
      = (List.range 8).map fun j =>
        if j = 0 ∧ i = 0 then m
        else if j = 0 ∨ (s.cbi.box j).state = .empty then s.cbi.box j
        else Mailbox.empty := by
    refine List.map_congr_left fun j _ => ?_
    rw [Cbi.box_setBox]
    by_cases hj : i = j
    · subst hj
      by_cases h0 : i = 0
      · subst h0; simp [here]
      · by_cases hx : m.state = .empty
        · simp [here, h0, hz hx, he]
        · simp [here, h0, hx, he]
    · by_cases h0 : j = 0
      · subst h0; simp [hj]
      · simp [hj, h0]
  rw [enterOffline_eq (by simpa using hl), State.setCbi_cbi, boxes,
    Cbi.filled_setBox (c := s.cbi.failing fault) here hm he, Cbi.failing_offline fault hc]
  rfl

end Failed

/-- Settles O54, by the outcome of the attempt, the state of its mailbox and the bound of OFFLINE; in SILENCED quietly. -/
theorem attemptsEndByTable : Obligations.AttemptsEndByTable := by
  unfold Obligations.AttemptsEndByTable
  refine ⟨?_, ?_, ?_⟩
  · rintro s i m hb hs hi rfl hm
    have held : (s.cbi.box i).state ≠ .empty := by obtain h | h := hm <;> simp [h]
    rw [exec_attemptSucceeded hb hs hi, exec_arbitrationLost hb hs hi]
    simp only [exec_attemptFailed hb hs hi]
    refine ⟨rfl, fun fault hc h hn => ?_, fun h hn => ?_, fun hn => ?_, fun fault hc hn => ?_, ?_⟩
    · rw [failedOne_kept fault hc h hn, Cbi.failing_online fault hc]
      exact ⟨_, rfl, rfl, rfl⟩
    · have kept := Cbi.unsent_kept (c := s.cbi.attemptOver 0 true) h hn
      simp only [lostOne, kept]
      rfl
    · have emptied := Cbi.unsent_emptied (c := s.cbi.attemptOver 0 true) hm hn
      simp only [lostOne, emptied]
      rfl
    · rw [failedOne_emptied fault hc hm hn, Cbi.failing_online fault hc]
      exact ⟨_, rfl, rfl⟩
    · rintro fault _ hc hl rfl
      obtain ⟨sending, aborting⟩ := failedOne_offline (i := i) fault hc
      have entered := enterOffline_failing (i := i) fault
        (m := if (s.cbi.box i).state = .sending then { s.cbi.box i with state := .pending } else Mailbox.empty)
        hl hc held (by split <;> simp [Mailbox.empty]) (by split <;> simp)
      have reported : ∀ x : Mailbox, (s.cbi.box i).state = .sending ∧ x.state = .pending
          ∨ (s.cbi.box i).state = .aborting ∧ x.state = .empty →
          (x.state != .empty) = ((s.cbi.box i).state == .sending) := by
        rintro x (⟨h, hx⟩ | ⟨h, hx⟩) <;> rw [h, hx] <;> rfl
      rw [reported _ (by obtain h | h := hm <;> simp [h, Mailbox.empty])] at entered
      refine ⟨s.cbi.offlineAfter i _ fault, _, rfl, rfl, fun h => ?_, fun h => ?_⟩
      · rw [sending h, ← entered, if_pos h]
      · rw [aborting h, ← entered, if_neg (by simp [h])]
  · rintro s i m c idle receiving hb hs hi rfl hm hc
    have ends : exec c s = .next (s.setCbi ((s.cbi.attemptOver idle receiving).quietEnd i)) := by
      obtain ⟨rfl, rfl, rfl⟩ | ⟨⟨fault, rfl⟩, rfl, rfl⟩ | ⟨rfl, rfl, rfl⟩ := hc <;>
        exact congrArg Host.Outcome.next (endAttemptWith_silenced _ _ _ hb hs hi)
    rw [ends, Cbi.quietEnd_eq (c := s.cbi.attemptOver idle receiving) hm]
    rfl
  · intro s i f
    refine ⟨fun h => ?_, fun h => ?_, fun h => ?_, fun h ht => ?_, fun o ho h => ?_⟩
    · simp [mailboxOutcome, h]
    · simp [mailboxOutcome, h]
    · simp [mailboxOutcome, h]
    · simp [mailboxOutcome, sauOutcome, h, ht, Topic.shiftState]
    · obtain h | h | h | ⟨h, ht⟩ := h
      · simp [mailboxOutcome, h, ho]
      · simp [mailboxOutcome, h, ho]
      · simp [mailboxOutcome, h, ho]
      · simp [mailboxOutcome, sauOutcome, h, ht, ho, Topic.shiftState]

end Sys2Proof.Machine
/-! The parameter image as a load completion judges it (10, R189 to R191): the model's readers against the bytes of Table 11-6. -/

namespace Sys2Proof.Machine

/-! ### Header and check (R188, R189) -/

theorem field_two_lt (bs : List Byte) (i : Nat) : field bs i 2 < 65536 := by
  have two : ∀ l : List Byte, l.length = 2 → ofBytes l < 65536 := by
    rintro l h
    obtain ⟨a, b, rfl⟩ := List.length_eq_two.1 h
    have := a.isLt
    have := b.isLt
    simp only [ofBytes, List.foldl_cons, List.foldl_nil]
    omega
  exact two _ (by simp [slice])

theorem headerLength_eq (img : List Byte) : headerLength img =
    if field img 0 1 = 1 ∧ 1632 ≤ field img 1 2 ∧ field img 1 2 ≤ 4096 then some (field img 1 2) else none := rfl

theorem imageCheckHolds_iff (img : List Byte) : imageCheckHolds img = true ↔
    field img 0 1 = 1 ∧ 1632 ≤ field img 1 2 ∧ field img 1 2 ≤ 4096
      ∧ (checkBytes (slice img 0 (field img 1 2 - 2))).toNat = field img (field img 1 2 - 2) 2 := by
  have fits := field_two_lt img (field img 1 2 - 2)
  unfold imageCheckHolds imageCheckValue
  by_cases header : field img 0 1 = 1 ∧ 1632 ≤ field img 1 2 ∧ field img 1 2 ≤ 4096
  · rw [headerLength_eq, if_pos header]
    simp only [header, true_and, beq_iff_eq, ← BitVec.toNat_inj, BitVec.toNat_ofNat, Nat.mod_eq_of_lt fits]
  · rw [headerLength_eq, if_neg header]
    exact iff_of_false (by simp) fun ⟨format, least, most, _⟩ => header ⟨format, least, most⟩

/-! ### Station block (R189) -/

theorem imagePeers_roles (img : List Byte) :
    (imagePeers img).roles = (List.range' 5 5).map fun i => field img i 1 := rfl

theorem mem_rolePlaces {i : Nat} : i ∈ List.range' 5 5 ↔ 5 ≤ i ∧ i ≤ 9 := by
  rw [List.mem_range'_1]
  omega

/-- No number but 0 stands twice among the roles. -/
theorem imagePeers_roles_nodup (img : List Byte) : ((imagePeers img).roles.filter (· != 0)).Nodup ↔
    ∀ i, 5 ≤ i → i ≤ 9 → ∀ j, 5 ≤ j → j ≤ 9 → i ≠ j → field img i 1 = field img j 1 → field img i 1 = 0 := by
  have symm : Std.Symm fun i j => (field img i 1 != 0) = true → (field img j 1 != 0) = true →
      field img i 1 ≠ field img j 1 := ⟨fun _ _ h hj hi => (h hi hj).symm⟩
  rw [imagePeers_roles, List.Nodup, List.pairwise_filter, List.pairwise_map,
    ← List.Nodup.pairwise_coe (List.nodup_range' 1 (by decide))]
  simp only [Set.Pairwise, Set.mem_ofPred_eq, mem_rolePlaces, bne_iff_ne, and_imp]
  refine forall₃_congr fun i h5 h9 => forall₄_congr fun j _ _ _ => ⟨fun h same => ?_, fun h hi _ same => hi (h same)⟩
  by_contra hi
  exact h hi (same ▸ hi) same

theorem imagePeers_sound_iff (img : List Byte) : (imagePeers img).sound = true ↔
    1 ≤ field img 3 1 ∧ field img 3 1 ≤ 31
      ∧ ∀ i, 5 ≤ i → i ≤ 9 → field img i 1 ≤ 31 ∧ field img i 1 ≠ field img 3 1
        ∧ ∀ j, 5 ≤ j → j ≤ 9 → i ≠ j → field img i 1 = field img j 1 → field img i 1 = 0 := by
  have upTo : (imagePeers img).roles.all (· ≤ 31) = true ↔ ∀ i, 5 ≤ i → i ≤ 9 → field img i 1 ≤ 31 := by
    simp only [imagePeers_roles, List.all_map, List.all_eq_true, mem_rolePlaces, and_imp, Function.comp, decide_eq_true_eq]
  have others : (!(imagePeers img).roles.contains (imagePeers img).own) = true ↔
      ∀ i, 5 ≤ i → i ≤ 9 → field img i 1 ≠ field img 3 1 := by
    simp only [imagePeers_roles, Bool.not_eq_true', ← Bool.not_eq_true, List.contains_iff_mem, List.mem_map, mem_rolePlaces,
      not_exists, not_and, and_imp]
    rfl
  unfold PeerTable.sound
  simp only [Bool.and_eq_true, upTo, others, decide_eq_true_eq, imagePeers_roles_nodup]
  show (((1 ≤ field img 3 1 ∧ field img 3 1 ≤ 31) ∧ _) ∧ _) ∧ _ ↔ _
  constructor
  · rintro ⟨⟨⟨⟨least, most⟩, h31⟩, hown⟩, honce⟩
    exact ⟨least, most, fun i h5 h9 => ⟨h31 i h5 h9, hown i h5 h9, honce i h5 h9⟩⟩
  · rintro ⟨least, most, h⟩
    exact ⟨⟨⟨⟨least, most⟩, fun i h5 h9 => (h i h5 h9).1⟩, fun i h5 h9 => (h i h5 h9).2.1⟩,
      fun i h5 h9 => (h i h5 h9).2.2⟩

theorem imageBitRate_of_range {img : List Byte} (h : 1 ≤ field img 4 1 ∧ field img 4 1 ≤ 3) : imageBitRate img =
    if field img 4 1 = 1 then some .k125 else if field img 4 1 = 2 then some .k250 else some .k500 := by
  obtain h | h | h : field img 4 1 = 1 ∨ field img 4 1 = 2 ∨ field img 4 1 = 3 := by omega
  all_goals simp [imageBitRate, h]

theorem imageBitRate_isSome_iff (img : List Byte) :
    (imageBitRate img).isSome = true ↔ 1 ≤ field img 4 1 ∧ field img 4 1 ≤ 3 := by
  constructor
  · unfold imageBitRate
    split <;> simp_all
  · intro h
    rw [imageBitRate_of_range h]
    repeat' split
    all_goals rfl

/-! ### Sensor block (R189) -/

/-- Every sensor setting is in its range. -/
def SensorInRange (img : List Byte) : Prop :=
  500 ≤ field img 10 2 ∧ field img 10 2 ≤ 25000 ∧ (field img 12 1 = 1 ∨ field img 12 1 = 2) ∧ field img 13 1 ≤ 3
    ∧ 1 ≤ field img 14 2 ∧ field img 14 2 ≤ 2000

theorem imageSensorMode_eq (img : List Byte) : imageSensorMode img =
    if field img 12 1 = 1 ∨ field img 12 1 = 2 then some (if field img 12 1 = 1 then .single else .quadrature) else none := by
  unfold imageSensorMode
  split <;> simp_all

theorem imageFilter_eq (img : List Byte) : imageFilter img =
    if field img 13 1 ≤ 3 then some (if field img 13 1 = 0 then .off else if field img 13 1 = 1 then .us10
      else if field img 13 1 = 2 then .us20 else .us40) else none := by
  unfold imageFilter
  generalize field img 13 1 = n
  match n with
  | 0 | 1 | 2 | 3 => rfl
  | n + 4 => simp

theorem imageSensor_of_range {img : List Byte} (h : SensorInRange img) : imageSensor img =
    some ⟨field img 10 2, field img 14 2, if field img 12 1 = 1 then .single else .quadrature,
      if field img 13 1 = 0 then .off else if field img 13 1 = 1 then .us10
        else if field img 13 1 = 2 then .us20 else .us40⟩ := by
  obtain ⟨k500, k25000, mode, filter, n1, n2000⟩ := h
  unfold imageSensor
  rw [if_pos ⟨k500, k25000, n1, n2000⟩, imageSensorMode_eq, if_pos mode, imageFilter_eq, if_pos filter]

theorem imageSensor_isSome_iff (img : List Byte) : (imageSensor img).isSome = true ↔ SensorInRange img := by
  refine ⟨fun h => ?_, fun h => by rw [imageSensor_of_range h]; rfl⟩
  unfold imageSensor at h
  dsimp only at h
  rw [imageSensorMode_eq, imageFilter_eq] at h
  split at h
  · rename_i range
    obtain ⟨k500, k25000, n1, n2000⟩ := range
    by_cases mode : field img 12 1 = 1 ∨ field img 12 1 = 2
    · by_cases filter : field img 13 1 ≤ 3
      · exact ⟨k500, k25000, mode, filter, n1, n2000⟩
      · simp [filter] at h
    · simp [mode] at h
  · exact absurd h (by simp)

theorem imageUsable_iff (img : List Byte) : imageUsable img = true ↔ ImageSound img := by
  simp only [imageUsable, Bool.and_eq_true, imageCheckHolds_iff, imagePeers_sound_iff, imageBitRate_isSome_iff,
    imageSensor_isSome_iff, SensorInRange, ImageSound, and_assoc]

/-! ### Entries judged on their own (R19, R20, R119, R139, R143, R190) -/

theorem imageMethod_eq (n : Nat) :
    imageMethod n = if n = 1 ∨ n = 2 then some (if n = 1 then .single else .double) else none := by
  unfold imageMethod
  split <;> simp_all

theorem imageTariff_of_range {img : List Byte} {i : Nat} (h : TariffInRange img i) : imageTariff img i =
    some ⟨field img (16 + 12 * i) 3, field img (19 + 12 * i) 2, field img (21 + 12 * i) 2, field img (23 + 12 * i) 2,
      field img (25 + 12 * i) 2, if field img (27 + 12 * i) 1 = 1 then .single else .double⟩ := by
  obtain ⟨hf, hd, a1, a2, d1, d2, t1, t2, hm⟩ := h
  unfold imageTariff
  simp only [Nat.add_right_comm 16, Nat.reduceAdd]
  rw [if_pos ⟨hf, hd, a1, a2, d1, d2, t1, t2⟩, imageMethod_eq, if_pos hm, Option.map_some]

theorem imageTariff_none_iff (img : List Byte) (i : Nat) : imageTariff img i = none ↔ ¬TariffInRange img i := by
  refine ⟨fun h range => by simp [imageTariff_of_range range] at h, fun h => ?_⟩
  unfold imageTariff
  simp only [Nat.add_right_comm 16, Nat.reduceAdd]
  split
  · rename_i range
    obtain ⟨hf, hd, a1, a2, d1, d2, t1, t2⟩ := range
    rw [imageMethod_eq, if_neg fun hm => h ⟨hf, hd, a1, a2, d1, d2, t1, t2, hm⟩, Option.map_none]
  · rfl

theorem imageKind_eq (img : List Byte) (i : Nat) : imageKind img i =
    if 1 ≤ field img (112 + 4 * i) 3 ∧ field img (112 + 4 * i) 3 ≤ 99999
        ∧ 1 ≤ field img (115 + 4 * i) 1 ∧ field img (115 + 4 * i) 1 ≤ 9
      then some ⟨field img (112 + 4 * i) 3, field img (115 + 4 * i) 1⟩ else none := by
  simp only [imageKind, Nat.add_right_comm 112, Nat.reduceAdd]

theorem imageKind_of_range {img : List Byte} {i : Nat} (h : KindInRange img i) :
    imageKind img i = some ⟨field img (112 + 4 * i) 3, field img (115 + 4 * i) 1⟩ :=
  (imageKind_eq img i).trans (if_pos h)

theorem imageKind_none_iff (img : List Byte) (i : Nat) : imageKind img i = none ↔ ¬KindInRange img i :=
  ⟨fun h range => by simp [imageKind_of_range range] at h, fun h => (imageKind_eq img i).trans (if_neg h)⟩

theorem imageLegendPage_isSome_iff (n : Nat) : (imageLegendPage n).isSome = true ↔ n ≤ 3 ∨ n = 255 := by
  unfold imageLegendPage
  split
  · simp [*]
  · split <;> simp [*]

theorem imageLegendMode_isSome_iff (n : Nat) : (imageLegendMode n).isSome = true ↔ n ≤ 2 := by
  match n with
  | 0 | 1 | 2 => decide
  | n + 3 => simp [imageLegendMode]

theorem imageLegend_none_iff (img : List Byte) (i : Nat) : (imageLegend? img i).isNone = true ↔ ¬LegendInRange img i := by
  unfold LegendInRange
  rw [← imageLegendPage_isSome_iff, ← imageLegendMode_isSome_iff, imageLegend?, Nat.add_right_comm 147]
  cases imageLegendPage (field img (147 + 3 * i) 1) with
  | none => simp
  | some p => cases imageLegendMode (field img (148 + 3 * i) 1) <;> simp

theorem thresholdChanged_iff (img : List Byte) (i : Nat) : thresholdChanged img i = true ↔
    32767 < field img (1613 + 4 * i) 2 ∨ 32767 < field img (1615 + 4 * i) 2
      ∨ field img (1613 + 4 * i) 2 < field img (1615 + 4 * i) 2 := by
  simp only [thresholdChanged, imageThreshold, Config.thresholdMax, bne_iff_ne, ne_eq, Threshold.mk.injEq,
    Nat.add_right_comm 1613, Nat.reduceAdd]
  omega

theorem any_range_iff {n : Nat} {p : Nat → Bool} {q : Nat → Prop} (h : ∀ i, p i = true ↔ q i) :
    (List.range n).any p = true ↔ ∃ i, i < n ∧ q i := by
  simp only [List.any_eq_true, List.mem_range, h]

theorem imageSubstituted_iff (img : List Byte) : imageSubstituted img = true ↔ ImageSubstituted img := by
  have filled : ∀ b n, (!emptyEntry img b n) = true ↔ field img b n ≠ 0 := fun b n => by simp [emptyEntry]
  unfold imageSubstituted ImageSubstituted
  simp only [Bool.or_eq_true, decide_eq_true_eq, or_assoc]
  refine or_congr (any_range_iff fun i => ?_) <| or_congr (any_range_iff fun i => ?_) <| or_congr Iff.rfl <|
    or_congr (any_range_iff fun i => imageLegend_none_iff img i) <| or_congr Iff.rfl <|
    any_range_iff fun i => thresholdChanged_iff img i
  · rw [Bool.and_eq_true, Option.isNone_iff_eq_none, imageTariff_none_iff, filled]
  · rw [Bool.and_eq_true, Option.isNone_iff_eq_none, imageKind_none_iff, filled]

/-! ### The judgement (R189 to R191) -/

theorem imageState_eq (img : List Byte) : imageState img =
    if imageUsable img then if imageSubstituted img then .degraded else .valid else .invalid := by
  unfold imageState
  cases imageUsable img <;> rfl

theorem imageState_invalid_iff (img : List Byte) : imageState img = .invalid ↔ imageUsable img = false := by
  rw [imageState_eq]
  repeat' split
  all_goals simp_all

theorem imageReason_of_unusable {img : List Byte} (h : imageUsable img = false) : imageReason img = .imageInvalid := by
  simp [imageReason, h]

theorem imageReason_of_usable {img : List Byte} (h : imageUsable img = true) :
    imageReason img = if (imageTariffs img).all (·.isNone) then .noTariff else .none := by
  simp [imageReason, h]

theorem imageTariffs_absent_iff (img : List Byte) :
    (imageTariffs img).all (·.isNone) = true ↔ ∀ i, i < 8 → ¬TariffInRange img i := by
  simp only [imageTariffs, List.all_map, List.all_eq_true, List.mem_range, Function.comp, Option.isNone_iff_eq_none,
    imageTariff_none_iff]

theorem imageJudged (img : List Byte) :
    (imageUsable img = true ↔ ImageSound img)
    ∧ (imageState img = .invalid ↔ ¬ImageSound img)
    ∧ (imageState img = .degraded ↔ ImageSound img ∧ ImageSubstituted img)
    ∧ (imageReason img = .imageInvalid ↔ ¬ImageSound img)
    ∧ (imageReason img = .noTariff ↔ ImageSound img ∧ ∀ i, i < 8 → ¬TariffInRange img i) := by
  rw [← imageUsable_iff, ← imageSubstituted_iff, ← imageTariffs_absent_iff, imageState_eq]
  cases usable : imageUsable img with
  | false => simp [imageReason_of_unusable usable]
  | true =>
    rw [imageReason_of_usable usable]
    cases imageSubstituted img <;> cases (imageTariffs img).all (·.isNone) <;> simp

end Sys2Proof.Machine
/-! A load completion (10, R191 to R194): what the blocks do to the interface and to each other's records as they take their
start values, block by block. -/

namespace Sys2Proof.Machine

/-! ### The interface while the blocks start -/

theorem Cbi.box_abortWhere (c : Cbi) (p : TxFrame → Bool) (i : Nat) :
    (c.abortWhere p).box i = if p (c.box i).frame then (c.box i).abort else c.box i := by
  simp only [Cbi.box, Cbi.abortWhere, List.getD_eq_getElem?_getD, List.getElem?_map]
  cases c.boxes[i]? with
  | none => split <;> rfl
  | some m => rfl

theorem Mailbox.abort_empty {m : Mailbox} (h : m.state = .empty) : m.abort = m := by simp [Mailbox.abort, h]

/-- Between two interfaces frames were enqueued into mailboxes 1 to 7 or aborted, events apart of the topics named alone: nothing
but mailboxes changed, an EMPTY mailbox 0 is EMPTY still, a PENDING frame of another topic stays as it is. -/
structure Cbi.RoutineMoves (topics : List Nat) (c d : Cbi) : Prop where
  only : c.onlyMailboxes d
  length : d.boxes.length = c.boxes.length
  first : (c.box 0).state = .empty → (d.box 0).state = .empty
  kept : ∀ i, (c.box i).state = .pending → (c.box i).frame.topic ∉ topics → d.box i = c.box i

namespace Cbi.RoutineMoves

/-- The same mailboxes. -/
theorem of_boxes (topics : List Nat) {c d : Cbi} (h : c.onlyMailboxes d) (hb : d.boxes = c.boxes) :
    RoutineMoves topics c d where
  only := h
  length := by rw [hb]
  first := by simp [Cbi.box, hb]
  kept i _ _ := by simp [Cbi.box, hb]

theorem refl (topics : List Nat) (c : Cbi) : RoutineMoves topics c c := of_boxes topics (Cbi.onlyMailboxes_refl c) rfl

theorem trans {topics : List Nat} {c d e : Cbi} (h : RoutineMoves topics c d) (g : RoutineMoves topics d e) :
    RoutineMoves topics c e where
  only := Cbi.onlyMailboxes_trans h.only g.only
  length := g.length.trans h.length
  first hc := g.first (h.first hc)
  kept i hp ht := by
    have hd := h.kept i hp ht
    rw [g.kept i (hd ▸ hp) (hd ▸ ht), hd]

theorem mono {p q : List Nat} {c d : Cbi} (h : RoutineMoves p c d) (hpq : p ⊆ q) : RoutineMoves q c d :=
  ⟨h.only, h.length, h.first, fun i hp ht => h.kept i hp fun hm => ht (hpq hm)⟩

theorem carries {topics : List Nat} {c d : Cbi} (h : RoutineMoves topics c d) {topic : Nat} {payload : List Byte}
    (ht : topic ∉ topics) (hc : c.carries topic payload) : d.carries topic payload := by
  obtain ⟨i, h1, h8, hs, rfl, hp⟩ := hc
  exact ⟨i, h1, h8, by rw [h.kept i hs ht]; exact ⟨hs, rfl, hp⟩⟩

end Cbi.RoutineMoves

theorem Cbi.enqueue_moves (c : Cbi) {f : TxFrame} {topics : List Nat} (h : f.cls ≠ clsAlarm)
    (ht : f.kind = .state → f.topic ∈ topics) : RoutineMoves topics c (c.enqueue f).1 where
  only := Cbi.enqueue_only c f
  length := (c.enqueue_took h ht).length
  first h0 := by
    obtain ⟨i, e, h1, -⟩ | ⟨i, e, h1, -⟩ | ⟨e, -⟩ := c.enqueue_cases h
    · rwa [e, Cbi.box_refresh, if_neg (by omega)]
    · rwa [e, Cbi.box_write, if_neg (by omega)]
    · rwa [e]
  kept := (c.enqueue_took h ht).kept

theorem Cbi.abortWhere_moves (c : Cbi) {p : TxFrame → Bool} {topics : List Nat}
    (hp : ∀ f, p f = true → f.topic ∈ topics) : RoutineMoves topics c (c.abortWhere p) where
  only := Cbi.abortWhere_only c p
  length := by simp [Cbi.abortWhere]
  first h := by
    rw [Cbi.box_abortWhere, Mailbox.abort_empty h, ite_self]
    exact h
  kept i _ ht := by rw [Cbi.box_abortWhere, if_neg fun h => ht (hp _ h)]

/-- A state frame whose topic already stands PENDING is taken. -/
theorem Cbi.enqueue_refreshes {c : Cbi} {f : TxFrame} (hk : f.kind = .state) {p : List Byte} (hc : f.cls ≠ clsAlarm)
    (h : c.carries f.topic p) : (c.enqueue f).2.isSome = true := by
  obtain ⟨i, h1, h8, hs, ht, -⟩ := h
  have found : (c.pendingOf f.topic).isSome = true := by
    rw [Cbi.pendingOf, List.find?_isSome]
    exact ⟨i, mem_routineBoxes.2 ⟨h1, h8⟩, by simp [hs, ht]⟩
  obtain ⟨j, hj⟩ := Option.isSome_iff_exists.1 found
  simp [Cbi.enqueue, hc, hk, hj]

/-- With one of mailboxes 1 to 7 EMPTY a frame is taken. -/
theorem Cbi.enqueue_takes {c : Cbi} {f : TxFrame} {i : Nat} (hc : f.cls ≠ clsAlarm) (h1 : 1 ≤ i) (h8 : i < 8)
    (h : (c.box i).state = .empty) : (c.enqueue f).2.isSome = true := by
  obtain ⟨j, e, -⟩ | ⟨j, e, -⟩ | ⟨-, full⟩ := c.enqueue_cases hc
  · simp [e]
  · simp [e]
  · exact absurd h (full i h1 h8)

/-- With every mailbox EMPTY a routine frame goes into mailbox 1. -/
theorem Cbi.enqueue_first {c : Cbi} {f : TxFrame} (hc : f.cls ≠ clsAlarm) (h : c.boxes = emptyBoxes) :
    c.enqueue f = (c.write 1 f, some 1) := by
  have state : ∀ i, (c.box i).state = .empty := fun i => by
    simp only [Cbi.box, h, emptyBoxes, List.getD_eq_getElem?_getD, List.getElem?_replicate]
    split <;> rfl
  have none : c.pendingOf f.topic = none := by simp [Cbi.pendingOf, state]
  have one : c.firstEmpty = some 1 := by simp [Cbi.firstEmpty, routineBoxes, state]
  simp [Cbi.enqueue, hc, none, one]

/-- No mailbox holds a frame of the STU, nor a TOTALS_OFFER. -/
def Cbi.NoSettlement (c : Cbi) : Prop := ∀ m ∈ c.boxes, m.state ≠ .empty → m.frame.owner ≠ .stu ∧ m.frame.topic ≠ 82

theorem Cbi.NoSettlement.setBox {c : Cbi} (h : c.NoSettlement) (i : Nat) {m : Mailbox}
    (hm : m.frame.owner ≠ .stu ∧ m.frame.topic ≠ 82) : (c.setBox i m).NoSettlement := fun x hx hs => by
  obtain old | rfl := List.mem_or_eq_of_mem_set hx
  · exact h x old hs
  · exact hm

theorem Cbi.NoSettlement.enqueue {c : Cbi} (h : c.NoSettlement) {f : TxFrame} (ho : f.owner ≠ .stu) (ht : f.topic ≠ 82) :
    (c.enqueue f).1.NoSettlement := by
  have write : ∀ i, (c.write i f).NoSettlement := fun i => h.setBox i ⟨ho, ht⟩
  have refresh : ∀ i, (c.box i).state = .pending → (c.refresh i f).NoSettlement := fun i hs => by
    have lt := Cbi.box_lt (c := c) (i := i) (by simp [hs])
    refine h.setBox i (h (c.box i) ?_ (by simp [hs]))
    rw [Cbi.box, List.getD_eq_getElem?_getD, List.getElem?_eq_getElem lt]
    exact List.getElem_mem lt
  by_cases hc : f.cls = clsAlarm
  · unfold Cbi.enqueue
    rw [if_pos hc]
    split
    · exact write 0
    · exact refresh 0 ‹_›
    · exact h
    · exact h
  · obtain ⟨i, e, -, -, -, hs, -⟩ | ⟨i, e, -⟩ | ⟨e, -⟩ := c.enqueue_cases hc
    · rw [e]; exact refresh i hs
    · rw [e]; exact write i
    · rw [e]; exact h

/-! ### The records of the TRC, the STU and the SAU -/

/-- Between two states the TRC, the STU and the SAU took their records up and enqueued or aborted frames; the other blocks are
as they were. -/
structure State.AccountsMoved (topics : List Nat) (s t : State) : Prop where
  base : s.SameBase t
  rsd : t.rsd = s.rsd
  cau : t.cau = s.cau
  alm : t.alm = s.alm
  moves : s.cbi.RoutineMoves topics t.cbi

namespace State.AccountsMoved

theorem of_cbi {topics : List Nat} {s : State} {c : Cbi} (h : s.cbi.RoutineMoves topics c) :
    AccountsMoved topics s (s.setCbi c) := ⟨⟨rfl, rfl, rfl, rfl, rfl, rfl⟩, rfl, rfl, rfl, h⟩

theorem setTrc (topics : List Nat) (s : State) (x : Trc) : AccountsMoved topics s (s.setTrc x) :=
  ⟨⟨rfl, rfl, rfl, rfl, rfl, rfl⟩, rfl, rfl, rfl, .refl _ _⟩

theorem setStu (topics : List Nat) (s : State) (x : Stu) : AccountsMoved topics s (s.setStu x) :=
  ⟨⟨rfl, rfl, rfl, rfl, rfl, rfl⟩, rfl, rfl, rfl, .refl _ _⟩

theorem setSau (topics : List Nat) (s : State) (x : Sau) : AccountsMoved topics s (s.setSau x) :=
  ⟨⟨rfl, rfl, rfl, rfl, rfl, rfl⟩, rfl, rfl, rfl, .refl _ _⟩

theorem refl (topics : List Nat) (s : State) : AccountsMoved topics s s := setStu topics s s.stu

theorem trans {topics : List Nat} {s t u : State} (h : AccountsMoved topics s t) (g : AccountsMoved topics t u) :
    AccountsMoved topics s u :=
  ⟨h.base.trans g.base, g.rsd.trans h.rsd, g.cau.trans h.cau, g.alm.trans h.alm, h.moves.trans g.moves⟩

theorem mono {p q : List Nat} {s t : State} (h : AccountsMoved p s t) (hpq : p ⊆ q) : AccountsMoved q s t :=
  ⟨h.base, h.rsd, h.cau, h.alm, h.moves.mono hpq⟩

theorem awake {topics : List Nat} {s t : State} (h : AccountsMoved topics s t) (hd : s.cbi.dormant = false) :
    t.cbi.dormant = false := (Cbi.onlyMailboxes_dormant h.moves.only).trans hd

end State.AccountsMoved

theorem State.abortWhere_moved (s : State) {p : TxFrame → Bool} {topics : List Nat}
    (hp : ∀ f, p f = true → f.topic ∈ topics) : s.AccountsMoved topics (s.abortWhere p) :=
  .of_cbi (s.cbi.abortWhere_moves hp)

theorem isAttemptFrame_topic {topic trip number : Nat} {f : TxFrame} (h : isAttemptFrame topic trip number f = true) :
    f.topic = topic := by
  simp only [isAttemptFrame, Bool.and_eq_true, beq_iff_eq] at h
  exact h.1.2

section Awake

variable {s : State} (hd : s.cbi.dormant = false)

include hd

theorem enqueue_moved {f : TxFrame} {topics : List Nat} (hc : f.cls ≠ clsAlarm) (ht : f.kind = .state → f.topic ∈ topics) :
    s.AccountsMoved topics (enqueue s f).1 := by
  rw [enqueue_awake f hd]
  exact .of_cbi (s.cbi.enqueue_moves hc ht)

theorem settleReport_moved : s.AccountsMoved [] (settleReport s) := by
  have taken := enqueue_moved hd (f := s.settleFrame) (topics := []) (by simp [State.settleFrame, clsSettle, clsAlarm])
    (by simp [State.settleFrame])
  unfold settleReport enqueueCounted
  dsimp only
  split
  · exact taken
  · exact taken.trans (.of_cbi (.of_boxes [] rfl rfl))

theorem enqueueMeterState_moved : s.AccountsMoved [113] (enqueueMeterState s) := by
  have taken := enqueue_moved hd (f := s.meterFrame) (topics := [113]) (by simp [clsAlarm]) (by simp)
  unfold enqueueMeterState
  dsimp only
  split
  · exact taken
  · exact taken.trans (.setTrc _ _ _)

theorem enqueueShiftState_moved : s.AccountsMoved [115] (enqueueShiftState s) :=
  (enqueue_moved hd (f := s.shiftFrame) (by simp [clsAlarm]) (by simp)).trans (.setSau _ _ _)

theorem placeQuery_moved : s.AccountsMoved [] (placeQuery s) := by
  unfold placeQuery
  split
  · exact .refl _ _
  · rename_i a _
    have taken := enqueue_moved hd (topics := []) (queryFrame_routed a.trip a.number) (by simp [queryFrame])
    dsimp only
    split <;> exact taken.trans (.setStu _ _ _)

theorem placeClosingQuery_moved (e : UnsettledEntry) : s.AccountsMoved [] (placeClosingQuery e s) :=
  (enqueue_moved hd (topics := []) (queryFrame_routed e.trip e.attempt) (by simp [queryFrame])).trans (.setStu _ _ _)

theorem placeTotals_moved : s.AccountsMoved [] (placeTotals s) :=
  (enqueue_moved hd (f := s.totalsFrame) (topics := []) (by simp [State.totalsFrame, clsSettle, clsAlarm])
    (by simp [State.totalsFrame])).trans (.setSau _ _ _)

theorem convertEntry_moved (e : UnsettledEntry) : s.AccountsMoved [81] (convertEntry e s) := by
  have dropped : s.AccountsMoved [81] (resolution ⟨e.trip, e.requested, false, 0, 0, 0, none⟩ (dropEntry e s)) :=
    (State.AccountsMoved.setStu [81] s _).trans (.setSau _ _ _)
  have aborted := dropped.trans (State.abortWhere_moved _ (topics := [81])
    (p := isAttemptFrame Topic.payStatusQuery e.trip e.attempt) fun f hf => by simp [isAttemptFrame_topic hf, Topic.payStatusQuery])
  exact aborted.trans ((settleReport_moved (aborted.awake hd)).mono (by simp))

/-- A fold of operations that each move the accounts of an AWAKE part moves them. -/
theorem State.AccountsMoved.foldl {α : Type} {topics : List Nat} {g : State → α → State}
    (hg : ∀ (t : State) (x : α), t.cbi.dormant = false → t.AccountsMoved topics (g t x)) (l : List α) :
    s.AccountsMoved topics (l.foldl g s) := by
  induction l generalizing s with
  | nil => exact .refl _ _
  | cons x l ih => exact (hg s x hd).trans (ih ((hg s x hd).awake hd))

theorem queryAllEntries_moved : s.AccountsMoved [] (queryAllEntries s) :=
  State.AccountsMoved.foldl hd (fun _ e ht => placeClosingQuery_moved ht e) _

theorem convertAll_moved : s.AccountsMoved [81] (convertAll s) :=
  State.AccountsMoved.foldl hd (fun _ e ht => convertEntry_moved ht e) _

end Awake

end Sys2Proof.Machine
/-! A load completion (10, R191 to R194): the start of each block as an equation or a case each. -/

namespace Sys2Proof.Machine

/-! ### The state topics -/

theorem enqueueMeterState_taken {s : State} (hd : s.cbi.dormant = false) (h : (s.cbi.enqueue s.meterFrame).2.isSome = true) :
    enqueueMeterState s = s.setCbi (s.cbi.enqueue s.meterFrame).1 := by
  unfold enqueueMeterState
  rw [enqueue_eq _ hd]
  exact if_pos h

theorem enqueueShiftState_sau (s : State) :
    (enqueueShiftState s).sau = { s.sau with owed := (s.cbi.enqueue s.shiftFrame).2.isNone } := by
  simp [enqueueShiftState]

theorem enqueueShiftState_frame (s : State) : (enqueueShiftState s).trc = s.trc ∧ (enqueueShiftState s).stu = s.stu := by
  simp [enqueueShiftState]

theorem enqueueShiftState_carriesOrOwes (s : State) (hl : s.cbi.boxes.length = 8) :
    (enqueueShiftState s).cbi.carriesOrOwes (enqueueShiftState s).sau.owed 115 (enqueueShiftState s).shiftFrame.payload := by
  have h := enqueue_enqueued s (f := s.shiftFrame) (by simp [clsAlarm]) hl
  rw [enqueueShiftState_sau]
  have same : (enqueueShiftState s).shiftFrame.payload = s.shiftFrame.payload := by
    simp only [State.shiftFrame, enqueueShiftState_sau]
  rw [same]
  exact h.carriesOrOwes fun no => by simpa using no

theorem enqueueTalkState_carriesOrOwes (s : State) (hl : s.cbi.boxes.length = 8) :
    (enqueueTalkState s).cbi.carriesOrOwes (enqueueTalkState s).cau.owed 114 s.talkFrame.payload := by
  have h := enqueue_enqueued s (f := s.talkFrame) (by simp [clsAlarm]) hl
  exact h.carriesOrOwes fun no => by simpa [enqueueTalkState] using no

/-! ### TRC (R62, R67) -/

/-- The TRC's records of a warm start that resumes. -/
def State.resumedTrc (s : State) : Trc :=
  { s.trc with
    held := if s.trc.held = .hired then .stopped else s.trc.held
    record := if s.trc.held = .hired then s.trc.record.map fun r => { r with
        stopTime := if s.odu.clockSet then s.odu.clock else 0
        clockUnset := r.clockUnset || !s.odu.clockSet
        powerGap := true } else s.trc.record
    restricted := s.sau.shift == .opened && s.sau.recordedCheck != s.pld.tariffCheck }

theorem report_eq (g : Counters → Counters) (s : State) : report g s = s.setSau { s.sau with
    counters := if s.sau.shift = .closed then s.sau.counters else g s.sau.counters } := by
  unfold report
  split <;> rfl

/-- The counters, where a HIRED trip met a power gap in a shift (R99). -/
def State.resumedCounters (s : State) : Counters :=
  if s.trc.held = .hired then
    if s.sau.shift = .closed then s.sau.counters
    else { s.sau.counters with powerGaps := min (s.sau.counters.powerGaps + 1) 65535 }
  else s.sau.counters

theorem startTrips_idle {s : State} (h : s.resumes = false) : startTrips s = s := by simp [startTrips, h]

theorem startTrips_resumed {s : State} (h : s.resumes = true) :
    startTrips s = (s.setTrc s.resumedTrc).setSau { s.sau with counters := s.resumedCounters } := by
  unfold startTrips State.resumedTrc State.resumedCounters
  rw [if_pos h]
  by_cases hired : s.trc.held = .hired
  · simp only [if_pos hired, report_eq]
    rfl
  · simp only [if_neg hired]
    rfl

/-! ### STU (R91 to R93) -/

theorem startAttempt_absent {s : State} (h : s.stu.attempt = none) : startAttempt s = s := by
  unfold startAttempt
  rw [h]

theorem startAttempt_queued {s : State} {a : Attempt} (ha : s.stu.attempt = some a) (hs : a.state = .queued) :
    startAttempt s = dropAttempt .notTaken a s := by
  simp only [startAttempt, ha, hs]

theorem startAttempt_sent {s : State} {a : Attempt} (ha : s.stu.attempt = some a)
    (hs : a.state = .offered ∨ a.state = .atTerminal ∨ a.state = .cancelling) :
    startAttempt s = enterUncertain a s := by
  obtain hs | hs | hs := hs
  all_goals simp only [startAttempt, ha, hs]

theorem startAttempt_uncertain {s : State} {a : Attempt} (ha : s.stu.attempt = some a) (hs : a.state = .uncertain) :
    startAttempt s = s.setAttempt { a with timer := if a.queries < 6 then some 40 else none, waits := false } := by
  simp only [startAttempt, ha, hs]
  rfl

/-- An attempt is absent or in one of the cases a start tells apart. -/
theorem Attempt.start_cases (a : Attempt) :
    a.state = .queued ∨ (a.state = .offered ∨ a.state = .atTerminal ∨ a.state = .cancelling) ∨ a.state = .uncertain := by
  cases a.state <;> simp

theorem placeQuery_stu (s : State) : (placeQuery s).stu = { s.stu with attempt := (placeQuery s).stu.attempt } := by
  unfold placeQuery
  split
  · rfl
  · dsimp only
    split <;> simp [State.setAttempt]

theorem startAttempt_stu (s : State) : (startAttempt s).stu = { s.stu with
    attempt := (startAttempt s).stu.attempt
    lastEnding := (startAttempt s).stu.lastEnding } := by
  cases ha : s.stu.attempt with
  | none => rw [startAttempt_absent ha]
  | some a =>
    obtain hs | hs | hs := a.start_cases
    · rw [startAttempt_queued ha hs]; rfl
    · rw [startAttempt_sent ha hs, enterUncertain, placeQuery_stu]; rfl
    · rw [startAttempt_uncertain ha hs]; rfl

theorem startAttempt_blocks (s : State) : (startAttempt s).trc = s.trc ∧ (startAttempt s).sau = s.sau := by
  cases ha : s.stu.attempt with
  | none => rw [startAttempt_absent ha]; exact ⟨rfl, rfl⟩
  | some a =>
    obtain hs | hs | hs := a.start_cases
    · rw [startAttempt_queued ha hs]; exact ⟨rfl, rfl⟩
    · rw [startAttempt_sent ha hs, enterUncertain]
      obtain ⟨-, trc, sau, -⟩ := placeQuery_retried
        ((s.setAttempt { a with state := .uncertain, timer := none, waits := false }).abortWhere
          (isAttemptFrame Topic.payCancel a.trip a.number))
      exact ⟨trc, sau⟩
    · rw [startAttempt_uncertain ha hs]; exact ⟨rfl, rfl⟩

theorem enterUncertain_moved (a : Attempt) {s : State} (hd : s.cbi.dormant = false) :
    s.AccountsMoved [46] (enterUncertain a s) := by
  have aborted := (State.AccountsMoved.setStu [46] s { s.stu with
      attempt := some { a with state := .uncertain, timer := none, waits := false } }).trans
    (State.abortWhere_moved _ (p := isAttemptFrame Topic.payCancel a.trip a.number) fun f hf => by
      simp [isAttemptFrame_topic hf, Topic.payCancel])
  exact aborted.trans ((placeQuery_moved (aborted.awake hd)).mono (by simp))

theorem dropAttempt_moved (e : Ending) (a : Attempt) (s : State) : s.AccountsMoved [46, 80, 81] (dropAttempt e a s) := by
  refine (State.AccountsMoved.setStu _ s { s.stu with attempt := none, lastEnding := e }).trans
    (State.abortWhere_moved _ fun f hf => ?_)
  simp only [Bool.or_eq_true] at hf
  obtain (hf | hf) | hf := hf
  all_goals simp [isAttemptFrame_topic hf, Topic.payRequest, Topic.payCancel, Topic.payStatusQuery]

theorem startAttempt_moved {s : State} (hd : s.cbi.dormant = false) : s.AccountsMoved [46, 80, 81] (startAttempt s) := by
  cases ha : s.stu.attempt with
  | none => rw [startAttempt_absent ha]; exact .refl _ _
  | some a =>
    obtain hs | hs | hs := a.start_cases
    · rw [startAttempt_queued ha hs]; exact dropAttempt_moved _ a s
    · rw [startAttempt_sent ha hs]; exact (enterUncertain_moved a hd).mono (by simp)
    · rw [startAttempt_uncertain ha hs]; exact .setStu _ _ _

/-- With an EMPTY mailbox the query of the attempt is taken. -/
theorem placeQuery_taken {s : State} {a : Attempt} (ha : s.stu.attempt = some a) (hl : s.cbi.boxes.length = 8) {i : Nat}
    (h1 : 1 ≤ i) (h8 : i < 8) (hi : (s.cbi.box i).state = .empty) :
    (placeQuery s).stu = { s.stu with attempt := some { a with
          queries := min (a.queries + 1) 255
          timer := some 40
          waits := false } }
      ∧ (placeQuery s).cbi.carries 81 (be 2 a.trip ++ be 1 a.number) := by
  have taken : (enqueue s (queryFrame a.trip a.number)).2.isSome = true :=
    Cbi.enqueue_takes (queryFrame_routed a.trip a.number) h1 h8 hi
  have carried := (enqueue_enqueued s (queryFrame_routed a.trip a.number) hl).1 taken
  unfold placeQuery
  simp only [ha]
  rw [if_pos taken]
  exact ⟨by simp [State.setAttempt, satAdd, Config.maxQueryCount, Config.queryTimer], carried⟩

theorem enterUncertain_taken {s : State} (a : Attempt) (hl : s.cbi.boxes.length = 8) {i : Nat} (h1 : 1 ≤ i) (h8 : i < 8)
    (hi : (s.cbi.box i).state = .empty) :
    (enterUncertain a s).stu = { s.stu with attempt := some { a with
          state := .uncertain
          queries := min (a.queries + 1) 255
          timer := some 40
          waits := false } }
      ∧ (enterUncertain a s).cbi.carries 81 (be 2 a.trip ++ be 1 a.number) := by
  refine placeQuery_taken (s := (s.setAttempt { a with state := .uncertain, timer := none, waits := false }).abortWhere
    (isAttemptFrame Topic.payCancel a.trip a.number)) rfl ?_ h1 h8 ?_
  · simpa [State.abortWhere, Cbi.abortWhere, State.setAttempt] using hl
  · show ((s.cbi.abortWhere _).box i).state = .empty
    rwa [Cbi.box_abortWhere, Mailbox.abort_empty hi, ite_self]

/-- The state in which a start that resumes finds its attempt. -/
def State.entriesRestarted (s : State) : State := s.setStu { s.stu with unsettled := s.stu.unsettled.map (·.restart) }

theorem startSettlement_idle {s : State} (h : s.resumes = false) : startSettlement s = stopSettlementTimers s := by
  simp [startSettlement, h]

theorem startSettlement_resumed {s : State} (h : s.resumes = true) :
    startSettlement s = startAttempt s.entriesRestarted
      ∨ startSettlement s = settleReport (startAttempt s.entriesRestarted) := by
  unfold startSettlement
  rw [if_pos h]
  dsimp only
  split
  · exact .inr rfl
  · exact .inl rfl

theorem startSettlement_moved {s : State} (hd : s.cbi.dormant = false) :
    s.AccountsMoved [46, 80, 81] (startSettlement s) := by
  cases h : s.resumes with
  | false => rw [startSettlement_idle h]; exact .setStu _ _ _
  | true =>
    have attempt : s.AccountsMoved [46, 80, 81] (startAttempt s.entriesRestarted) :=
      (State.AccountsMoved.setStu _ s _).trans (startAttempt_moved hd)
    obtain e | e := startSettlement_resumed h
    · rwa [e]
    · rw [e]; exact attempt.trans ((settleReport_moved (attempt.awake hd)).mono (by simp))

theorem startSettlement_blocks (s : State) : (startSettlement s).trc = s.trc ∧ (startSettlement s).sau = s.sau := by
  cases h : s.resumes with
  | false => rw [startSettlement_idle h]; exact ⟨rfl, rfl⟩
  | true =>
    have attempt : (startAttempt s.entriesRestarted).trc = s.trc ∧ (startAttempt s.entriesRestarted).sau = s.sau :=
      startAttempt_blocks s.entriesRestarted
    obtain e | e := startSettlement_resumed h
    · rw [e]; exact attempt
    · rw [e]; simpa [settleReport] using attempt

theorem startSettlement_stu {s : State} (h : s.resumes = true) :
    (startSettlement s).stu = (startAttempt s.entriesRestarted).stu := by
  obtain e | e := startSettlement_resumed h
  · rw [e]
  · rw [e]; simp [settleReport]

/-- What the attempt's start left in a mailbox stays with the SETTLE_REPORT. -/
theorem startSettlement_carries {s : State} (hd : s.cbi.dormant = false) (h : s.resumes = true) {topic : Nat}
    {payload : List Byte} (hc : (startAttempt s.entriesRestarted).cbi.carries topic payload) :
    (startSettlement s).cbi.carries topic payload := by
  obtain e | e := startSettlement_resumed h
  · rwa [e]
  · rw [e]
    have awake := (startAttempt_moved (s := s.entriesRestarted) hd).awake hd
    exact (settleReport_moved awake).moves.carries (by simp) hc

/-! ### SAU (R115 to R117) -/

theorem convertEntry_stu (e : UnsettledEntry) (s : State) : (convertEntry e s).stu =
    { s.stu with unsettled := s.stu.unsettled.eraseP fun x => x.trip == e.trip } := by
  simp [convertEntry, settleReport, resolution, dropEntry]

theorem convertEntry_sau (e : UnsettledEntry) (s : State) : (convertEntry e s).sau = { s.sau with
    counters := (convertEntry e s).sau.counters
    journal := (convertEntry e s).sau.journal } := by
  simp [convertEntry, settleReport, resolution, dropEntry]

/-- The conversion of the list empties it. -/
theorem convertAll_stu (s : State) : (convertAll s).stu = { s.stu with unsettled := [] } := by
  have fold : ∀ (l : List UnsettledEntry) (t : State), t.stu.unsettled = l →
      (l.foldl (fun t e => convertEntry e t) t).stu = { t.stu with unsettled := [] } := by
    intro l
    induction l with
    | nil => intro t ht; rw [List.foldl_nil, ← ht]
    | cons e l ih =>
      intro t ht
      have rest : (convertEntry e t).stu = { t.stu with unsettled := l } := by simp [convertEntry_stu, ht]
      rw [List.foldl_cons, ih _ (by rw [rest]), rest]
  exact fold _ s rfl

theorem convertAll_sau (s : State) : (convertAll s).sau = { s.sau with
    counters := (convertAll s).sau.counters
    journal := (convertAll s).sau.journal } := by
  unfold convertAll
  generalize s.stu.unsettled = l
  induction l generalizing s with
  | nil => rfl
  | cons e l ih => rw [List.foldl_cons, ih, convertEntry_sau]

end Sys2Proof.Machine
/-! A load completion (10, R191 to R194): the closing begun again, the alarm, the state topics, and the part as a whole. -/

namespace Sys2Proof.Machine

/-! ### The closing begun again (R115 to R117) -/

theorem meterFrame_payload_congr {s t : State} (hm : t.meter = s.meter) (hl : t.trc.lastTrip = s.trc.lastTrip)
    (hr : t.trc.restricted = s.trc.restricted) (hs : t.sau.shift = s.sau.shift) :
    t.meterFrame.payload = s.meterFrame.payload := by
  simp only [State.meterFrame, hm, hl, hr, hs]

theorem queryAllEntries_stu (s : State) :
    (queryAllEntries s).stu = { s.stu with unsettled := (queryAllEntries s).stu.unsettled } := by
  unfold queryAllEntries
  generalize s.stu.unsettled = l
  induction l generalizing s with
  | nil => rfl
  | cons e l ih =>
    have one : (placeClosingQuery e s).stu = { s.stu with unsettled := (placeClosingQuery e s).stu.unsettled } := by
      simp [placeClosingQuery, State.mapEntry]
    rw [List.foldl_cons, ih, one]

theorem awaitTotals_moved {s : State} (hd : s.cbi.dormant = false) : s.AccountsMoved [] (awaitTotals s) := by
  have queried := queryAllEntries_moved hd
  have staged := queried.trans (.setSau [] _ { (queryAllEntries s).sau with stage := 2 })
  exact (staged.trans (placeTotals_moved (staged.awake hd))).trans (.setSau _ _ _)

theorem awaitTotals_blocks (s : State) : (awaitTotals s).trc = s.trc
    ∧ (awaitTotals s).stu = { s.stu with unsettled := (awaitTotals s).stu.unsettled }
    ∧ (awaitTotals s).sau = { s.sau with
        stage := 2
        totalsTimer := some 120
        totalsWaits := (awaitTotals s).sau.totalsWaits } := by
  obtain ⟨-, trc, sau, -⟩ := queryAllEntries_retried s
  have stu := queryAllEntries_stu s
  refine ⟨?_, ?_, ?_⟩
  · simpa [awaitTotals, placeTotals] using trc
  · simpa [awaitTotals, placeTotals] using stu
  · simp [awaitTotals, placeTotals, sau, Config.totalsTimer]

/-- The accounts as the end of a closing leaves them, before METER_STATE and SHIFT_STATE. -/
def State.accountsClosed (terminal : Option (Nat × Nat)) (s : State) : State :=
  let s2 := endStage2 s
  let s3 := s2.setSau { s2.sau with reconciliation := some (reconcile s2.sau.counters terminal) }
  let s4 := convertAll s3
  let s5 := s4.setSau (s4.sau.freeze s4.odu.clock)
  s5.setTrc { s5.trc with restricted := false }

theorem finishClosing_eq (terminal : Option (Nat × Nat)) (s : State) :
    finishClosing terminal s = enqueueShiftState (enqueueMeterState (s.accountsClosed terminal)) := rfl

/-- The state in which the entries are converted. -/
def State.reconciled (terminal : Option (Nat × Nat)) (s : State) : State :=
  (endStage2 s).setSau { (endStage2 s).sau with reconciliation := some (reconcile s.sau.counters terminal) }

theorem reconciled_moved (terminal : Option (Nat × Nat)) (s : State) : s.AccountsMoved [82] (s.reconciled terminal) := by
  refine ((State.AccountsMoved.setSau _ s _).trans (State.abortWhere_moved _ fun f hf => ?_)).trans (.setSau _ _ _)
  simp only [isTotalsOffer, Bool.and_eq_true, beq_iff_eq] at hf
  simp [hf.2, Topic.totalsOffer]

theorem accountsClosed_moved (terminal : Option (Nat × Nat)) {s : State} (hd : s.cbi.dormant = false) :
    s.AccountsMoved [81, 82] (s.accountsClosed terminal) := by
  have reconciled := (reconciled_moved terminal s).mono (q := [81, 82]) (by simp)
  have converted := reconciled.trans ((convertAll_moved (reconciled.awake hd)).mono (by simp))
  exact (converted.trans (.setSau _ _ _)).trans (.setTrc _ _ _)

theorem convertAll_trc (s : State) : (convertAll s).trc = s.trc := by
  unfold convertAll
  generalize s.stu.unsettled = l
  induction l generalizing s with
  | nil => rfl
  | cons e l ih =>
    rw [List.foldl_cons, ih]
    simp [convertEntry, settleReport, resolution, dropEntry]

theorem accountsClosed_trc (terminal : Option (Nat × Nat)) (s : State) :
    (s.accountsClosed terminal).trc = { s.trc with restricted := false } := by
  show { (convertAll (s.reconciled terminal)).trc with restricted := false } = _
  rw [convertAll_trc]
  rfl

theorem accountsClosed_stu (terminal : Option (Nat × Nat)) (s : State) :
    (s.accountsClosed terminal).stu = { s.stu with unsettled := [] } :=
  convertAll_stu (s.reconciled terminal)

theorem accountsClosed_sau (terminal : Option (Nat × Nat)) (s : State) :
    (s.accountsClosed terminal).sau.shift = .closed ∧ (s.accountsClosed terminal).sau.stage = 0
      ∧ (s.accountsClosed terminal).sau.reconciliation = some (reconcile s.sau.counters terminal)
      ∧ (s.accountsClosed terminal).sau.lifetime = s.sau.lifetime.add (s.accountsClosed terminal).sau.counters := by
  have kept := convertAll_sau (s.reconciled terminal)
  refine ⟨rfl, rfl, ?_, ?_⟩
  · show (convertAll (s.reconciled terminal)).sau.reconciliation = _
    rw [kept]
    rfl
  · show (convertAll (s.reconciled terminal)).sau.lifetime.add (convertAll (s.reconciled terminal)).sau.counters = _
    rw [kept]
    rfl

/-- The CLOSING as a start begins it again: SHIFT_STATE with stage 1. -/
def State.closingBegun (s : State) : State := enqueueShiftState (s.setSau { s.sau with stage := 1, reconciliation := none })

theorem startShift_kept {s : State} (h : ¬(s.resumes = true ∧ s.sau.shift = .closing)) :
    startShift s = enqueueShiftState s := if_neg h

theorem closingBegun_hasTerminal (s : State) : s.closingBegun.hasTerminal = s.hasTerminal := by
  simp [State.hasTerminal, State.closingBegun, enqueueShiftState]

theorem startShift_closing {s : State} (hr : s.resumes = true) (hs : s.sau.shift = .closing) :
    startShift s = if s.hasTerminal then awaitTotals s.closingBegun else finishClosing none s.closingBegun := by
  rw [← closingBegun_hasTerminal]
  exact if_pos ⟨hr, hs⟩

theorem closingBegun_blocks (s : State) : s.closingBegun.trc = s.trc ∧ s.closingBegun.stu = s.stu
    ∧ s.closingBegun.sau = { s.sau with stage := 1, reconciliation := none, owed := s.closingBegun.sau.owed } := by
  simp [State.closingBegun, enqueueShiftState]

theorem closingBegun_moved {s : State} (hd : s.cbi.dormant = false) : s.AccountsMoved [115] s.closingBegun :=
  (State.AccountsMoved.setSau _ s _).trans (enqueueShiftState_moved hd)

section Shift

variable {s : State} (hd : s.cbi.dormant = false)

include hd

theorem finishClosing_moved (terminal : Option (Nat × Nat)) :
    s.AccountsMoved [81, 82, 113, 115] (finishClosing terminal s) := by
  have closed := (accountsClosed_moved terminal hd).mono (q := [81, 82, 113, 115]) (by simp)
  have metered := closed.trans ((enqueueMeterState_moved (closed.awake hd)).mono (by simp))
  exact metered.trans ((enqueueShiftState_moved (metered.awake hd)).mono (by simp))

theorem startShift_moved : s.AccountsMoved [81, 82, 113, 115] (startShift s) := by
  by_cases h : s.resumes = true ∧ s.sau.shift = .closing
  · have begun := (closingBegun_moved hd).mono (q := [81, 82, 113, 115]) (by simp)
    rw [startShift_closing h.1 h.2]
    split
    · exact begun.trans ((awaitTotals_moved (begun.awake hd)).mono (by simp))
    · exact begun.trans (finishClosing_moved (begun.awake hd) none)
  · rw [startShift_kept h]
    exact (enqueueShiftState_moved hd).mono (by simp)

/-- METER_STATE already stands PENDING: the end of the closing refreshes it. -/
theorem accountsClosed_meterState (terminal : Option (Nat × Nat)) {p : List Byte} (hp : s.cbi.carries 113 p) :
    enqueueMeterState (s.accountsClosed terminal) = (s.accountsClosed terminal).setCbi
      ((s.accountsClosed terminal).cbi.enqueue (s.accountsClosed terminal).meterFrame).1 := by
  have closed := accountsClosed_moved terminal hd
  exact enqueueMeterState_taken (closed.awake hd)
    (Cbi.enqueue_refreshes rfl (by simp [clsAlarm]) (closed.moves.carries (by simp) hp))

theorem finishClosing_blocks (terminal : Option (Nat × Nat)) {p : List Byte} (hp : s.cbi.carries 113 p) :
    (finishClosing terminal s).trc = { s.trc with restricted := false }
      ∧ (finishClosing terminal s).stu = { s.stu with unsettled := [] }
      ∧ (finishClosing terminal s).sau.shift = .closed ∧ (finishClosing terminal s).sau.stage = 0
      ∧ (finishClosing terminal s).sau.reconciliation = some (reconcile s.sau.counters terminal)
      ∧ (finishClosing terminal s).sau.lifetime = s.sau.lifetime.add (finishClosing terminal s).sau.counters := by
  rw [finishClosing_eq, accountsClosed_meterState hd terminal hp]
  refine ⟨?_, ?_, ?_⟩
  · rw [(enqueueShiftState_frame _).1, State.setCbi_trc, accountsClosed_trc]
  · rw [(enqueueShiftState_frame _).2, State.setCbi_stu, accountsClosed_stu]
  · rw [enqueueShiftState_sau]
    exact accountsClosed_sau terminal s

theorem finishClosing_carries (terminal : Option (Nat × Nat)) (hl : s.cbi.boxes.length = 8) {p : List Byte}
    (hp : s.cbi.carries 113 p) :
    (finishClosing terminal s).cbi.carries 113 (finishClosing terminal s).meterFrame.payload := by
  have closed := accountsClosed_moved terminal hd
  have metered := closed.mono (q := [81, 82, 113, 115]) (by simp) |>.trans
    ((enqueueMeterState_moved (closed.awake hd)).mono (by simp))
  have refreshed := (s.accountsClosed terminal).cbi.enqueue_enqueued (f := (s.accountsClosed terminal).meterFrame)
    (by simp [clsAlarm]) (closed.moves.length.trans hl)
  have taken := refreshed.1 (Cbi.enqueue_refreshes rfl (by simp [clsAlarm]) (closed.moves.carries (by simp) hp))
  rw [finishClosing_eq]
  have same : (enqueueShiftState (enqueueMeterState (s.accountsClosed terminal))).meterFrame.payload
      = (s.accountsClosed terminal).meterFrame.payload := by
    rw [accountsClosed_meterState hd terminal hp]
    refine meterFrame_payload_congr ?_ ?_ ?_ ?_ <;> simp [State.meter, enqueueShiftState]
  rw [same]
  refine (enqueueShiftState_moved (metered.awake hd)).moves.carries (by simp) ?_
  rw [accountsClosed_meterState hd terminal hp]
  exact taken

theorem startShift_trc {p : List Byte} (hp : s.cbi.carries 113 p) (hr : s.sau.shift = .closing → s.trc.restricted = false) :
    (startShift s).trc = s.trc := by
  by_cases h : s.resumes = true ∧ s.sau.shift = .closing
  · have begun := closingBegun_moved hd
    obtain ⟨trc, -⟩ := closingBegun_blocks s
    rw [startShift_closing h.1 h.2]
    split
    · rw [(awaitTotals_blocks _).1, trc]
    · rw [(finishClosing_blocks (begun.awake hd) none (begun.moves.carries (by simp) hp)).1, trc, ← hr h.2]
  · rw [startShift_kept h, (enqueueShiftState_frame s).1]

theorem startShift_stu {p : List Byte} (hp : s.cbi.carries 113 p) :
    (startShift s).stu = { s.stu with unsettled := (startShift s).stu.unsettled } := by
  by_cases h : s.resumes = true ∧ s.sau.shift = .closing
  · have begun := closingBegun_moved hd
    obtain ⟨-, stu, -⟩ := closingBegun_blocks s
    rw [startShift_closing h.1 h.2]
    split
    · rw [(awaitTotals_blocks _).2.1, stu]
    · rw [(finishClosing_blocks (begun.awake hd) none (begun.moves.carries (by simp) hp)).2.1, stu]
  · rw [startShift_kept h, (enqueueShiftState_frame s).2]

/-- METER_STATE carries what stands when the accounts have started. -/
theorem startShift_meterState (hl : s.cbi.boxes.length = 8) (hp : s.cbi.carries 113 s.meterFrame.payload) :
    (startShift s).cbi.carries 113 (startShift s).meterFrame.payload := by
  by_cases h : s.resumes = true ∧ s.sau.shift = .closing
  · have begun := closingBegun_moved hd
    obtain ⟨trc, -, sau⟩ := closingBegun_blocks s
    have carried := begun.moves.carries (by simp) hp
    rw [startShift_closing h.1 h.2]
    split
    · obtain ⟨trc', -, sau'⟩ := awaitTotals_blocks s.closingBegun
      rw [meterFrame_payload_congr (s := s) (by rw [State.meter, trc', trc]; rfl) (by rw [trc', trc]) (by rw [trc', trc])
        (by rw [sau', sau])]
      exact (awaitTotals_moved (begun.awake hd)).moves.carries (by simp) carried
    · exact finishClosing_carries (begun.awake hd) none (begun.moves.length.trans hl) carried
  · rw [startShift_kept h, meterFrame_payload_congr (s := s) (by simp [State.meter, enqueueShiftState])
      (by simp [enqueueShiftState]) (by simp [enqueueShiftState]) (by simp [enqueueShiftState])]
    exact (enqueueShiftState_moved hd).moves.carries (by simp) hp

theorem startShift_shiftState (hl : s.cbi.boxes.length = 8) (hs : (startShift s).sau.shift ≠ .closing) :
    (startShift s).cbi.carriesOrOwes (startShift s).sau.owed 115 (startShift s).shiftFrame.payload := by
  by_cases h : s.resumes = true ∧ s.sau.shift = .closing
  · have begun := closingBegun_moved hd
    rw [startShift_closing h.1 h.2] at hs ⊢
    split at hs
    · rw [(awaitTotals_blocks _).2.2, (closingBegun_blocks s).2.2] at hs
      exact absurd h.2 hs
    · rename_i terminal
      rw [if_neg terminal, finishClosing_eq]
      have closed := (accountsClosed_moved none (begun.awake hd)).mono (q := [81, 82, 113]) (by simp)
      have metered := closed.trans ((enqueueMeterState_moved (closed.awake (begun.awake hd))).mono (by simp))
      exact enqueueShiftState_carriesOrOwes _ (metered.moves.length.trans (begun.moves.length.trans hl))
  · rw [startShift_kept h]
    exact enqueueShiftState_carriesOrOwes s hl

end Shift

/-- A closing with a TERMINAL waits for its totals. -/
theorem startShift_awaits {s : State} (hr : s.resumes = true) (hs : s.sau.shift = .closing) (ht : s.hasTerminal = true) :
    (startShift s).sau.shift = .closing ∧ (startShift s).sau.stage = 2 ∧ (startShift s).sau.totalsTimer = some 120
      ∧ (startShift s).sau.reconciliation = none := by
  rw [startShift_closing hr hs, if_pos ht, (awaitTotals_blocks _).2.2, (closingBegun_blocks s).2.2]
  exact ⟨hs, rfl, rfl, rfl⟩

/-- A closing with no TERMINAL goes straight through. -/
theorem startShift_finishes {s : State} (hd : s.cbi.dormant = false) (hr : s.resumes = true) (hs : s.sau.shift = .closing)
    (ht : s.hasTerminal = false) {p : List Byte} (hp : s.cbi.carries 113 p) :
    (startShift s).sau.shift = .closed ∧ (startShift s).sau.stage = 0 ∧ (startShift s).stu.unsettled = []
      ∧ (startShift s).sau.reconciliation.map (·.result) = some .noAnswer
      ∧ (startShift s).sau.lifetime = s.sau.lifetime.add (startShift s).sau.counters := by
  have begun := closingBegun_moved hd
  obtain ⟨-, stu, shift, stage, reconciliation, lifetime⟩ :=
    finishClosing_blocks (begun.awake hd) none (begun.moves.carries (by simp) hp)
  rw [startShift_closing hr hs, ht, if_neg (by simp)]
  refine ⟨shift, stage, by rw [stu], by rw [reconciliation]; rfl, ?_⟩
  rw [lifetime, (closingBegun_blocks s).2.2]

/-! ### ALM (R167) -/

/-- What of the alarm a start keeps. -/
def Alm.kept (x : Alm) : Alm := { Alm.initial with state := x.state, acknowledged := x.acknowledged }

theorem startAlarm_quiet {s : State} (h : s.pld.image = .invalid ∨ s.alm.state = .clear ∨ s.alm.acknowledged = true) :
    startAlarm s = s.setAlm s.alm.kept := by
  refine if_neg fun ⟨usable, active, unanswered⟩ => ?_
  obtain invalid | clear | acknowledged := h
  · exact usable invalid
  · exact absurd (clear.symm.trans active) (by simp)
  · simp [Alm.initial, acknowledged] at unanswered

theorem placeNotice_taken {s : State} (hd : s.cbi.dormant = false) (h0 : (s.cbi.box 0).state = .empty) :
    placeNotice s = s.setCbi (s.cbi.write 0 s.noticeFrame) := by
  have taken : s.cbi.enqueue s.noticeFrame = (s.cbi.write 0 s.noticeFrame, some 0) := by
    simp [Cbi.enqueue, State.noticeFrame, h0]
  unfold placeNotice
  rw [enqueue_eq _ hd, taken]
  rfl

/-- The notice of an alarm that runs unacknowledged goes into mailbox 0. -/
theorem startAlarm_notice {s : State} (hi : s.pld.image ≠ .invalid) (ha : s.alm.state = .active)
    (hk : s.alm.acknowledged = false) (hd : s.cbi.dormant = false) (h0 : (s.cbi.box 0).state = .empty) :
    startAlarm s = (s.setAlm ⟨.active, false, 0, some 20, false⟩).setCbi (s.cbi.write 0 s.noticeFrame) := by
  have alm : ({ Alm.initial with
      state := s.alm.state
      acknowledged := s.alm.acknowledged
      repeatTimer := some Config.repeatTimer } : Alm) = ⟨.active, false, 0, some 20, false⟩ := by
    simp [ha, hk, Alm.initial, Config.repeatTimer]
  have begun : startAlarm s = placeNotice (s.setAlm ⟨.active, false, 0, some 20, false⟩) := by
    rw [← alm]
    exact if_pos ⟨hi, ha, by simp [hk]⟩
  exact begun.trans (placeNotice_taken (s := s.setAlm ⟨.active, false, 0, some 20, false⟩) hd h0)

/-- A start finds a notice to place. -/
def State.noticeDue (s : State) : Prop := s.pld.image ≠ .invalid ∧ s.alm.state = .active ∧ s.alm.acknowledged = false

theorem State.not_noticeDue {s : State} (h : ¬s.noticeDue) :
    s.pld.image = .invalid ∨ s.alm.state = .clear ∨ s.alm.acknowledged = true := by
  by_contra others
  obtain ⟨image, others⟩ := not_or.1 others
  obtain ⟨state, acknowledged⟩ := not_or.1 others
  exact h ⟨image, by cases hs : s.alm.state <;> simp_all, by simpa using acknowledged⟩

end Sys2Proof.Machine
/-! A load completion (10, R191 to R194): the blocks in their order, and what the part has become. -/

namespace Sys2Proof.Machine

/-! ### The alarm, the routing matrix and TALK_STATE end a start -/

/-- The end of a start. -/
def State.ended (s : State) : State := enqueueTalkState (setRouting (startAlarm s))

section Ending

variable {s : State} (hd : s.cbi.dormant = false) (h0 : (s.cbi.box 0).state = .empty)

include hd h0

theorem startAlarm_shape : ∃ a c, startAlarm s = (s.setAlm a).setCbi c ∧ s.cbi.onlyMailboxes c
    ∧ s.cbi.TookFrames [] c ∧ (s.cbi.NoSettlement → c.NoSettlement) := by
  by_cases due : s.noticeDue
  · obtain ⟨image, active, unanswered⟩ := due
    refine ⟨_, _, startAlarm_notice image active unanswered hd h0, rfl, ?_, fun free => free.setBox 0 ?_⟩
    · refine ⟨by simp [Cbi.write], fun i hi => ?_, fun i hi _ => ?_, fun _ => ⟨rfl, rfl⟩⟩
      · rw [Cbi.box_write]
        split
        · simp
        · exact hi
      · rw [Cbi.box_write, if_neg]
        rintro ⟨rfl, -⟩
        exact absurd (h0.symm.trans hi) (by simp)
    · exact ⟨by simp [State.noticeFrame], by simp [State.noticeFrame, Topic.alarmNotice]⟩
  · exact ⟨s.alm.kept, s.cbi, startAlarm_quiet (State.not_noticeDue due), rfl, .refl _ _, id⟩

theorem startAlarm_awake : (setRouting (startAlarm s)).cbi.dormant = false := by
  obtain ⟨a, c, shape, only, -⟩ := startAlarm_shape hd h0
  rw [shape]
  exact (Cbi.onlyMailboxes_dormant only).trans hd

/-- The end of a start sets the alarm, the routing matrix and the owed flag of TALK_STATE. -/
theorem ended_blocks : s.ended.trc = s.trc ∧ s.ended.stu = s.stu ∧ s.ended.sau = s.sau ∧ s.SameBase s.ended
    ∧ s.ended.alm = (startAlarm s).alm ∧ s.ended.rsd = s.rsd
    ∧ s.ended.cau = { s.cau with routing := s.ended.cau.routing, owed := s.ended.cau.owed } := by
  obtain ⟨a, c, shape, -⟩ := startAlarm_shape hd h0
  have awake := startAlarm_awake hd h0
  have whole : s.ended = ((setRouting (startAlarm s)).setCbi s.ended.cbi).setCau
      { (setRouting (startAlarm s)).cau with owed := s.ended.cau.owed } := by
    simp only [State.ended, enqueueTalkState, enqueue_awake _ awake]
    rfl
  rw [whole, shape]
  exact ⟨rfl, rfl, rfl, ⟨rfl, rfl, rfl, rfl, rfl, rfl⟩, rfl, rfl, rfl⟩

/-- The frames of the end of a start. -/
theorem ended_frames : s.cbi.onlyMailboxes s.ended.cbi ∧ (startAlarm s).cbi.TookFrames [114] s.ended.cbi
    ∧ s.cbi.TookFrames [114] s.ended.cbi ∧ (s.cbi.NoSettlement → s.ended.cbi.NoSettlement) := by
  obtain ⟨a, c, shape, only, took, free⟩ := startAlarm_shape hd h0
  have enqueued : s.ended.cbi = (c.enqueue (setRouting (startAlarm s)).talkFrame).1 := by
    show (enqueue (setRouting (startAlarm s)) (setRouting (startAlarm s)).talkFrame).1.cbi = _
    rw [enqueue_awake _ (startAlarm_awake hd h0), shape]
    rfl
  have later : c.TookFrames [114] s.ended.cbi := enqueued ▸ c.enqueue_took (by simp [clsAlarm]) (by simp)
  refine ⟨?_, ?_, (took.trans later).mono (by simp), fun h => ?_⟩
  · exact Cbi.onlyMailboxes_trans only (enqueued ▸ Cbi.enqueue_only c _)
  · rw [shape]; exact later
  · rw [enqueued]
    exact (free h).enqueue (by simp [State.talkFrame]) (by simp)

/-- A notice in mailbox 0 stands at the end of the start. -/
theorem ended_notice (hl : s.cbi.boxes.length = 8) (hi : s.pld.image ≠ .invalid) (ha : s.alm.state = .active)
    (hk : s.alm.acknowledged = false) : s.ended.alm = ⟨.active, false, 0, some 20, false⟩
      ∧ (s.ended.cbi.box 0).state = .pending ∧ (s.ended.cbi.box 0).frame.topic = 1 := by
  obtain ⟨-, -, -, -, alm, -⟩ := ended_blocks hd h0
  obtain ⟨-, took, -⟩ := ended_frames hd h0
  have noticed := startAlarm_notice hi ha hk hd h0
  have box : (startAlarm s).cbi.box 0 = ⟨.pending, s.noticeFrame, s.cbi.nextAge⟩ := by
    rw [noticed]
    exact (Cbi.box_write _ _ _ _).trans (if_pos ⟨rfl, by simp [hl]⟩)
  have kept := took.kept 0 (by rw [box]) (by rw [box]; simp [State.noticeFrame, Topic.alarmNotice])
  rw [alm, kept, box, noticed]
  exact ⟨rfl, rfl, rfl⟩

theorem ended_quiet (h : s.pld.image = .invalid ∨ s.alm.state = .clear ∨ s.alm.acknowledged = true) :
    s.ended.alm = ⟨s.alm.state, s.alm.acknowledged, 0, none, false⟩ := by
  obtain ⟨-, -, -, -, alm, -⟩ := ended_blocks hd h0
  rw [alm, startAlarm_quiet h]
  rfl

theorem ended_talkState (hl : s.cbi.boxes.length = 8) (hf : s.cau.floor = .none) (hw : s.cau.rearWaiting = false) :
    s.ended.cbi.carriesOrOwes s.ended.cau.owed 114 [0, 0] := by
  obtain ⟨a, c, shape, only, took, -⟩ := startAlarm_shape hd h0
  have payload : (setRouting (startAlarm s)).talkFrame.payload = [0, 0] := by
    simp [State.talkFrame, setRouting, shape, hf, hw, yesByte, Floor.code, codeByte]
  rw [← payload]
  refine enqueueTalkState_carriesOrOwes _ ?_
  rw [shape]
  exact took.length.trans hl

end Ending

/-! ### The accounts between the image and the end of a start -/

/-- The part once METER_STATE is enqueued. -/
def State.metered (s : State) : State := enqueueMeterState (updateLamp (startTrips s))

/-- The part once its accounts have started. -/
def State.accounted (s : State) : State := startShift (startSettlement s.metered)

theorem startBlocks_eq (s : State) : startBlocks s = s.accounted.ended := rfl

/-- The part as the delivery of an image leaves it: every mailbox EMPTY, nothing restricted. -/
structure State.Delivered (s : State) : Prop where
  boxes : s.cbi.boxes = emptyBoxes
  awake : s.cbi.dormant = false
  unrestricted : s.trc.restricted = false

theorem startTrips_moved (s : State) : s.AccountsMoved [] (startTrips s) := by
  cases h : s.resumes with
  | false => rw [startTrips_idle h]; exact .refl _ _
  | true => rw [startTrips_resumed h]; exact (State.AccountsMoved.setTrc _ s _).trans (.setSau _ _ _)

theorem startTrips_stu (s : State) : (startTrips s).stu = s.stu := by
  cases h : s.resumes with
  | false => rw [startTrips_idle h]
  | true => rw [startTrips_resumed h]; rfl

theorem startTrips_cbi (s : State) : (startTrips s).cbi = s.cbi := by
  cases h : s.resumes with
  | false => rw [startTrips_idle h]
  | true => rw [startTrips_resumed h]; rfl

theorem startTrips_sau (s : State) : (startTrips s).sau = { s.sau with counters := (startTrips s).sau.counters } := by
  cases h : s.resumes with
  | false => rw [startTrips_idle h]
  | true => rw [startTrips_resumed h]; rfl

theorem startTrips_shift (s : State) : (startTrips s).sau.shift = s.sau.shift := by rw [startTrips_sau]

theorem startTrips_resumes (s : State) : (startTrips s).resumes = s.resumes := by
  cases h : s.resumes with
  | false => rw [startTrips_idle h, h]
  | true => rw [startTrips_resumed h]; exact h

section Delivered

variable {s : State} (ds : s.Delivered)

include ds

theorem metered_eq : s.metered = (updateLamp (startTrips s)).setCbi (s.cbi.write 1 (startTrips s).meterFrame) := by
  have first : (updateLamp (startTrips s)).cbi.enqueue (updateLamp (startTrips s)).meterFrame
      = (s.cbi.write 1 (startTrips s).meterFrame, some 1) := by
    have frame : (updateLamp (startTrips s)).meterFrame = (startTrips s).meterFrame := rfl
    rw [frame, (updateLamp_frame _).2.2.2.2.2.2.2.1, startTrips_cbi]
    exact Cbi.enqueue_first (by simp [clsAlarm]) ds.boxes
  have awake : (updateLamp (startTrips s)).cbi.dormant = false := by
    simpa [startTrips_cbi] using ds.awake
  rw [State.metered, enqueueMeterState_taken awake (by rw [first]; rfl), first]

theorem metered_blocks : s.metered.trc = (startTrips s).trc ∧ s.metered.sau = (startTrips s).sau ∧ s.metered.stu = s.stu
    ∧ s.metered.resumes = s.resumes := by
  rw [metered_eq ds, ← startTrips_resumes s]
  exact ⟨rfl, rfl, startTrips_stu s, rfl⟩

theorem metered_awake : s.metered.cbi.dormant = false := by
  rw [metered_eq ds]
  exact ds.awake

theorem metered_length : s.metered.cbi.boxes.length = 8 := by
  rw [metered_eq ds]
  simp [Cbi.write, Cbi.setBox, ds.boxes, emptyBoxes]

theorem metered_empty {i : Nat} (hi : i ≠ 1) : (s.metered.cbi.box i).state = .empty := by
  rw [metered_eq ds]
  show ((s.cbi.write 1 _).box i).state = _
  rw [Cbi.box_write, if_neg fun h => hi h.1.symm]
  simp only [Cbi.box, ds.boxes, emptyBoxes, List.getD_eq_getElem?_getD, List.getElem?_replicate]
  split <;> rfl

theorem metered_meterState : s.metered.cbi.carries 113 s.metered.meterFrame.payload := by
  rw [metered_eq ds]
  refine ⟨1, by simp, by simp, ?_⟩
  show ((s.cbi.write 1 _).box 1).state = _ ∧ ((s.cbi.write 1 _).box 1).frame.topic = _
    ∧ ((s.cbi.write 1 _).box 1).frame.payload = _
  rw [Cbi.box_write, if_pos ⟨rfl, by simp [ds.boxes, emptyBoxes]⟩]
  exact ⟨rfl, rfl, rfl⟩

theorem settled_moved : s.metered.AccountsMoved [46, 80, 81] (startSettlement s.metered) :=
  startSettlement_moved (metered_awake ds)

theorem settled_awake : (startSettlement s.metered).cbi.dormant = false := (settled_moved ds).awake (metered_awake ds)

theorem settled_length : (startSettlement s.metered).cbi.boxes.length = 8 :=
  (settled_moved ds).moves.length.trans (metered_length ds)

theorem settled_resumes : (startSettlement s.metered).resumes = s.resumes := by
  rw [State.resumes, (startSettlement_blocks _).1, (settled_moved ds).base.2.2.1]
  exact (metered_blocks ds).2.2.2

theorem settled_blocks : (startSettlement s.metered).trc = (startTrips s).trc
    ∧ (startSettlement s.metered).sau = (startTrips s).sau := by
  obtain ⟨trc, sau, -⟩ := metered_blocks ds
  exact ⟨(startSettlement_blocks _).1.trans trc, (startSettlement_blocks _).2.trans sau⟩

theorem settled_meterState :
    (startSettlement s.metered).cbi.carries 113 (startSettlement s.metered).meterFrame.payload := by
  obtain ⟨trc, sau⟩ := startSettlement_blocks s.metered
  rw [meterFrame_payload_congr (s := s.metered) (by rw [State.meter, trc]; rfl) (by rw [trc]) (by rw [trc]) (by rw [sau])]
  exact (settled_moved ds).moves.carries (by simp) (metered_meterState ds)

theorem startTrips_restricted (hc : (startTrips s).sau.shift = .closing) : (startTrips s).trc.restricted = false := by
  cases h : s.resumes with
  | false => rw [startTrips_idle h]; exact ds.unrestricted
  | true =>
    rw [startTrips_resumed h] at hc ⊢
    have shift : s.sau.shift = .closing := hc
    simp [State.resumedTrc, shift]

theorem accounted_moved : s.metered.AccountsMoved [46, 80, 81, 82, 113, 115] s.accounted :=
  ((settled_moved ds).mono (by simp)).trans ((startShift_moved (settled_awake ds)).mono (by simp))

theorem accounted_awake : s.accounted.cbi.dormant = false := (accounted_moved ds).awake (metered_awake ds)

theorem accounted_length : s.accounted.cbi.boxes.length = 8 := (accounted_moved ds).moves.length.trans (metered_length ds)

theorem accounted_first : (s.accounted.cbi.box 0).state = .empty :=
  (accounted_moved ds).moves.first (metered_empty ds (by simp))

theorem accounted_trc : s.accounted.trc = (startTrips s).trc := by
  obtain ⟨trc, sau⟩ := settled_blocks ds
  rw [State.accounted, startShift_trc (settled_awake ds) (settled_meterState ds) fun h => ?_, trc]
  rw [trc]
  exact startTrips_restricted ds (sau ▸ h)

theorem accounted_stu : s.accounted.stu =
    { (startSettlement s.metered).stu with unsettled := s.accounted.stu.unsettled } :=
  startShift_stu (settled_awake ds) (settled_meterState ds)

theorem accounted_meterState : s.accounted.cbi.carries 113 s.accounted.meterFrame.payload :=
  startShift_meterState (settled_awake ds) (settled_length ds) (settled_meterState ds)

theorem accounted_shiftState (h : s.accounted.sau.shift ≠ .closing) :
    s.accounted.cbi.carriesOrOwes s.accounted.sau.owed 115 s.accounted.shiftFrame.payload :=
  startShift_shiftState (settled_awake ds) (settled_length ds) h

theorem accounted_only : s.cbi.onlyMailboxes s.accounted.cbi := by
  have only : s.cbi.onlyMailboxes s.metered.cbi := by
    rw [metered_eq ds]
    rfl
  exact Cbi.onlyMailboxes_trans only (accounted_moved ds).moves.only

/-- Nothing but the accounts, the lamp and the mailboxes is touched. -/
theorem accounted_frame : s.SameBase s.accounted ∧ s.accounted.cau = s.cau ∧ s.accounted.alm = s.alm
    ∧ s.accounted.rsd = { s.rsd with freeLamp := s.accounted.rsd.freeLamp } := by
  have trips := startTrips_moved s
  have moved := accounted_moved ds
  have metered : (startTrips s).SameBase s.metered ∧ s.metered.cau = (startTrips s).cau ∧ s.metered.alm = (startTrips s).alm
      ∧ s.metered.rsd = { (startTrips s).rsd with freeLamp := s.metered.rsd.freeLamp } := by
    rw [metered_eq ds]
    exact ⟨⟨rfl, rfl, rfl, rfl, rfl, rfl⟩, rfl, rfl, rfl⟩
  obtain ⟨base, cau, alm, rsd⟩ := metered
  refine ⟨(trips.base.trans base).trans moved.base, ?_, ?_, ?_⟩
  · rw [moved.cau, cau, trips.cau]
  · rw [moved.alm, alm, trips.alm]
  · rw [moved.rsd, rsd, trips.rsd]

end Delivered

end Sys2Proof.Machine
/-! A load completion (10, R186 to R194): what the statement asks, clause by clause. -/

namespace Sys2Proof.Machine

/-! ### The part when the blocks have started -/

theorem Cbi.noSettlement_of_empty {c : Cbi} (h : c.boxes = emptyBoxes) : c.NoSettlement := fun m hm hs => by
  rw [h] at hm
  obtain rfl := List.eq_of_mem_replicate hm
  exact absurd rfl hs

section Started

variable {s : State} (ds : s.Delivered)

include ds

theorem startBlocks_blocks : (startBlocks s).trc = (startTrips s).trc ∧ (startBlocks s).stu = s.accounted.stu
    ∧ (startBlocks s).sau = s.accounted.sau ∧ s.SameBase (startBlocks s)
    ∧ (startBlocks s).rsd.marquee = s.rsd.marquee
    ∧ (startBlocks s).cau = { s.cau with routing := (startBlocks s).cau.routing, owed := (startBlocks s).cau.owed } := by
  obtain ⟨trc, stu, sau, base, -, rsd, cau⟩ := ended_blocks (accounted_awake ds) (accounted_first ds)
  obtain ⟨abase, acau, -, arsd⟩ := accounted_frame ds
  rw [startBlocks_eq]
  refine ⟨trc.trans (accounted_trc ds), stu, sau, abase.trans base, by rw [rsd, arsd], ?_⟩
  rw [acau] at cau
  exact cau

theorem startBlocks_only : s.cbi.onlyMailboxes (startBlocks s).cbi :=
  Cbi.onlyMailboxes_trans (accounted_only ds) (ended_frames (accounted_awake ds) (accounted_first ds)).1

theorem startBlocks_took : s.accounted.cbi.TookFrames [114] (startBlocks s).cbi :=
  (ended_frames (accounted_awake ds) (accounted_first ds)).2.2.1

theorem startBlocks_carries {topic : Nat} {payload : List Byte} (ht : topic ≠ 114)
    (h : s.accounted.cbi.carries topic payload) : (startBlocks s).cbi.carries topic payload :=
  ((startBlocks_took ds).enqueued (taken := true) (by simpa using ht) ⟨fun _ => h, nofun⟩).1 rfl

theorem startBlocks_meterState : (startBlocks s).cbi.carries 113 (meterBytes (startBlocks s).meter.code
    (startBlocks s).trc.lastTrip (startBlocks s).trc.restricted (startBlocks s).sau.shift) := by
  obtain ⟨trc, -, sau, -⟩ := startBlocks_blocks ds
  have carried := startBlocks_carries ds (by decide) (accounted_meterState ds)
  rwa [meterFrame_payload_congr (s := startBlocks s) (by rw [State.meter, State.meter, accounted_trc ds, trc])
    (by rw [accounted_trc ds, trc]) (by rw [accounted_trc ds, trc]) (by rw [sau])] at carried

theorem startBlocks_shiftState (h : (startBlocks s).sau.shift ≠ .closing) :
    (startBlocks s).cbi.carriesOrOwes (startBlocks s).sau.owed 115 (startBlocks s).shiftFrame.payload := by
  obtain ⟨-, -, sau, -⟩ := startBlocks_blocks ds
  rw [sau] at h
  have owed := (startBlocks_took ds).carriesOrOwes (by decide) (accounted_shiftState ds h)
  rw [State.shiftFrame, sau]
  exact owed

theorem startBlocks_talkState (hf : s.cau.floor = .none) (hw : s.cau.rearWaiting = false) :
    (startBlocks s).cbi.carriesOrOwes (startBlocks s).cau.owed 114 [0, 0] := by
  obtain ⟨-, cau, -⟩ := accounted_frame ds
  rw [startBlocks_eq]
  exact ended_talkState (accounted_awake ds) (accounted_first ds) (accounted_length ds) (cau ▸ hf) (cau ▸ hw)

/-! ### The alarm (R167) -/

theorem startBlocks_quiet (h : s.pld.image = .invalid ∨ s.alm.state = .clear ∨ s.alm.acknowledged = true) :
    (startBlocks s).alm = ⟨s.alm.state, s.alm.acknowledged, 0, none, false⟩ := by
  obtain ⟨base, -, alm, -⟩ := accounted_frame ds
  have quiet := ended_quiet (accounted_awake ds) (accounted_first ds) (by rwa [base.2.2.1, alm])
  rwa [alm] at quiet

theorem startBlocks_notice (hi : s.pld.image ≠ .invalid) (ha : s.alm.state = .active) (hk : s.alm.acknowledged = false) :
    (startBlocks s).alm = ⟨.active, false, 0, some 20, false⟩
      ∧ ((startBlocks s).cbi.box 0).state = .pending ∧ ((startBlocks s).cbi.box 0).frame.topic = 1 := by
  obtain ⟨base, -, alm, -⟩ := accounted_frame ds
  rw [startBlocks_eq]
  exact ended_notice (accounted_awake ds) (accounted_first ds) (accounted_length ds) (by rwa [base.2.2.1]) (by rwa [alm])
    (by rwa [alm])

/-! ### A start that does not resume -/

theorem accounted_idle (h : s.resumes = false) : s.accounted = enqueueShiftState (stopSettlementTimers s.metered) := by
  obtain ⟨-, -, -, resumes⟩ := metered_blocks ds
  rw [State.accounted, startSettlement_idle (resumes.trans h), startShift_kept]
  rintro ⟨resumed, -⟩
  exact absurd (resumed.symm.trans (resumes.trans h)) (by simp)

theorem startBlocks_idle (h : s.resumes = false) : (startBlocks s).trc = s.trc
    ∧ (startBlocks s).stu = { s.stu with
        attempt := s.stu.attempt.map fun a => { a with timer := none }
        unsettled := s.stu.unsettled.map fun e => { e with timer := none } }
    ∧ (startBlocks s).sau = { s.sau with owed := false } := by
  obtain ⟨trc, stu, sau, -⟩ := startBlocks_blocks ds
  obtain ⟨-, msau, mstu, -⟩ := metered_blocks ds
  rw [startTrips_idle h] at trc msau
  have taken : ((stopSettlementTimers s.metered).cbi.enqueue (stopSettlementTimers s.metered).shiftFrame).2.isSome = true :=
    Cbi.enqueue_takes (i := 2) (by simp [clsAlarm]) (by simp) (by simp) (metered_empty ds (by simp))
  refine ⟨trc, ?_, ?_⟩
  · rw [stu, accounted_idle ds h, (enqueueShiftState_frame _).2, stopSettlementTimers, State.setStu_stu, mstu]
  · rw [sau, accounted_idle ds h, enqueueShiftState_sau, Option.isNone_eq_false_iff.2 taken, stopSettlementTimers,
      State.setStu_sau, msau]

/-- Then no frame of the STU and no TOTALS_OFFER is in a mailbox. -/
theorem startBlocks_noSettlement (h : s.resumes = false) : (startBlocks s).cbi.NoSettlement := by
  obtain ⟨-, -, -, free⟩ := ended_frames (accounted_awake ds) (accounted_first ds)
  have awake : (stopSettlementTimers s.metered).cbi.dormant = false := metered_awake ds
  have shift : s.accounted.cbi = (s.metered.cbi.enqueue (stopSettlementTimers s.metered).shiftFrame).1 := by
    rw [accounted_idle ds h, enqueueShiftState, enqueue_awake _ awake]
    rfl
  have metered : s.metered.cbi.NoSettlement := by
    rw [metered_eq ds]
    exact (Cbi.noSettlement_of_empty ds.boxes).setBox 1 ⟨by simp [State.meterFrame], by simp⟩
  rw [startBlocks_eq]
  refine free ?_
  rw [shift]
  exact metered.enqueue (by simp [State.shiftFrame]) (by simp)

/-! ### A start that resumes -/

theorem accounted_open (hs : s.sau.shift ≠ .closing) : s.accounted = enqueueShiftState (startSettlement s.metered) := by
  rw [State.accounted, startShift_kept]
  rintro ⟨-, closing⟩
  rw [(settled_blocks ds).2, startTrips_shift s] at closing
  exact hs closing

/-- The STU: what the start of the attempt left, and the unsettled list of the closing. -/
theorem startBlocks_stu (h : s.resumes = true) : (startBlocks s).stu = { s.stu with
    attempt := (startAttempt s.metered.entriesRestarted).stu.attempt
    lastEnding := (startAttempt s.metered.entriesRestarted).stu.lastEnding
    unsettled := (startBlocks s).stu.unsettled } := by
  obtain ⟨-, stu, -⟩ := startBlocks_blocks ds
  obtain ⟨-, -, mstu, mresumes⟩ := metered_blocks ds
  rw [stu, accounted_stu ds, startSettlement_stu (mresumes.trans h), startAttempt_stu, State.entriesRestarted, State.setStu_stu,
    mstu]

theorem restarted_attempt : s.metered.entriesRestarted.stu.attempt = s.stu.attempt
    ∧ s.metered.entriesRestarted.stu.lastEnding = s.stu.lastEnding := by
  obtain ⟨-, -, stu, -⟩ := metered_blocks ds
  rw [State.entriesRestarted, State.setStu_stu, stu]
  exact ⟨rfl, rfl⟩

theorem startBlocks_noAttempt (h : s.resumes = true) (ha : s.stu.attempt = none) :
    (startBlocks s).stu.attempt = none ∧ (startBlocks s).stu.lastEnding = s.stu.lastEnding := by
  obtain ⟨attempt, ending⟩ := restarted_attempt ds
  rw [startBlocks_stu ds h, startAttempt_absent (attempt.trans ha)]
  exact ⟨attempt.trans ha, ending⟩

section Attempt

variable {a : Attempt} (h : s.resumes = true) (ha : s.stu.attempt = some a)

include h ha

theorem startBlocks_queued (hs : a.state = .queued) :
    (startBlocks s).stu.attempt = none ∧ (startBlocks s).stu.lastEnding = .notTaken := by
  obtain ⟨attempt, -⟩ := restarted_attempt ds
  rw [startBlocks_stu ds h, startAttempt_queued (attempt.trans ha) hs]
  exact ⟨rfl, rfl⟩

theorem startBlocks_sent (hs : a.state = .offered ∨ a.state = .atTerminal ∨ a.state = .cancelling) :
    (startBlocks s).stu.attempt = some { a with
        state := .uncertain
        queries := min (a.queries + 1) 255
        timer := some 40
        waits := false }
      ∧ (startBlocks s).stu.lastEnding = s.stu.lastEnding
      ∧ (s.sau.shift ≠ .closing → (startBlocks s).cbi.carries 81 (be 2 a.trip ++ be 1 a.number)) := by
  obtain ⟨attempt, ending⟩ := restarted_attempt ds
  obtain ⟨-, -, -, mresumes⟩ := metered_blocks ds
  have sent := startAttempt_sent (attempt.trans ha) hs
  obtain ⟨stu, carried⟩ := enterUncertain_taken (s := s.metered.entriesRestarted) a (metered_length ds) (i := 2) (by simp)
    (by simp) (metered_empty ds (by simp))
  refine ⟨?_, ?_, fun opened => ?_⟩
  · rw [startBlocks_stu ds h, sent, stu]
  · rw [startBlocks_stu ds h, sent, stu]
    exact ending
  · rw [← sent] at carried
    have settled := startSettlement_carries (metered_awake ds) (mresumes.trans h) carried
    refine startBlocks_carries ds (by decide) ?_
    rw [accounted_open ds opened]
    exact (enqueueShiftState_moved (settled_awake ds)).moves.carries (by decide) settled

theorem startBlocks_uncertain (hs : a.state = .uncertain) : (startBlocks s).stu.lastEnding = s.stu.lastEnding
    ∧ (startBlocks s).stu.attempt = some { a with
        timer := if a.queries < 6 then some 40 else none
        waits := false } := by
  obtain ⟨attempt, ending⟩ := restarted_attempt ds
  rw [startBlocks_stu ds h, startAttempt_uncertain (attempt.trans ha) hs]
  exact ⟨ending, rfl⟩

end Attempt

theorem startBlocks_entries (h : s.resumes = true) (hs : s.sau.shift ≠ .closing) :
    (startBlocks s).stu.unsettled = s.stu.unsettled.map fun e => { e with
      timer := if 0 < e.left then some 40 else none
      waits := false
      closingWaits := false } := by
  obtain ⟨-, stu, -⟩ := startBlocks_blocks ds
  obtain ⟨-, -, mstu, mresumes⟩ := metered_blocks ds
  rw [stu, accounted_open ds hs, (enqueueShiftState_frame _).2, startSettlement_stu (mresumes.trans h), startAttempt_stu,
    State.entriesRestarted, State.setStu_stu, mstu]
  rfl

theorem startBlocks_opened (h : s.resumes = true) (hs : s.sau.shift = .opened) : (startBlocks s).sau.shift = .opened
    ∧ (startBlocks s).sau.counters = if s.trc.held = .hired then { s.sau.counters with
        powerGaps := min (s.sau.counters.powerGaps + 1) 65535 } else s.sau.counters := by
  obtain ⟨-, -, sau, -⟩ := startBlocks_blocks ds
  rw [sau, accounted_open ds (by simp [hs]), enqueueShiftState_sau, (settled_blocks ds).2, startTrips_resumed h]
  refine ⟨hs, ?_⟩
  show s.resumedCounters = _
  simp [State.resumedCounters, hs]

theorem settled_hasTerminal : (startSettlement s.metered).hasTerminal = s.hasTerminal := by
  have pld := (settled_moved ds).base.2.2.1
  rw [State.hasTerminal, pld, metered_eq ds]
  show (startTrips s).hasTerminal = _
  rw [State.hasTerminal, (startTrips_moved s).base.2.2.1]
  rfl

theorem startBlocks_awaits (h : s.resumes = true) (hs : s.sau.shift = .closing) (ht : s.hasTerminal = true) :
    (startBlocks s).sau.shift = .closing ∧ (startBlocks s).sau.stage = 2 ∧ (startBlocks s).sau.totalsTimer = some 120
      ∧ (startBlocks s).sau.reconciliation = none := by
  obtain ⟨-, -, sau, -⟩ := startBlocks_blocks ds
  rw [sau, State.accounted]
  exact startShift_awaits ((settled_resumes ds).trans h)
    ((congrArg Sau.shift (settled_blocks ds).2).trans ((startTrips_shift s).trans hs)) ((settled_hasTerminal ds).trans ht)

theorem startBlocks_finishes (h : s.resumes = true) (hs : s.sau.shift = .closing) (ht : s.hasTerminal = false) :
    (startBlocks s).sau.shift = .closed ∧ (startBlocks s).sau.stage = 0 ∧ (startBlocks s).stu.unsettled = []
      ∧ (startBlocks s).sau.reconciliation.map (·.result) = some .noAnswer
      ∧ (startBlocks s).sau.lifetime = s.sau.lifetime.add (startBlocks s).sau.counters := by
  obtain ⟨-, stu, sau, -⟩ := startBlocks_blocks ds
  have lifetime : (startSettlement s.metered).sau.lifetime = s.sau.lifetime := by
    rw [(settled_blocks ds).2, startTrips_sau]
  rw [sau, stu, ← lifetime, State.accounted]
  exact startShift_finishes (settled_awake ds) ((settled_resumes ds).trans h)
    ((congrArg Sau.shift (settled_blocks ds).2).trans ((startTrips_shift s).trans hs)) ((settled_hasTerminal ds).trans ht)
    (settled_meterState ds)

end Started

end Sys2Proof.Machine
/-! A load completion (02 R19, R20, R41; 10 R189 to R194) settled: the image delivered, the start that does not resume, the cold
start and the one that resumes. -/

namespace Sys2Proof.Machine

/-! ### The image delivered -/

/-- The part with the image delivered, the records cold after a cold start. -/
def State.loaded (img : List Byte) (s : State) : State :=
  deliverImage img (if s.pld.kind = .cold then coldRecords s else s)

theorem loads {img : List Byte} {s : State} (h : s.supply.main = true) (hp : s.pld.phase = .reading) :
    exec (.loadCompletion img) s = .next (startBlocks (s.loaded img)) := by
  show Host.Outcome.next (loadCompletion img s) = _
  simp [loadCompletion, h, hp, State.loaded]

theorem loaded_warm {img : List Byte} {s : State} (h : s.pld.kind = .warm) : s.loaded img = deliverImage img s := by
  simp [State.loaded, h]

theorem loaded_cold {img : List Byte} {s : State} (h : s.pld.kind = .cold) :
    s.loaded img = deliverImage img (coldRecords s) := by
  simp [State.loaded, h]

theorem Cbi.start_boxes (img : List Byte) : (Cbi.start img).boxes = emptyBoxes ∧ (Cbi.start img).dormant = false := by
  unfold Cbi.start
  split <;> exact ⟨rfl, rfl⟩

theorem loaded_delivered (img : List Byte) (s : State) : (s.loaded img).Delivered :=
  ⟨(Cbi.start_boxes img).1, (Cbi.start_boxes img).2, rfl⟩

theorem loaded_frame (img : List Byte) (s : State) : (s.loaded img).pld = Pld.loaded s.pld.kind img
    ∧ (s.loaded img).supply = s.supply ∧ (s.loaded img).pending = s.pending ∧ (s.loaded img).trc.reason = imageReason img
    ∧ (s.loaded img).cbi = Cbi.start img ∧ (s.loaded img).cau = Cau.start img ∧ (s.loaded img).rsd = Rsd.start img
    ∧ (s.loaded img).odu.settings = if imageUsable img then imageSensor img else none := by
  unfold State.loaded
  split <;> exact ⟨rfl, rfl, rfl, rfl, rfl, rfl, rfl, rfl⟩

theorem loaded_resumes (img : List Byte) (s : State) :
    (s.loaded img).resumes = (s.pld.kind == .warm && imageReason img == .none) := by
  obtain ⟨pld, -, -, reason, -⟩ := loaded_frame img s
  rw [State.resumes, pld, reason]
  rfl

theorem Cau.start_idle (img : List Byte) : (Cau.start img).floor = .none ∧ (Cau.start img).rearWaiting = false := by
  unfold Cau.start
  split <;> exact ⟨rfl, rfl⟩

/-- The tables of a usable image, entry by entry (R19, R20). -/
theorem Fen.start_of_usable (f : Fen) {img : List Byte} (warm : Bool) (h : imageUsable img = true) :
    (f.start img warm).tariffs.length = 8 ∧ (f.start img warm).catalogue.length = 8
      ∧ (∀ i, i < 8 → (f.start img warm).tariffs[i]? = some (imageTariff img i))
      ∧ (∀ i, i < 8 → (f.start img warm).catalogue[i]? = some (imageKind img i))
      ∧ (f.start img warm).bookingFee = (if field img 144 3 ≤ 99999 then field img 144 3 else 0)
      ∧ (f.start img warm).owed = (warm && f.record.trip != 0) := by
  unfold Fen.start
  rw [if_pos h]
  refine ⟨by simp [imageTariffs], by simp, fun i hi => ?_, fun i hi => ?_, rfl, rfl⟩
  · simp [imageTariffs, List.getElem?_range hi]
  · simp [List.getElem?_range hi]

theorem loaded_fen (img : List Byte) (s : State) : ∃ f : Fen, (s.loaded img).fen = f.start img (s.pld.kind == .warm)
    ∧ (s.pld.kind = .warm → f = s.fen) := by
  cases h : s.pld.kind with
  | cold => exact ⟨{ s.fen with record := FareRecord.empty }, by rw [loaded_cold h]; simp [deliverImage, coldRecords, h], nofun⟩
  | warm => exact ⟨s.fen, by rw [loaded_warm h]; simp [deliverImage, h], fun _ => rfl⟩

theorem imageThreshold_eq (img : List Byte) (i : Nat) : imageThreshold img i = ⟨min (field img (1613 + 4 * i) 2) 32767,
    min (min (field img (1615 + 4 * i) 2) 32767) (min (field img (1613 + 4 * i) 2) 32767)⟩ := by
  simp only [imageThreshold, Config.thresholdMax, Nat.add_right_comm 1613, Nat.reduceAdd]

/-- The thresholds of a usable image, slot by slot (R143). -/
theorem Cau.start_thresholds {img : List Byte} (h : imageUsable img = true) {i : Nat} (hi : i < 3) :
    (Cau.start img).thresholds[i]? = some (imageThreshold img i) := by
  rw [Cau.start, if_pos h]
  match i with
  | 0 | 1 | 2 => rfl

theorem Cau.start_of_usable {img : List Byte} (h : imageUsable img = true) : Cau.start img = { Cau.initial with
    gIc := field img 1625 1
    gRadio := field img 1626 1
    gAlarm := field img 1627 1
    gChime := field img 1628 1
    mode := if field img 1629 1 = 1 then .vox else .pttOnly
    thresholds := (Cau.start img).thresholds
    scan := some ⟨0, 0, 0, (Cau.start img).thresholds.getD 0 ⟨0, 0⟩, false⟩ } := by
  rw [Cau.start, if_pos h]
  rfl

/-- A usable image is heard and sent on from the listen phase (R186). -/
theorem Cbi.start_of_usable {img : List Byte} (h : imageUsable img = true) : Cbi.start img = { Cbi.initial with
    bitRate := imageBitRate img
    standing := .normal
    acceptance := acceptanceOf (imagePeers img)
    listen := some 0 } := if_pos h

theorem Cbi.start_of_unusable {img : List Byte} (h : imageUsable img = false) : Cbi.start img = Cbi.initial :=
  if_neg (by simp [h])

theorem imageBitRate_of_usable {img : List Byte} (h : imageUsable img = true) : imageBitRate img =
    if field img 4 1 = 1 then some .k125 else if field img 4 1 = 2 then some .k250 else some .k500 := by
  rw [imageUsable, Bool.and_eq_true, Bool.and_eq_true] at h
  exact imageBitRate_of_range ((imageBitRate_isSome_iff img).1 h.1.2)

theorem sensorInRange_of_usable {img : List Byte} (h : imageUsable img = true) : SensorInRange img := by
  rw [imageUsable, Bool.and_eq_true] at h
  exact (imageSensor_isSome_iff img).1 h.2

theorem imageReason_ne_none_of_unusable {img : List Byte} (h : imageUsable img = false) : imageReason img ≠ .none := by
  rw [imageReason_of_unusable h]
  simp

/-! ### A start that does not resume -/

theorem loaded_idle {img : List Byte} {s : State} (h : s.pld.kind = .cold ∨ imageReason img ≠ .none) :
    (s.loaded img).resumes = false := by
  rw [loaded_resumes]
  obtain cold | reason := h
  · simp [cold]
  · simp [reason]

theorem loaded_resumed {img : List Byte} {s : State} (hk : s.pld.kind = .warm) (hr : imageReason img = .none) :
    (s.loaded img).resumes = true := by
  simp [loaded_resumes, hk, hr]

theorem startTrips_reason (s : State) : (startTrips s).trc.reason = s.trc.reason := by
  cases h : s.resumes with
  | false => rw [startTrips_idle h]
  | true => rw [startTrips_resumed h]; rfl

theorem started_reason (img : List Byte) (s : State) : (startBlocks (s.loaded img)).trc.reason = imageReason img := by
  rw [(startBlocks_blocks (loaded_delivered img s)).1, startTrips_reason]
  exact (loaded_frame img s).2.2.2.1

theorem started_inoperative {img : List Byte} {s : State} (h : imageReason img ≠ .none) :
    (startBlocks (s.loaded img)).meter = .inoperative := by
  rw [State.meter, Trc.meter, started_reason, if_neg h]

section Loaded

variable {img : List Byte} {s : State}

/-- The records a warm start keeps. -/
theorem loaded_kept (hk : s.pld.kind = .warm) : (s.loaded img).stu = s.stu ∧ (s.loaded img).sau = s.sau
    ∧ (s.loaded img).alm = s.alm ∧ (s.loaded img).rtm = s.rtm ∧ (s.loaded img).odu.clock = s.odu.clock
    ∧ (s.loaded img).odu.clockSet = s.odu.clockSet
    ∧ (s.loaded img).trc = { s.trc with reason := imageReason img, restricted := false, preselected := 0, owed := false } := by
  rw [loaded_warm hk]
  exact ⟨rfl, rfl, rfl, rfl, rfl, rfl, rfl⟩

/-- What a cold start makes of them. -/
theorem loaded_renewed (hk : s.pld.kind = .cold) : (s.loaded img).stu = Stu.initial ∧ (s.loaded img).sau = Sau.initial
    ∧ (s.loaded img).alm = Alm.initial ∧ (s.loaded img).rtm = ⟨false, true⟩ ∧ (s.loaded img).odu.clock = 0
    ∧ (s.loaded img).odu.clockSet = false ∧ (s.loaded img).trc = { Trc.initial with reason := imageReason img }
    ∧ (s.loaded img).fen.record = FareRecord.empty := by
  rw [loaded_cold hk]
  exact ⟨rfl, rfl, rfl, rfl, rfl, rfl, rfl, Fen.start_record _ _ _⟩

theorem started_fareRecord (hk : s.pld.kind = .warm) : (startBlocks (s.loaded img)).fen.record = s.fen.record := by
  obtain ⟨f, delivered, kept⟩ := loaded_fen img s
  rw [startBlocks_fen, delivered, Fen.start_record, kept hk]

/-- A warm start that does not resume (R68, R93). -/
theorem started_idle (hk : s.pld.kind = .warm) (hr : imageReason img ≠ .none) :
    (startBlocks (s.loaded img)).trc = { s.trc with
        reason := imageReason img
        restricted := false
        preselected := 0
        owed := false }
      ∧ (startBlocks (s.loaded img)).stu = { s.stu with
        attempt := s.stu.attempt.map fun a => { a with timer := none }
        unsettled := s.stu.unsettled.map fun e => { e with timer := none } }
      ∧ (startBlocks (s.loaded img)).sau = { s.sau with owed := false } := by
  obtain ⟨trc, stu, sau⟩ := startBlocks_idle (loaded_delivered img s) (loaded_idle (.inr hr))
  obtain ⟨kstu, ksau, -, -, -, -, ktrc⟩ := loaded_kept (img := img) hk
  rw [trc, stu, sau, kstu, ksau, ktrc]
  exact ⟨rfl, rfl, rfl⟩

/-- With an INVALID image a warm start keeps the records (R191). -/
theorem started_invalid (hk : s.pld.kind = .warm) (hi : imageUsable img = false) :
    (startBlocks (s.loaded img)).fen.record = s.fen.record ∧ (startBlocks (s.loaded img)).trc.held = s.trc.held
      ∧ (startBlocks (s.loaded img)).trc.record = s.trc.record ∧ (startBlocks (s.loaded img)).trc.booking = s.trc.booking
      ∧ (startBlocks (s.loaded img)).stu.session = s.stu.session ∧ (startBlocks (s.loaded img)).stu.tenders = s.stu.tenders
      ∧ (startBlocks (s.loaded img)).sau.counters = s.sau.counters ∧ (startBlocks (s.loaded img)).sau.journal = s.sau.journal
      ∧ (startBlocks (s.loaded img)).sau.shift = s.sau.shift ∧ (startBlocks (s.loaded img)).sau.lifetime = s.sau.lifetime
      ∧ (startBlocks (s.loaded img)).alm.state = s.alm.state ∧ (startBlocks (s.loaded img)).odu.clock = s.odu.clock
      ∧ (startBlocks (s.loaded img)).rtm = s.rtm := by
  have ds := loaded_delivered img s
  obtain ⟨trc, stu, sau⟩ := started_idle hk (imageReason_ne_none_of_unusable hi)
  obtain ⟨-, -, -, ⟨odu, -, -, rtm, -⟩, -⟩ := startBlocks_blocks ds
  obtain ⟨-, -, kalm, krtm, kclock, -⟩ := loaded_kept (img := img) hk
  have invalid : (s.loaded img).pld.image = .invalid := by
    rw [(loaded_frame img s).1]
    exact (imageState_invalid_iff img).2 hi
  have alm := startBlocks_quiet ds (.inl invalid)
  rw [trc, stu, sau, alm, odu, rtm, krtm, kalm, kclock]
  exact ⟨started_fareRecord hk, rfl, rfl, rfl, rfl, rfl, rfl, rfl, rfl, rfl, rfl, rfl, rfl⟩

/-- With a usable image a warm start takes the alarm up (R167). -/
theorem started_alarm (hk : s.pld.kind = .warm) (hu : imageUsable img = true) :
    (s.alm.state = .active → s.alm.acknowledged = false →
        (startBlocks (s.loaded img)).alm = ⟨.active, false, 0, some 20, false⟩
          ∧ ((startBlocks (s.loaded img)).cbi.box 0).state = .pending
          ∧ ((startBlocks (s.loaded img)).cbi.box 0).frame.topic = 1)
      ∧ ((s.alm.state = .clear ∨ s.alm.acknowledged = true) →
        (startBlocks (s.loaded img)).alm = ⟨s.alm.state, s.alm.acknowledged, 0, none, false⟩) := by
  have ds := loaded_delivered img s
  obtain ⟨-, -, kalm, -⟩ := loaded_kept (img := img) hk
  have usable : (s.loaded img).pld.image ≠ .invalid := by
    rw [(loaded_frame img s).1]
    exact fun invalid => by simp [(imageState_invalid_iff img).1 invalid] at hu
  have notice := startBlocks_notice ds usable
  have quiet := fun h => startBlocks_quiet ds (.inr h)
  rw [kalm] at notice quiet
  exact ⟨notice, quiet⟩

/-- A cold start gives every retained record its cold value (R194). -/
theorem started_cold (hk : s.pld.kind = .cold) :
    (startBlocks (s.loaded img)).trc.held = .offDuty ∧ (startBlocks (s.loaded img)).trc.record = none
      ∧ (startBlocks (s.loaded img)).trc.lastTrip = 0 ∧ (startBlocks (s.loaded img)).fen.record = FareRecord.empty
      ∧ (startBlocks (s.loaded img)).stu = Stu.initial
      ∧ (startBlocks (s.loaded img)).sau = { Sau.initial with owed := false }
      ∧ (startBlocks (s.loaded img)).alm.state = .clear ∧ (startBlocks (s.loaded img)).alm.acknowledged = false
      ∧ (startBlocks (s.loaded img)).odu.clock = 0 ∧ (startBlocks (s.loaded img)).odu.clockSet = false
      ∧ (startBlocks (s.loaded img)).rtm = ⟨false, true⟩ := by
  have ds := loaded_delivered img s
  obtain ⟨trc, stu, sau⟩ := startBlocks_idle ds (loaded_idle (.inl hk))
  obtain ⟨-, -, -, ⟨odu, -, -, rtm, -⟩, -⟩ := startBlocks_blocks ds
  obtain ⟨cstu, csau, calm, crtm, cclock, cset, ctrc, cfen⟩ := loaded_renewed (img := img) hk
  have alm := startBlocks_quiet ds (.inr (.inl (by rw [calm]; rfl)))
  rw [startBlocks_fen, trc, stu, sau, alm, odu, rtm, cstu, csau, calm, crtm, cclock, cset, ctrc, cfen]
  exact ⟨rfl, rfl, rfl, rfl, rfl, rfl, rfl, rfl, rfl, rfl, rfl⟩

/-! ### A start that resumes -/

theorem usable_of_reason (hr : imageReason img = .none) : imageUsable img = true := by
  by_contra unusable
  exact imageReason_ne_none_of_unusable (by simpa using unusable) hr

section Resumed

variable (hk : s.pld.kind = .warm) (hr : imageReason img = .none)

include hk hr

/-- The TRC takes its trip up, and decides the restriction (R62, R67). -/
theorem started_trc : (startBlocks (s.loaded img)).trc = { s.trc with
    held := if s.trc.held = .hired then .stopped else s.trc.held
    record := if s.trc.held = .hired then s.trc.record.map fun r => { r with
        stopTime := if s.odu.clockSet then s.odu.clock else 0
        clockUnset := r.clockUnset || !s.odu.clockSet
        powerGap := true } else s.trc.record
    reason := .none
    restricted := s.sau.shift == .opened && s.sau.recordedCheck != checkBytes (slice img 16 96)
    preselected := 0
    owed := false } := by
  obtain ⟨-, ksau, -, -, kclock, kset, ktrc⟩ := loaded_kept (img := img) hk
  have check : (s.loaded img).pld.tariffCheck = checkBytes (slice img 16 96) := by
    rw [(loaded_frame img s).1]
    exact if_pos (usable_of_reason hr)
  rw [(startBlocks_blocks (loaded_delivered img s)).1, startTrips_resumed (loaded_resumed hk hr), State.setSau_trc,
    State.setTrc_trc, State.resumedTrc, ksau, kclock, kset, ktrc, check, hr]

theorem started_opened (hs : s.sau.shift = .opened) : (startBlocks (s.loaded img)).sau.shift = .opened
    ∧ (startBlocks (s.loaded img)).sau.counters = if s.trc.held = .hired then { s.sau.counters with
        powerGaps := min (s.sau.counters.powerGaps + 1) 65535 } else s.sau.counters := by
  obtain ⟨-, ksau, -, -, -, -, ktrc⟩ := loaded_kept (img := img) hk
  have opened := startBlocks_opened (loaded_delivered img s) (loaded_resumed hk hr) (by rw [ksau, hs])
  rwa [ksau, ktrc] at opened

/-- The STU takes its attempt up (R92; logs 16 and 42). -/
theorem started_attempt {a : Attempt} (ha : s.stu.attempt = some a) :
    (a.state = .queued →
        (startBlocks (s.loaded img)).stu.attempt = none ∧ (startBlocks (s.loaded img)).stu.lastEnding = .notTaken)
      ∧ ((a.state = .offered ∨ a.state = .atTerminal ∨ a.state = .cancelling) →
        (startBlocks (s.loaded img)).stu.attempt = some { a with
            state := .uncertain
            queries := min (a.queries + 1) 255
            timer := some 40
            waits := false }
          ∧ (startBlocks (s.loaded img)).stu.lastEnding = s.stu.lastEnding
          ∧ (s.sau.shift ≠ .closing → (startBlocks (s.loaded img)).cbi.carries 81 (be 2 a.trip ++ be 1 a.number)))
      ∧ (a.state = .uncertain → (startBlocks (s.loaded img)).stu.lastEnding = s.stu.lastEnding
          ∧ (startBlocks (s.loaded img)).stu.attempt = some { a with
            timer := if a.queries < 6 then some 40 else none
            waits := false }) := by
  have ds := loaded_delivered img s
  have resumed := loaded_resumed hk hr
  obtain ⟨kstu, ksau, -⟩ := loaded_kept (img := img) hk
  have attempt : (s.loaded img).stu.attempt = some a := by rw [kstu, ha]
  have sent := startBlocks_sent ds resumed attempt
  have uncertain := startBlocks_uncertain ds resumed attempt
  rw [kstu, ksau] at sent
  rw [kstu] at uncertain
  exact ⟨startBlocks_queued ds resumed attempt, sent, uncertain⟩

/-- The session and its tenders stay; with no attempt none begins (R92). -/
theorem started_session : (startBlocks (s.loaded img)).stu.session = s.stu.session
    ∧ (startBlocks (s.loaded img)).stu.tenders = s.stu.tenders
    ∧ (s.stu.attempt = none → (startBlocks (s.loaded img)).stu.attempt = none
        ∧ (startBlocks (s.loaded img)).stu.lastEnding = s.stu.lastEnding) := by
  have ds := loaded_delivered img s
  have resumed := loaded_resumed hk hr
  obtain ⟨kstu, -⟩ := loaded_kept (img := img) hk
  have stu := startBlocks_stu ds resumed
  have absent := startBlocks_noAttempt ds resumed
  rw [kstu] at stu absent
  exact ⟨by rw [stu], by rw [stu], absent⟩

/-- The unsettled list and the closing, begun again (R92, R116, R117). -/
theorem started_accounts :
    (s.sau.shift ≠ .closing → (startBlocks (s.loaded img)).stu.unsettled = s.stu.unsettled.map fun e => { e with
        timer := if 0 < e.left then some 40 else none
        waits := false
        closingWaits := false })
      ∧ (s.sau.shift = .closing → (imagePeers img).terminal ≠ 0 →
        (startBlocks (s.loaded img)).sau.shift = .closing ∧ (startBlocks (s.loaded img)).sau.stage = 2
          ∧ (startBlocks (s.loaded img)).sau.totalsTimer = some 120
          ∧ (startBlocks (s.loaded img)).sau.reconciliation = none)
      ∧ (s.sau.shift = .closing → (imagePeers img).terminal = 0 →
        (startBlocks (s.loaded img)).sau.shift = .closed ∧ (startBlocks (s.loaded img)).sau.stage = 0
          ∧ (startBlocks (s.loaded img)).stu.unsettled = []
          ∧ (startBlocks (s.loaded img)).sau.reconciliation.map (·.result) = some .noAnswer
          ∧ (startBlocks (s.loaded img)).sau.lifetime
            = s.sau.lifetime.add (startBlocks (s.loaded img)).sau.counters) := by
  have ds := loaded_delivered img s
  have resumed := loaded_resumed hk hr
  obtain ⟨kstu, ksau, -⟩ := loaded_kept (img := img) hk
  have terminal : (s.loaded img).hasTerminal = ((imagePeers img).terminal != 0) := by
    rw [State.hasTerminal, (loaded_frame img s).1, Pld.loaded, if_pos (usable_of_reason hr)]
    rfl
  have entries := startBlocks_entries ds resumed
  have awaits := startBlocks_awaits ds resumed
  have finishes := startBlocks_finishes ds resumed
  rw [ksau, kstu] at entries
  rw [ksau, terminal] at awaits finishes
  exact ⟨entries, fun hs ht => awaits hs (by simpa using ht), fun hs ht => finishes hs (by simpa using ht)⟩

end Resumed

end Loaded

/-- Settles O60, block by block: the image's judgement, its delivery, a warm start with no present tariff, and every start. -/
theorem loadCompletionStartsThePart : Obligations.LoadCompletionStartsThePart := by
  refine ⟨imageJudged, fun s img hm hp usable => ⟨_, loads hm hp, ?delivered⟩,
    fun s img hm hp warm reason => ⟨_, loads hm hp, ?inoperative⟩, fun s img hm hp => ⟨_, loads hm hp, ?started⟩⟩
  all_goals
    have ds := loaded_delivered img s
    obtain ⟨pld, supply, pending, treason, cbi, cau, rsd, settings⟩ := loaded_frame img s
    obtain ⟨trc, stu, sau, ⟨odu, fen, upld, rtm, usupply, upending⟩, marquee, ucau⟩ := startBlocks_blocks ds
  case delivered =>
    have only := startBlocks_only ds
    obtain ⟨f, delivered, kept⟩ := loaded_fen img s
    obtain ⟨tariffs, kinds, tariff, kind, fee, owed⟩ := f.start_of_usable (s.pld.kind == .warm) usable
    rw [fen, delivered, ucau, cau, Cau.start_of_usable usable]
    refine ⟨tariffs, kinds, fun i hi => ⟨fun out => ?_, fun range => ?_⟩, fun i hi => ⟨fun out => ?_, fun range => ?_⟩, fee, ?_,
      rfl, rfl, rfl, rfl, rfl, fun i hi => ?_, rfl, ?_, ?_, ?_⟩
    · rw [tariff i hi, (imageTariff_none_iff img i).2 out]
    · rw [tariff i hi, imageTariff_of_range range]
    · rw [kind i hi, (imageKind_none_iff img i).2 out]
    · rw [kind i hi, imageKind_of_range range]
    · rw [owed, Bool.and_eq_true, beq_iff_eq, bne_iff_ne]
      exact and_congr_right fun warm => by rw [kept warm]
    · exact (Cau.start_thresholds usable hi).trans (congrArg some (imageThreshold_eq img i))
    · rw [upld, pld, Pld.loaded, usable]
      rfl
    · rw [only, cbi, Cbi.start_of_usable usable]
      exact imageBitRate_of_usable usable
    · rw [odu, settings, usable, if_pos rfl, imageSensor_of_range (sensorInRange_of_usable usable)]
  case inoperative =>
    obtain ⟨itrc, istu, isau⟩ := started_idle warm reason
    exact ⟨started_inoperative reason, itrc, started_fareRecord warm, istu, isau,
      startBlocks_noSettlement ds (loaded_idle (.inr reason))⟩
  case started =>
    have only := startBlocks_only ds
    refine ⟨by rw [upld, pld]; rfl, by rw [upld, pld]; rfl, by rw [upld, pld]; rfl, upending.trans pending,
      usupply.trans supply, fun unusable => ?invalid, fun usable => ?usable, fun warm usable => ?alarm,
      fun warm reason => ?resumed, fun cold => ?cold⟩
    case invalid =>
      have reason := imageReason_ne_none_of_unusable unusable
      exact ⟨started_inoperative reason, (started_reason img s).trans (imageReason_of_unusable unusable),
        by rw [only, cbi, Cbi.start_of_unusable unusable]; rfl, by rw [only, cbi, Cbi.start_of_unusable unusable]; rfl,
        by rw [odu, settings, unusable]; rfl, fun warm => started_invalid warm unusable⟩
    case usable =>
      obtain ⟨floor, waiting⟩ := Cau.start_idle img
      refine ⟨by rw [only, cbi, Cbi.start_of_usable usable], by rw [only, cbi, Cbi.start_of_usable usable],
        by rw [only, cbi, Cbi.start_of_usable usable]; rfl, by rw [only, cbi, Cbi.start_of_usable usable],
        by rw [odu, settings, if_pos usable], ?_, ?_, startBlocks_meterState ds, ?_, startBlocks_shiftState ds⟩
      · rw [upld, pld]
        exact if_pos usable
      · rw [marquee, rsd, Rsd.start, if_pos usable]
        rfl
      · exact startBlocks_talkState ds (by rw [cau, floor]) (by rw [cau, waiting])
    case alarm => exact started_alarm warm usable
    case resumed =>
      obtain ⟨session, tenders, absent⟩ := started_session (s := s) warm reason
      exact ⟨started_trc warm reason, started_opened warm reason, session, tenders, absent,
        fun a ha => started_attempt warm reason ha, started_accounts warm reason⟩
    case cold =>
      obtain ⟨held, record, lastTrip, fare, cstu, csau, rest⟩ := started_cold (img := img) cold
      rw [csau]
      exact ⟨held, record, lastTrip, fare, cstu, rfl, rfl, rfl, rfl, rfl, rfl, rest⟩

end Sys2Proof.Machine

/-! 03: what a new held state tells (R43, R64, R126), and the requests of the TRC (R44, R47, R49, R50, R53, R54). -/

namespace Sys2Proof.Machine

/-! ### A new held state and its METER_STATE -/

theorem State.meterFrame_payload (s : State) :
    s.meterFrame.payload = meterBytes s.meter.code s.trc.lastTrip s.trc.restricted s.sau.shift := rfl

/-- With no INOPERATIVE reason the meter shows the held state. -/
theorem State.setHeld_meter {s : State} (x : HeldState) (hr : s.trc.reason = .none) :
    (s.setTrc { s.trc with held := x }).meter = x.meter := by
  simp [State.meter, Trc.meter, hr]

/-- A new held state with no INOPERATIVE reason: METER_STATE carries it, or is owed. -/
theorem setHeld_told {s : State} (x : HeldState) (hr : s.trc.reason = .none) (hl : s.cbi.boxes.length = 8) :
    (setHeld x s).cbi.carriesOrOwes (setHeld x s).trc.owed 113
      (meterBytes x.meter.code s.trc.lastTrip s.trc.restricted s.sau.shift) := by
  have told := setHeld_carriesOrOwes x s hl
  rwa [State.meterFrame_payload, State.setHeld_meter x hr] at told

/-- A new held state on an AWAKE part that does not leave the hired states, by the blocks it changes. -/
theorem setHeld_moves {s : State} (x : HeldState) (hd : s.cbi.dormant = false) (hr : s.trc.reason = .none)
    (k : (s.meter.inTrip && !x.meter.inTrip) = false) :
    (setHeld x s).trc = { s.trc with held := x, owed := (setHeld x s).trc.owed }
      ∧ (setHeld x s).rsd = { s.rsd with freeLamp := x.meter == .free && s.rsd.lampTest.isNone }
      ∧ s.cbi.onlyMailboxes (setHeld x s).cbi
      ∧ setHeld x s = { s with trc := (setHeld x s).trc, rsd := (setHeld x s).rsd, cbi := (setHeld x s).cbi } := by
  obtain ⟨c, b, moved, only⟩ := setHeld_stay x hd hr k
  rw [moved]
  exact ⟨rfl, rfl, only, rfl⟩

/-- A request that gives the TRC the records `t`, which show the meter state `m`, and a new held state. -/
theorem setHeld_request {s : State} {m : MeterState} (t : Trc) (x : HeldState) (hd : (received s).cbi.dormant = false)
    (hm : t.meter = m) (works : m ≠ .inoperative) (k : (m.inTrip && !x.meter.inTrip) = false) :
    ∃ u, u = setHeld x ((received s).setTrc t)
      ∧ u.trc = { t with held := x, owed := u.trc.owed }
      ∧ (s.cbi.boxes.length = 8 → u.cbi.carriesOrOwes u.trc.owed 113
          (meterBytes x.meter.code t.lastTrip t.restricted s.sau.shift))
      ∧ u.rsd = { s.rsd with freeLamp := x.meter == .free && s.rsd.lampTest.isNone }
      ∧ (received s).cbi.onlyMailboxes u.cbi
      ∧ u = { s with trc := u.trc, rsd := u.rsd, cbi := u.cbi } := by
  have hr : t.reason = .none := (Trc.meter_held hm works).1
  obtain ⟨trc, rsd, only, whole⟩ := setHeld_moves (s := (received s).setTrc t) x hd hr (by rw [← k, ← hm]; rfl)
  obtain ⟨c, shape, -⟩ := received_eq s
  refine ⟨_, rfl, trc, fun hl => ?_, by simpa using rsd, only, ?_⟩
  · have told := setHeld_told (s := (received s).setTrc t) x hr (by simpa using hl)
    simpa using told
  · rw [shape] at whole ⊢
    exact whole

/-! ### HIRE refused (R44, R47) -/

theorem exec_hire {s : State} {f : RxFrame} (hd : s.delivers 32 f = true) :
    exec (.hire f) s = .next (hire f (received s)) :=
  congrArg Host.Outcome.next (frameComplete_delivers (hire f) hd)

theorem SensorState.not_trusted {x : SensorState} (h : x = .fault ∨ x = .lost) : (!x.trusted) = true := by
  obtain rfl | rfl := h <;> rfl

theorem SensorState.trusted_of {x : SensorState} (h : x = .ok ∨ x = .suspect) : x.trusted = true := by
  obtain rfl | rfl := h <;> rfl

/-- HIRE by its checks, in their order. -/
theorem hire_eq (f : RxFrame) (s : State) : hire f s =
    if s.meter = .inoperative then answer 32 f .refusedParams s
    else if ¬(s.meter = .free ∨ s.meter = .booked) then answer 32 f .refusedState s
    else if s.trc.restricted = true then answer 32 f .refusedParams s
    else if (!s.odu.sensor.trusted) = true then answer 32 f .refusedSensor s
    else if 4 ≤ s.stu.unsettled.length then answer 32 f .refusedUnsettled s
    else if 65535 ≤ s.trc.lastTrip then answer 32 f .refusedLimit s
    else answer 32 f .done (hired s) := rfl

/-- Settles O15: each check is met with the ones before it passed. -/
theorem hireIsRefusedInOrder : Obligations.HireIsRefusedInOrder := by
  unfold Obligations.HireIsRefusedInOrder
  intro s f hd
  have works : s.meter = .free ∨ s.meter = .booked → s.meter ≠ .inoperative := by
    rintro (h | h) <;> simp [h]
  rw [exec_hire hd, hire_eq]
  simp only [received_meter, received_frame]
  refine ⟨fun hm => ?inoperative, fun hw hm => ?state, fun hm hr => ?restricted, fun hm hr hs => ?sensor,
    fun hm hr hs hu => ?unsettled, fun hm hr hs hu hl => ?limit⟩
  case inoperative => rw [if_pos hm]
  case state => rw [if_neg hw, if_pos hm]
  case restricted => rw [if_neg (works hm), if_neg (not_not_intro hm), if_pos hr]
  case sensor => simp only [works hm, hm, hr, SensorState.not_trusted hs, not_true, Bool.false_eq_true, if_true, if_false]
  case unsettled => simp [works hm, hm, hr, SensorState.trusted_of hs, hu]
  case limit => simp [works hm, hm, hr, SensorState.trusted_of hs, Nat.not_le.2 hu, hl]

/-! ### STOP and RESUME (R49, R50) -/

theorem exec_stop {s : State} {f : RxFrame} (hd : s.delivers 33 f = true) :
    exec (.stop f) s = .next (stop f (received s)) :=
  congrArg Host.Outcome.next (frameComplete_delivers (stop f) hd)

theorem exec_resume {s : State} {f : RxFrame} (hd : s.delivers 34 f = true) :
    exec (.resume f) s = .next (resume f (received s)) :=
  congrArg Host.Outcome.next (frameComplete_delivers (resume f) hd)

theorem stop_done {s : State} (f : RxFrame) (hm : s.meter = .hired) (hs : s.odu.motion = .standing) :
    stop f s = answer 33 f .done
      (setHeld .stopped (s.setTrc { s.trc with record := s.trc.record.map (·.stampStop s.odu) })) := by
  simp [stop, hm, hs, Topic.stop, stopped]

theorem resume_done {s : State} (f : RxFrame) (hm : s.meter = .stopped) (hr : s.trc.restricted = false) :
    resume f s = answer 34 f .done (setHeld .hired s) := by
  simp [resume, hm, hr, Topic.resume]

/-- Settles O16: the two requests carried out, and what refuses them. -/
theorem stopAndResumeMoveTheMeter : Obligations.StopAndResumeMoveTheMeter := by
  unfold Obligations.StopAndResumeMoveTheMeter
  refine ⟨?stops, ?moving, ?stopInoperative, ?resumeInoperative, ?notHired, ?notStopped, ?restricted, ?resumes⟩
  case stops =>
    intro s f hd hm hs
    obtain ⟨u, hu, spec⟩ := setHeld_request { s.trc with record := s.trc.record.map (·.stampStop s.odu) } .stopped
      (State.delivers_awake hd) hm (by decide) (by decide)
    refine ⟨u, ?_, spec⟩
    rw [exec_stop hd, stop_done f (by simpa using hm) (by simpa using hs), hu]
    simp
  case resumes =>
    intro s f hd hm hr
    obtain ⟨u, hu, trc, told, rest⟩ := setHeld_request s.trc .hired (State.delivers_awake hd) hm (by decide)
      (by decide)
    refine ⟨u, ?_, trc, by rwa [hr] at told, rest⟩
    obtain ⟨c, shape, -⟩ := received_eq s
    rw [exec_resume hd, resume_done f (by simpa using hm) (by simpa using hr), hu, shape]
    rfl
  case moving =>
    intro s f hd hm hs
    rw [exec_stop hd]
    simp [stop, hm, hs, Topic.stop]
  case stopInoperative =>
    intro s f hd hm
    rw [exec_stop hd]
    simp [stop, hm, Topic.stop]
  case resumeInoperative =>
    intro s f hd hm
    rw [exec_resume hd]
    simp [resume, hm, Topic.resume]
  case notHired =>
    intro s f hd hw hm
    rw [exec_stop hd]
    simp [stop, hw, hm, Topic.stop]
  case notStopped =>
    intro s f hd hw hm
    rw [exec_resume hd]
    simp [resume, hw, hm, Topic.resume]
  case restricted =>
    intro s f hd hm hr
    rw [exec_resume hd]
    simp [resume, hm, hr, Topic.resume]

/-! ### Bookings (R53, R54) -/

theorem exec_bookingAssign {s : State} {f : RxFrame} (hd : s.delivers 38 f = true) :
    exec (.bookingAssign f) s = .next (bookingAssign f (received s)) :=
  congrArg Host.Outcome.next (frameComplete_delivers (bookingAssign f) hd)

theorem exec_bookingCancel {s : State} {f : RxFrame} (hd : s.delivers 39 f = true) :
    exec (.bookingCancel f) s = .next (bookingCancel f (received s)) :=
  congrArg Host.Outcome.next (frameComplete_delivers (bookingCancel f) hd)

/-- A frame that is delivered has a payload of its topic's length (R178). -/
theorem State.delivers_length {s : State} {topic : Nat} {f : RxFrame} (h : s.delivers topic f = true) :
    ∃ i, topicInfo topic = some i ∧ i.least ≤ f.payload.length ∧ f.payload.length ≤ i.most := by
  simp only [State.delivers, Bool.and_eq_true, Option.any_eq_true, beq_iff_eq] at h
  obtain ⟨-, e, -, delivered⟩ := h
  have formed : wellFormedFor e topic f = true := by
    by_contra malformed
    rw [verdict, if_neg malformed] at delivered
    split at delivered <;> exact absurd delivered nofun
  simp only [wellFormedFor, Bool.and_eq_true, Option.any_eq_true, decide_eq_true_eq] at formed
  obtain ⟨-, i, info, ⟨-, least⟩, most⟩ := formed
  exact ⟨i, info, least, most⟩

/-- The bytes from the first on. -/
theorem slice_zero {bs rest : List Byte} : slice (bs ++ rest) 0 bs.length = bs := by
  simp [slice]

theorem slice_all {bs : List Byte} {n : Nat} (h : bs.length = n) : slice bs 0 n = bs := by
  subst h
  simp [slice]

theorem bookingAssign_eq {s : State} {f : RxFrame} {ref : List Byte} {b : Byte} (hp : f.payload = ref ++ [b])
    (hl : ref.length = 8) : bookingAssign f s =
    if s.meter = .inoperative then answer 38 f .refusedParams s
    else if 8 < b.toNat then answer 38 f .refusedFormat s
    else if s.meter ≠ .free then answer 38 f .refusedState s
    else if s.trc.restricted = true then answer 38 f .refusedParams s
    else answer 38 f .done (setHeld .booked (s.setTrc { s.trc with booking := some ⟨ref, b.toNat⟩ })) := by
  have index : field f.payload 8 1 = b.toNat := field_one (by simp [hp, ← hl])
  have reference : slice f.payload 0 8 = ref := by rw [hp, ← hl, slice_zero]
  simp only [bookingAssign, index, reference, Topic.bookingAssign]

/-- A BOOKING_CANCEL that reaches the TRC with a booking held. -/
theorem bookingCancel_eq {s : State} {f : RxFrame} {bk : Booking} (hm : s.meter = .booked)
    (hb : s.trc.booking = some bk) (hl : f.payload.length = 8) : bookingCancel f s =
    if f.payload = List.replicate 8 0 ∨ f.payload = bk.reference then
      answer 39 f .done (setHeld .free (s.setTrc { s.trc with booking := none }))
    else answer 39 f .refusedAbsent s := by
  simp [bookingCancel, hm, hb, namesBooking, slice_all hl, Topic.bookingCancel]

/-- A BOOKING_CANCEL carries eight bytes (Table 11-1). -/
theorem State.delivers_bookingCancel {s : State} {f : RxFrame} (h : s.delivers 39 f = true) : f.payload.length = 8 := by
  obtain ⟨i, info, least, most⟩ := State.delivers_length h
  obtain rfl : i = ⟨clsControl, 8, 8, false⟩ := (Option.some.inj info).symm
  exact Nat.le_antisymm most least

/-- Settles O19: the two requests carried out, and what refuses them. -/
theorem bookingsAreAssignedAndCancelled : Obligations.BookingsAreAssignedAndCancelled := by
  unfold Obligations.BookingsAreAssignedAndCancelled
  refine ⟨?assigned, ?cancelled, ?absent, ?cancelRefused, ?assignRefused⟩
  case assigned =>
    intro s f ref b hd hp hl hb hm hr
    obtain ⟨u, hu, trc, told, rest⟩ := setHeld_request { s.trc with booking := some ⟨ref, b.toNat⟩ } .booked
      (State.delivers_awake hd) hm (by decide) (by decide)
    refine ⟨u, ?_, trc, by rwa [hr] at told, rest⟩
    rw [exec_bookingAssign hd, bookingAssign_eq hp hl, hu]
    simp [hm, hr, Nat.not_lt.2 hb]
  case cancelled =>
    intro s f bk hd hm hb hp
    obtain ⟨u, hu, spec⟩ := setHeld_request { s.trc with booking := none } .free (State.delivers_awake hd) hm
      (by decide) (by decide)
    refine ⟨u, ?_, spec⟩
    rw [exec_bookingCancel hd, bookingCancel_eq (bk := bk) (by simpa using hm) (by simpa using hb)
      (State.delivers_bookingCancel hd), if_pos hp.symm, hu]
    simp
  case absent =>
    intro s f bk hd hm hb hr hz
    rw [exec_bookingCancel hd, bookingCancel_eq (bk := bk) (by simpa using hm) (by simpa using hb)
      (State.delivers_bookingCancel hd), if_neg (not_or.2 ⟨hz, hr⟩)]
  case cancelRefused =>
    intro s f hd
    rw [exec_bookingCancel hd]
    exact ⟨fun hm => by simp [bookingCancel, hm, Topic.bookingCancel],
      fun hw hm => by simp [bookingCancel, hw, hm, Topic.bookingCancel]⟩
  case assignRefused =>
    intro s f ref b hd hp hl
    rw [exec_bookingAssign hd, bookingAssign_eq hp hl]
    simp only [received_meter, received_frame]
    refine ⟨fun hm => if_pos hm ▸ rfl, fun hw hb => ?_, fun hw hb hm => ?_, fun hb hm hr => ?_⟩
    · rw [if_neg hw, if_pos hb]
    · rw [if_neg hw, if_neg (Nat.not_lt.2 hb), if_pos hm]
    · simp [hm, Nat.not_lt.2 hb, hr]

end Sys2Proof.Machine

/-! 07 as the trip meets it (R145, R152, R154): what leaving the hired states does; and a SETTLE_REPORT taken or counted (R89). -/

namespace Sys2Proof.Machine

/-! ### Dropped answers -/

@[simp] theorem Cbi.enqueue_droppedAnswers (c : Cbi) (f : TxFrame) :
    (c.enqueue f).1.droppedAnswers = c.droppedAnswers := by
  unfold Cbi.enqueue
  split
  · split <;> rfl
  · split
    · rfl
    · split <;> rfl

@[simp] theorem wake_droppedAnswers (s : State) : (wake s).cbi.droppedAnswers = s.cbi.droppedAnswers := by
  unfold wake
  split <;> simp

@[simp] theorem enqueue_droppedAnswers (s : State) (f : TxFrame) :
    (enqueue s f).1.cbi.droppedAnswers = s.cbi.droppedAnswers := by
  unfold enqueue
  dsimp only
  split <;> simp

@[simp] theorem enqueueMeterState_droppedAnswers (s : State) :
    (enqueueMeterState s).cbi.droppedAnswers = s.cbi.droppedAnswers := by
  unfold enqueueMeterState
  dsimp only
  split <;> simp

@[simp] theorem enqueueShiftState_droppedAnswers (s : State) :
    (enqueueShiftState s).cbi.droppedAnswers = s.cbi.droppedAnswers := by
  simp [enqueueShiftState]

@[simp] theorem changeFloor_droppedAnswers (x : Floor) (w : Bool) (s : State) :
    (changeFloor x w s).cbi.droppedAnswers = s.cbi.droppedAnswers := by
  unfold changeFloor
  split <;> simp [enqueueTalkState]

@[simp] theorem setHeld_droppedAnswers (x : HeldState) (s : State) :
    (setHeld x s).cbi.droppedAnswers = s.cbi.droppedAnswers := by
  unfold setHeld meterChanged
  dsimp only
  split
  · split <;> simp [clearFloor]
  · simp

/-! ### SETTLE_REPORT -/

theorem State.settleFrame_routed (s : State) : s.settleFrame.cls ≠ clsAlarm := by
  simp [State.settleFrame, clsSettle, clsAlarm]

theorem settleReport_took (s : State) : s.cbi.TookFrames [] (settleReport s).cbi := by
  have taken := enqueue_took s (topics := []) s.settleFrame_routed nofun
  unfold settleReport enqueueCounted
  dsimp only
  split
  · exact taken
  · exact taken.trans (.of_same [] rfl rfl rfl)

/-- A SETTLE_REPORT stands in a mailbox, or was dropped and counted (R89). -/
theorem settleReport_reported (s : State) (hl : s.cbi.boxes.length = 8) :
    s.cbi.reported (settleReport s).cbi s.stu.reportBytes := by
  have enqueued := enqueue_enqueued s s.settleFrame_routed hl
  unfold settleReport enqueueCounted
  dsimp only
  split
  · rename_i taken
    exact .inl ⟨enqueued.1 taken, by simp⟩
  · rename_i full
    exact .inr ⟨by simp [satAdd, Config.max16], enqueued.2 (by simpa using full)⟩

/-- `reported` counts from the dropped answers of the first interface alone. -/
theorem Cbi.reported_of_dropped {b c d : Cbi} (h : c.droppedAnswers = b.droppedAnswers) {payload : List Byte} :
    b.reported d payload ↔ c.reported d payload := by
  simp [Cbi.reported, h]

/-! ### TALK_STATE at a change of the floor -/

theorem TalkReported.congr {s t u v : State} (h : TalkReported s u) (floor : t.cau.floor = s.cau.floor)
    (waiting : t.cau.rearWaiting = s.cau.rearWaiting) (owed : t.cau.owed = s.cau.owed)
    (length : t.cbi.boxes.length = s.cbi.boxes.length) (floor' : v.cau.floor = u.cau.floor)
    (waiting' : v.cau.rearWaiting = u.cau.rearWaiting) (owed' : v.cau.owed = u.cau.owed)
    (boxes' : v.cbi.boxes = u.cbi.boxes) : TalkReported t v := by
  unfold TalkReported
  rw [floor, waiting, owed, length, floor', waiting', owed', Cbi.enqueued_of_boxes boxes']
  exact h

theorem enqueueTalkState_enqueued (s : State) (hl : s.cbi.boxes.length = 8) :
    (enqueueTalkState s).cbi.enqueued (!(enqueueTalkState s).cau.owed) 114
      [codeByte s.cau.floor.code, if s.cau.rearWaiting then 1 else 0] := by
  have told := enqueue_enqueued s (f := s.talkFrame) (by simp [clsAlarm]) hl
  rw [← Bool.not_not (enqueue s s.talkFrame).2.isSome, Option.not_isSome] at told
  exact told

@[simp] theorem enqueueTalkState_floor (s : State) : (enqueueTalkState s).cau.floor = s.cau.floor
    ∧ (enqueueTalkState s).cau.rearWaiting = s.cau.rearWaiting := by
  simp [enqueueTalkState]

theorem changeFloor_talkReported (x : Floor) (w : Bool) (s : State) : TalkReported s (changeFloor x w s) := by
  unfold changeFloor
  split
  · exact ⟨fun changed => absurd changed (by simp), fun _ _ => rfl⟩
  · rename_i changes
    have told := enqueueTalkState_enqueued (setRouting (s.setCau { s.cau with floor := x, rearWaiting := w }))
    obtain ⟨floor, waiting⟩ :=
      enqueueTalkState_floor (setRouting (s.setCau { s.cau with floor := x, rearWaiting := w }))
    refine ⟨fun _ hl => ?_, fun hf hw => absurd ⟨hf.symm.trans floor, hw.symm.trans waiting⟩ changes⟩
    rw [floor, waiting]
    exact told (by simpa using hl)

theorem clearFloor_talkReported (s : State) : TalkReported s (clearFloor s) :=
  (changeFloor_talkReported .none false (s.setCau { s.cau with frontHeld := false, rearHeld := false })).congr
    rfl rfl rfl rfl rfl rfl rfl rfl

/-! ### The hired states left -/

theorem HiredStatesLeft.congr {s t u v : State} (h : HiredStatesLeft s u) (alm : t.alm = s.alm) (cau : t.cau = s.cau)
    (length : t.cbi.boxes.length = s.cbi.boxes.length) (cau' : v.cau = u.cau) (boxes' : v.cbi.boxes = u.cbi.boxes) :
    HiredStatesLeft t v := by
  obtain ⟨clear, active, whole, talk⟩ := h
  refine ⟨?_, ?_, by rwa [cau, cau'], talk.congr (by rw [cau]) (by rw [cau]) (by rw [cau]) length (by rw [cau'])
    (by rw [cau']) (by rw [cau']) boxes'⟩
  · rwa [alm, cau, cau']
  · rwa [alm, cau, cau']

/-- The floor cleared and, with the alarm CLEAR, slot 1 skipped: what the CAU does when the hired states are left. -/
def leaveHired (s : State) : State :=
  if (clearFloor s).alm.state = .clear then resetRearSlot (clearFloor s) else clearFloor s

theorem leaveHired_clear {s : State} (h : s.alm.state = .clear) : leaveHired s = resetRearSlot (clearFloor s) :=
  if_pos (by simpa using h)

theorem leaveHired_active {s : State} (h : s.alm.state = .active) : leaveHired s = clearFloor s :=
  if_neg (by simp [h])

theorem leaveHired_left {s : State} (hd : s.cbi.dormant = false) :
    HiredStatesLeft s (leaveHired s) ∧ (leaveHired s).cau.chime = s.cau.chime
      ∧ (leaveHired s).cau.queue = s.cau.queue := by
  obtain ⟨c, a, cleared, -, whole⟩ := clearFloor_awake hd
  have talk := clearFloor_talkReported s
  have kept : a.rearMic = s.cau.rearMic ∧ a.scan = s.cau.scan ∧ a.chime = s.cau.chime ∧ a.queue = s.cau.queue := by
    rw [whole]; exact ⟨rfl, rfl, rfl, rfl⟩
  obtain ⟨mic, scan, chime, queue⟩ := kept
  cases alarm : s.alm.state with
  | clear =>
    rw [leaveHired_clear alarm]
    refine ⟨⟨fun _ => ⟨rfl, ?_⟩, fun active => absurd (alarm.symm.trans active) (by decide), ?_, ?_⟩, ?_, ?_⟩
    · rw [cleared]; exact congrArg (Option.map _) scan
    · rw [cleared]
      show ({ a with rearMic := _, scan := _ } : Cau) = _
      rw [whole]
      rfl
    · exact talk.congr rfl rfl rfl rfl rfl rfl rfl rfl
    · rw [cleared]; exact chime
    · rw [cleared]; exact queue
  | active =>
    rw [leaveHired_active alarm]
    rw [cleared] at talk ⊢
    refine ⟨⟨fun clear => absurd (alarm.symm.trans clear) (by decide), fun _ => ⟨mic, scan⟩, ?_, talk⟩, chime, queue⟩
    show a = _
    rw [whole]
    rfl

theorem meterChanged_leaves {s : State} {old : MeterState} (k : (old.inTrip && !s.meter.inTrip) = true) :
    meterChanged old s = leaveHired (updateLamp (enqueueMeterState s)) := by
  have meter : (updateLamp (enqueueMeterState s)).meter = s.meter := by simp [State.meter, Trc.meter]
  unfold meterChanged
  dsimp only
  rw [meter, if_pos k]
  rfl

theorem meterChanged_left {s : State} {old : MeterState} (hd : s.cbi.dormant = false)
    (k : (old.inTrip && !s.meter.inTrip) = true) :
    HiredStatesLeft s (meterChanged old s) ∧ (meterChanged old s).cau.chime = s.cau.chime
      ∧ (meterChanged old s).cau.queue = s.cau.queue := by
  obtain ⟨c, b, metered, only⟩ := enqueueMeterState_awake hd
  have took := enqueueMeterState_took s
  have awake : (updateLamp (enqueueMeterState s)).cbi.dormant = false := by
    rw [metered]
    exact (Cbi.onlyMailboxes_dormant only).trans hd
  obtain ⟨left, chime, queue⟩ := leaveHired_left awake
  have cau : (updateLamp (enqueueMeterState s)).cau = s.cau := by rw [metered]; rfl
  rw [meterChanged_leaves k]
  rw [cau] at chime queue
  exact ⟨left.congr (by simp) cau.symm (by simpa using took.length.symm) rfl rfl, chime, queue⟩

end Sys2Proof.Machine

/-! 03: the close of a trip, SETTLE and VOID (R51, R52, R59, R60, R69, R89); and the part's own number on the line (R182). -/

namespace Sys2Proof.Machine

/-! ### The close of a trip (R59, R60) -/

/-- The record handed to the SAU, before the meter becomes FREE. -/
def State.tripHanded (o : TripOutcome) (waived : Nat) (r : TripRecord) (s : State) : State :=
  (tripCloseArrival (r.complete s.fen.record s.stu.tenders o) waived s).setTrc { s.trc with record := none }

theorem closeTrip_eq {s : State} {r : TripRecord} (o : TripOutcome) (waived : Nat) (hr : s.trc.record = some r) :
    closeTrip o waived s = (setHeld .free (s.tripHanded o waived r)).setStu
      { s.stu with session := none, tenders := [] } := by
  have stu : (setHeld .free (s.tripHanded o waived r)).stu = s.stu := (setHeld_frame _ _).2.2.1
  have closed : closeTrip o waived s = (setHeld .free (s.tripHanded o waived r)).setStu
      { (setHeld .free (s.tripHanded o waived r)).stu with session := none, tenders := [] } := by
    unfold closeTrip
    rw [hr]
    rfl
  rw [closed, stu]

/-- A meter in the hired states has no INOPERATIVE reason. -/
theorem Trc.reason_of_inTrip {t : Trc} (h : t.meter.inTrip = true) : t.reason = .none := by
  by_contra present
  simp [Trc.meter, present, MeterState.inTrip] at h

/-- A trip closed at a request. -/
theorem closeTrip_closed {s : State} {r : TripRecord} (o : TripOutcome) (waived : Nat)
    (hd : (received s).cbi.dormant = false) (hr : s.trc.record = some r) (hm : s.meter.inTrip = true) :
    ∃ u, u = closeTrip o waived (received s) ∧ TripClosed s u r s.stu.tenders o waived
      ∧ u.stu = { s.stu with session := none, tenders := [] }
      ∧ u.cau.chime = s.cau.chime ∧ u.cau.queue = s.cau.queue := by
  obtain ⟨c0, shape, -⟩ := received_eq s
  have record : (received s).trc.record = some r := by simpa using hr
  have trip : (received s).meter.inTrip = true := by simpa using hm
  have reason : ((received s).tripHanded o waived r).trc.reason = .none := Trc.reason_of_inTrip trip
  have leaves : ((received s).meter.inTrip
      && !(((received s).tripHanded o waived r).setTrc
        { ((received s).tripHanded o waived r).trc with held := .free }).meter.inTrip) = true := by
    rw [trip, State.setHeld_meter .free reason]
    rfl
  obtain ⟨left, chime, queue⟩ := meterChanged_left (s := ((received s).tripHanded o waived r).setTrc
    { ((received s).tripHanded o waived r).trc with held := .free }) hd leaves
  have told := setHeld_told (s := (received s).tripHanded o waived r) .free reason
  have closed := closeTrip_eq o waived record
  obtain ⟨c, b, a, whole, only, -⟩ := closeTrip_awake o waived hd record trip
  refine ⟨_, rfl, ⟨?trc, rfl, ?sau, ?session, ?tenders, ?left, fun hl => ?told, ?only, ?rsd, ?whole⟩, ?stu, ?chime, ?queue⟩
  case left =>
    rw [closed]
    exact left.congr (by simp [State.tripHanded, tripCloseArrival]) (by simp [State.tripHanded, tripCloseArrival])
      (by simp [State.tripHanded, tripCloseArrival]) rfl rfl
  case told =>
    rw [closed]
    simpa [State.tripHanded, tripCloseArrival, HeldState.meter, MeterState.code] using
      told (by simpa [State.tripHanded, tripCloseArrival] using hl)
  case chime =>
    rw [closed]
    exact chime.trans (by simp [State.tripHanded, tripCloseArrival])
  case queue =>
    rw [closed]
    exact queue.trans (by simp [State.tripHanded, tripCloseArrival])
  case only => rw [whole]; exact only
  case session => rw [whole]
  case tenders => rw [whole]
  all_goals rw [whole, shape]; rfl

/-! ### SETTLE (R51, R69) -/

theorem exec_settle {s : State} {f : RxFrame} (hd : s.delivers 35 f = true) :
    exec (.settle f) s = .next (settle f (received s)) :=
  congrArg Host.Outcome.next (frameComplete_delivers (settle f) hd)

theorem settle_done {s : State} (f : RxFrame) (hm : s.meter = .stopped) (hs : s.odu.motion = .standing) :
    settle f s = answer 35 f .done (settled s) := by
  simp [settle, hm, hs, Topic.settle]

theorem settled_closes {s : State} (h : s.fen.record.total = 0) : settled s = closeTrip .paid 0 s := if_pos h

theorem settled_opens {s : State} {r : TripRecord} (h : 0 < s.fen.record.total) (hr : s.trc.record = some r) :
    settled s = openSession r (setHeld .settling s) := by
  unfold settled
  rw [if_neg (Nat.pos_iff_ne_zero.1 h), hr]

/-- The records of the STU as a session opens (R69). -/
def State.sessionStu (s : State) (r : TripRecord) : Stu :=
  { s.stu with session := some ⟨r.trip, r.shift, s.fen.record.total, 0⟩, tenders := [], lastEnding := .none }

theorem openSession_eq (r : TripRecord) (s : State) :
    openSession r (setHeld .settling s) = settleReport ((setHeld .settling s).setStu (s.sessionStu r)) := by
  simp [openSession, State.sessionStu]

/-- A session opened at a request: METER_STATE, then SETTLE_REPORT (log 9). -/
theorem openSession_spec {s : State} (r : TripRecord) (hd : (received s).cbi.dormant = false)
    (hm : s.meter = .stopped) :
    ∃ u, u = openSession r (setHeld .settling (received s))
      ∧ u.trc = { s.trc with held := .settling, owed := u.trc.owed } ∧ u.stu = s.sessionStu r
      ∧ (s.cbi.boxes.length = 8 →
          u.cbi.carriesOrOwes u.trc.owed 113 (meterBytes 6 s.trc.lastTrip s.trc.restricted s.sau.shift)
          ∧ (received s).cbi.reported u.cbi u.stu.reportBytes)
      ∧ u.rsd = { s.rsd with freeLamp := false } ∧ (received s).cbi.onlyMailboxes u.cbi
      ∧ u = { s with trc := u.trc, stu := u.stu, rsd := u.rsd, cbi := u.cbi } := by
  obtain ⟨c0, shape, -⟩ := received_eq s
  have meter : (received s).meter = .stopped := by simpa using hm
  have reason : (received s).trc.reason = .none := (Trc.meter_held meter (by decide)).1
  obtain ⟨trc, rsd, only, whole⟩ := setHeld_moves .settling hd reason (by rw [meter]; rfl)
  have told := setHeld_told .settling reason
  have took := setHeld_took .settling (received s)
  have dropped := setHeld_droppedAnswers .settling (received s)
  have stu : (received s).sessionStu r = s.sessionStu r := by simp [State.sessionStu]
  rw [openSession_eq, stu]
  generalize setHeld .settling (received s) = v at *
  have reported := settleReport_reported (v.setStu (s.sessionStu r))
  have later := settleReport_took (v.setStu (s.sessionStu r))
  obtain ⟨c, report, only'⟩ := settleReport_awake (s := v.setStu (s.sessionStu r))
    ((Cbi.onlyMailboxes_dormant only).trans hd)
  rw [report] at reported later ⊢
  refine ⟨_, rfl, ?_, rfl, fun hl => ⟨?_, ?_⟩, ?_, Cbi.onlyMailboxes_trans only only', ?_⟩
  · simpa using trc
  · have metered := told (by simpa using hl)
    simp only [received_frame] at metered
    exact later.carriesOrOwes (by simp) metered
  · exact (Cbi.reported_of_dropped dropped).2 (reported (took.length.trans (by simpa using hl)))
  · simp only [received_frame] at rsd
    exact rsd
  · rw [shape] at whole
    rw [whole]
    rfl

/-- Settles O17: a session or the close of the trip by the fare total, and the refusals. -/
theorem settleOpensASession : Obligations.SettleOpensASession := by
  unfold Obligations.SettleOpensASession
  refine ⟨fun s f r hd hm hs hr ht => ?opens, fun s f r hd hm hs hr ht hn => ?closes, fun s f hd => ?refuses⟩
  case opens =>
    obtain ⟨u, hu, spec⟩ := openSession_spec r (State.delivers_awake hd) hm
    refine ⟨u, ?_, spec⟩
    rw [exec_settle hd, settle_done f (by simpa using hm) (by simpa using hs),
      settled_opens (r := r) (by simpa using ht) (by simpa using hr), hu]
  case closes =>
    obtain ⟨u, hu, closed, rest⟩ := closeTrip_closed .paid 0 (State.delivers_awake hd) hr (by simp [hm, MeterState.inTrip])
    refine ⟨u, ?_, hn ▸ closed, rest⟩
    rw [exec_settle hd, settle_done f (by simpa using hm) (by simpa using hs), settled_closes (by simpa using ht), hu]
  case refuses =>
    rw [exec_settle hd]
    refine ⟨fun hm => ?_, fun hw hm => ?_, fun hm hs => ?_⟩
    · simp [settle, hm, Topic.settle]
    · simp [settle, hw, hm, Topic.settle]
    · simp [settle, hm, hs, Topic.settle]

/-! ### VOID (R52) -/

theorem exec_void {s : State} {f : RxFrame} (hd : s.delivers 36 f = true) :
    exec (.void f) s = .next (void f (received s)) :=
  congrArg Host.Outcome.next (frameComplete_delivers (void f) hd)

theorem void_done {s : State} (f : RxFrame)
    (hm : s.meter = .stopped ∨ (s.meter = .settling ∧ s.stu.attempt = none)) :
    void f s = answer 36 f .done (voided s) := by
  obtain h | ⟨h, absent⟩ := hm
  · simp [void, h, Topic.void]
  · simp [void, h, absent, Topic.void]

/-- Settles O18: the close of the trip with what no tender covers waived, and the refusals. -/
theorem voidWaivesWhatIsLeft : Obligations.VoidWaivesWhatIsLeft := by
  unfold Obligations.VoidWaivesWhatIsLeft
  refine ⟨fun s f r hd hm hr => ?closes, fun s f hd hm => ?inoperative, fun s f hd hw h1 h2 => ?state,
    fun s f hd hm ha => ?busy⟩
  case closes =>
    have trip : s.meter.inTrip = true := by
      obtain h | ⟨h, -⟩ := hm <;> simp [h, MeterState.inTrip]
    obtain ⟨u, hu, spec⟩ := closeTrip_closed (if s.stu.tenders = [] then .waived else .partWaived)
      (s.fen.record.total - s.stu.tendered) (State.delivers_awake hd) hr trip
    refine ⟨u, ?_, spec⟩
    rw [exec_void hd, void_done f (by simpa using hm), hu]
    simp [voided]
  case inoperative =>
    rw [exec_void hd]
    simp [void, hm, Topic.void]
  case state =>
    rw [exec_void hd]
    simp [void, hw, h1, h2, Topic.void]
  case busy =>
    rw [exec_void hd]
    simp [void, hm, ha, Topic.void]

/-! ### The part's own number on the line (R44, R90, R182) -/

/-- A change of the meter state on an AWAKE part, by the blocks it changes. -/
theorem meterChanged_moves {s : State} (old : MeterState) (hd : s.cbi.dormant = false) :
    (meterChanged old s).trc = { s.trc with owed := (meterChanged old s).trc.owed }
      ∧ (meterChanged old s).rsd = { s.rsd with freeLamp := s.meter == .free && s.rsd.lampTest.isNone }
      ∧ s.cbi.onlyMailboxes (meterChanged old s).cbi
      ∧ meterChanged old s = { s with
          trc := (meterChanged old s).trc
          rsd := (meterChanged old s).rsd
          cau := (meterChanged old s).cau
          cbi := (meterChanged old s).cbi }
      ∧ ((old.inTrip && !s.meter.inTrip) = false → (meterChanged old s).cau = s.cau) := by
  cases k : old.inTrip && !s.meter.inTrip with
  | false =>
    obtain ⟨c, b, stay, only⟩ := meterChanged_stay old hd k
    rw [stay]
    exact ⟨rfl, rfl, only, rfl, fun _ => rfl⟩
  | true =>
    obtain ⟨c, b, a, leave, only, -⟩ := meterChanged_leave old hd k
    rw [leave]
    exact ⟨rfl, rfl, only, rfl, nofun⟩

theorem State.ownSource_ownFrame {s : State} {p : PeerTable} (hp : s.pld.peers = some p) (ho : p.own < 32)
    (cls : BitVec 2) (payload : List Byte) : s.ownSource (s.ownFrame cls payload) = true := by
  simp [State.ownSource, State.ownFrame, State.ownNumber, hp, Nat.mod_eq_of_lt ho]

/-- A frame with the part's own number that it receives. -/
theorem exec_ownNumberFrame {s : State} {p : PeerTable} (topic : BitVec 9) (cls : BitVec 2) (payload : List Byte)
    (hb : s.busOn = true) (hd : s.cbi.dormant = false) (hr : s.receptive = true) (hp : s.pld.peers = some p)
    (ho : p.own < 32) :
    exec (.ownNumberFrame topic cls payload) s = .next (duplicateStation (received s)) := by
  have own : (received s).ownSource (s.ownFrame cls payload) = true := by
    rw [← State.ownSource_ownFrame hp ho cls payload]
    simp [State.ownSource]
  show Host.Outcome.next (frameComplete _ _ _ s) = _
  simp [frameComplete, hb, hd, hr, own]

/-- The records of a part that has just heard its own number, before the meter state's change is told. -/
def State.silenced (s : State) : State :=
  stopSettlementTimers ((s.setCbi { s.cbi with standing := .silenced }).setTrc
    { s.trc with reason := .duplicateStation })

@[simp] theorem State.silenced_frame (s : State) :
    s.silenced.odu = s.odu ∧ s.silenced.fen = s.fen ∧ s.silenced.sau = s.sau ∧ s.silenced.rsd = s.rsd
      ∧ s.silenced.cau = s.cau ∧ s.silenced.alm = s.alm ∧ s.silenced.cbi = { s.cbi with standing := .silenced }
      ∧ s.silenced.trc = { s.trc with reason := .duplicateStation }
      ∧ s.silenced.stu = { s.stu with
          attempt := s.stu.attempt.map fun a => { a with timer := none }
          unsettled := s.stu.unsettled.map fun e => { e with timer := none } } :=
  ⟨rfl, rfl, rfl, rfl, rfl, rfl, rfl, rfl, rfl⟩

theorem duplicateStation_new {s : State} (h : s.trc.reason = .none) :
    duplicateStation s = meterChanged s.meter s.silenced := by
  simp [duplicateStation, h, State.silenced]

/-- Settles O52: the meter becomes INOPERATIVE, which leaves the hired states where it was in them. -/
theorem ownNumberSilencesThePart : Obligations.OwnNumberSilencesThePart := by
  unfold Obligations.OwnNumberSilencesThePart
  intro s topic cls payload p hb hd hr hp ho hn
  obtain ⟨c0, shape, -⟩ := received_eq s
  have awake : (received s).silenced.cbi.dormant = false := by simpa using hd
  have meter : (received s).silenced.meter = .inoperative := rfl
  have told := meterChanged_carriesOrOwes (received s).meter (received s).silenced
  have left := meterChanged_left (s := (received s).silenced) (old := (received s).meter) awake
  obtain ⟨trc, rsd, only, whole, stays⟩ := meterChanged_moves (received s).meter awake
  have event := exec_ownNumberFrame topic cls payload hb hd hr hp ho
  rw [duplicateStation_new (by simpa using hn)] at event
  rw [meter] at left stays rsd
  rw [received_meter] at told left trc rsd only whole stays event
  refine ⟨_, event, ?standing, ?meter, ?trc, ?stu, fun trip => ?left, fun outside => ?outside, fun hl => ?told, only,
    ?faults, ?rsd, ?whole⟩
  case standing => rw [only]; rfl
  case meter => rw [State.meter, trc]; rfl
  case trc => rw [trc]; simp
  case stu => rw [whole]; simp
  case left =>
    obtain ⟨hired, chime, queue⟩ := left (by rw [trip]; rfl)
    exact ⟨hired.congr (by simp) (by simp) (by simp) rfl rfl, by simpa using chime, by simpa using queue⟩
  case outside =>
    rw [stays (by simp [outside])]
    simp
  case told =>
    have carried := told (by simpa using hl)
    rw [State.meterFrame_payload, meter] at carried
    simpa [MeterState.code] using carried
  case faults => rw [only]; rfl
  case rsd => rw [rsd]; simp
  case whole =>
    have stu : (meterChanged s.meter (received s).silenced).stu = (received s).silenced.stu := by simp
    rw [stu]
    rw [shape] at whole ⊢
    exact whole

end Sys2Proof.Machine

/-! 05: SHIFT_OPEN (R55, R95), and what a change of the shift state tells (R64, R114). -/

namespace Sys2Proof.Machine

/-! ### SHIFT_OPEN (R55, R95) -/

/-- SHIFT_STATE at an event: it stands in a mailbox, or it met QUEUE_FULL and is owed. -/
theorem enqueueShiftState_enqueued (s : State) (hl : s.cbi.boxes.length = 8) :
    (enqueueShiftState s).cbi.enqueued (!(enqueueShiftState s).sau.owed) 115 s.shiftFrame.payload := by
  have told := enqueue_enqueued s (f := s.shiftFrame) (by simp [clsAlarm]) hl
  rw [← Bool.not_not (enqueue s s.shiftFrame).2.isSome, Option.not_isSome] at told
  exact told

theorem enqueueShiftState_took (s : State) : s.cbi.TookFrames [115] (enqueueShiftState s).cbi :=
  enqueue_took s (f := s.shiftFrame) (by simp [clsAlarm]) (by simp)

theorem exec_shiftOpen {s : State} {f : RxFrame} (hd : s.delivers 48 f = true) :
    exec (.shiftOpen f) s = .next (shiftOpen f (received s)) :=
  congrArg Host.Outcome.next (frameComplete_delivers (shiftOpen f) hd)

theorem shiftOpen_done {s : State} (f : RxFrame) (hm : s.meter = .offDuty) (hs : s.sau.shift = .closed)
    (hc : s.odu.clockSet = true) : shiftOpen f s = answer 48 f .done (shiftOpened s) := by
  simp [shiftOpen, hm, hs, hc, Topic.shiftOpen]

/-- The accounts of a shift that opens (R95). -/
def State.openedSau (s : State) : Sau :=
  { s.sau with
    shift := .opened
    number := nextShift s.sau.number
    counters := Counters.zero
    journal := []
    reconciliation := none
    recordedCheck := s.pld.tariffCheck
    openTime := s.odu.clock
    closeTime := 0
    retainedLost := false }

theorem shiftOpened_eq (s : State) : shiftOpened s =
    enqueueShiftState (setHeld .free ((s.setSau s.openedSau).setTrc { s.trc with lastTrip := 0 })) := rfl

/-- A change of the held state outside the trip, with the accounts changed before and SHIFT_STATE told after (log 9). -/
theorem shiftChanged_spec {s : State} (x : HeldState) (hd : s.cbi.dormant = false) (hr : s.trc.reason = .none)
    (k : (s.meter.inTrip && !x.meter.inTrip) = false) :
    ∃ u, u = enqueueShiftState (setHeld x s)
      ∧ u.sau = { s.sau with owed := u.sau.owed }
      ∧ u.trc = { s.trc with held := x, owed := u.trc.owed }
      ∧ (s.cbi.boxes.length = 8 →
          u.cbi.carriesOrOwes u.trc.owed 113
            (meterBytes x.meter.code s.trc.lastTrip s.trc.restricted s.sau.shift)
          ∧ u.cbi.enqueued (!u.sau.owed) 115 s.shiftFrame.payload)
      ∧ u.rsd = { s.rsd with freeLamp := x.meter == .free && s.rsd.lampTest.isNone }
      ∧ s.cbi.onlyMailboxes u.cbi ∧ s.cbi.TookFrames [113, 114, 115] u.cbi
      ∧ u = { s with sau := u.sau, trc := u.trc, rsd := u.rsd, cbi := u.cbi } := by
  obtain ⟨trc, rsd, only, whole⟩ := setHeld_moves x hd hr k
  have told := setHeld_told x hr
  have took := setHeld_took x s
  have sau : (setHeld x s).sau = s.sau := by simp
  generalize setHeld x s = v at *
  have shift := enqueueShiftState_enqueued v
  have later := enqueueShiftState_took v
  obtain ⟨c, b, shape, only'⟩ := enqueueShiftState_awake (s := v) ((Cbi.onlyMailboxes_dormant only).trans hd)
  rw [shape] at shift later ⊢
  refine ⟨_, rfl, ?_, trc, fun hl => ⟨later.carriesOrOwes (by simp) (told hl), ?_⟩, rsd,
    Cbi.onlyMailboxes_trans only only', took.trans later, ?_⟩
  · rw [State.setSau_sau, sau]
  · have length : v.cbi.boxes.length = 8 := took.length.trans hl
    simpa [State.shiftFrame, sau] using shift length
  · rw [whole]
    rfl

/-- Settles O29: the refusals in their order, and the accounts opened. -/
theorem shiftOpenBeginsTheAccounts : Obligations.ShiftOpenBeginsTheAccounts := by
  unfold Obligations.ShiftOpenBeginsTheAccounts
  intro s f hd
  rw [exec_shiftOpen hd]
  refine ⟨fun hm => ?_, fun hw hs => ?_, fun hw hs hc => ?_, fun hm hs hc => ?_⟩
  · simp [shiftOpen, hm, Topic.shiftOpen]
  · simp [shiftOpen, hw, hs, Topic.shiftOpen]
  · simp [shiftOpen, hw, hs, hc, Topic.shiftOpen]
  · obtain ⟨c0, shape, -⟩ := received_eq s
    have reason : s.trc.reason = .none := (Trc.meter_held hm (by decide)).1
    have awake := State.delivers_awake hd
    have boxes := (received_cbi s).1
    rw [shiftOpen_done f (by simpa using hm) (by simpa using hs) (by simpa using hc), shiftOpened_eq]
    rw [shape] at awake boxes ⊢
    obtain ⟨u, hu, sau, trc, told, rsd, only, -, whole⟩ := shiftChanged_spec
      (s := ((s.setCbi c0).setSau (s.setCbi c0).openedSau).setTrc { s.trc with lastTrip := 0 }) .free awake reason
      (by show (s.meter.inTrip && _) = false; rw [hm]; rfl)
    refine ⟨u, congrArg _ (congrArg _ hu.symm), sau, trc, fun hl => ?_, rsd, only, whole⟩
    obtain ⟨meter, shift⟩ := told ((congrArg List.length boxes).trans hl)
    refine ⟨meter, ?_⟩
    rw [sau]
    exact shift

end Sys2Proof.Machine

/-! 05: the closing, with a TERMINAL and without one (R96, R107, R108), and the end of stage 2 (R87, R109 to R111). -/

namespace Sys2Proof.Machine

/-! ### Numbers in a payload -/

@[simp] theorem be_length (n v : Nat) : (be n v).length = n := by
  induction n generalizing v with
  | zero => rfl
  | succ n ih => simp [be, ih]

theorem ofBytes_be (n v : Nat) : ofBytes (be n v) = v % 256 ^ n := by
  induction n generalizing v with
  | zero => simp [be, ofBytes, Nat.mod_one]
  | succ n ih =>
    have split : ofBytes (be (n + 1) v) = ofBytes (be n (v / 256)) * 256 + v % 256 := by
      simp [be, ofBytes]
    rw [split, ih, pow_succ', Nat.mod_mul]
    omega

theorem slice_append_right {a b : List Byte} {n : Nat} (h : b.length = n) : slice (a ++ b) a.length n = b := by
  subst h
  simp [slice]

/-- A TERMINAL_TOTALS carries a count and a sum (Table 11-1). -/
theorem field_totals {payload : List Byte} {n m : Nat} (hp : payload = be 3 n ++ be 6 m) (hn : n < 16777216)
    (hm : m < 281474976710656) : field payload 0 3 = n ∧ field payload 3 6 = m := by
  have first : slice payload 0 3 = be 3 n := by
    rw [hp]
    simpa using slice_zero (bs := be 3 n) (rest := be 6 m)
  have second : slice payload 3 6 = be 6 m := by
    rw [hp]
    simpa using slice_append_right (a := be 3 n) (be_length 6 m)
  rw [field, field, first, second, ofBytes_be, ofBytes_be]
  exact ⟨Nat.mod_eq_of_lt (by simpa using hn), Nat.mod_eq_of_lt (by simpa using hm)⟩

/-! ### The unsettled entries converted (R87, R103) -/

/-- The counters when an entry is converted UNPAID. -/
def Counters.convert (c : Counters) (e : UnsettledEntry) : Counters :=
  { c with
    outstanding := c.outstanding - e.requested
    unpaid := min (c.unpaid + e.requested) 281474976710655
    unsettledCount := c.unsettledCount - 1
    unpaidCount := min (c.unpaidCount + 1) 65535 }

/-- The journal when an entry is converted UNPAID. -/
def journalConvert (j : List TripRecord) (e : UnsettledEntry) : List TripRecord :=
  j.map fun r => if r.trip = e.trip then { r with outcome := some .unpaid } else r

theorem convertEntry_accounts (e : UnsettledEntry) (s : State) : (convertEntry e s).sau = { s.sau with
    counters := s.sau.counters.convert e
    journal := journalConvert s.sau.journal e } := by
  simp [convertEntry, settleReport, resolution, dropEntry, Counters.resolve, Counters.convert, journalConvert,
    TripRecord.resolve, satAdd, Config.max16, Config.max48]

theorem convertAll_accounts (s : State) : (convertAll s).sau = { s.sau with
    counters := s.stu.unsettled.foldl Counters.convert s.sau.counters
    journal := s.stu.unsettled.foldl journalConvert s.sau.journal } := by
  unfold convertAll
  generalize s.stu.unsettled = l
  induction l generalizing s with
  | nil => rfl
  | cons e l ih => rw [List.foldl_cons, ih, convertEntry_accounts]; rfl

/-- Between two interfaces dropped answers were counted, up to the top of the count (R179). -/
def Cbi.DropsCounted (c d : Cbi) : Prop :=
  d.droppedAnswers = c.droppedAnswers ∨ (c.droppedAnswers < d.droppedAnswers ∧ d.droppedAnswers ≤ 65535)
    ∨ d.droppedAnswers = 65535

theorem Cbi.DropsCounted.refl (c : Cbi) : c.DropsCounted c := .inl rfl

theorem Cbi.DropsCounted.trans {c d e : Cbi} (h : c.DropsCounted d) (g : d.DropsCounted e) : c.DropsCounted e := by
  unfold DropsCounted at *
  omega

theorem Cbi.DropsCounted.of_reported {c d : Cbi} {payload : List Byte} (h : c.reported d payload) :
    c.DropsCounted d := by
  unfold DropsCounted
  obtain ⟨-, same⟩ | ⟨dropped, -⟩ := h <;> omega

/-- The state in which the conversion of an entry reports it. -/
def State.entryConverted (e : UnsettledEntry) (s : State) : State :=
  (resolution ⟨e.trip, e.requested, false, 0, 0, 0, none⟩ (dropEntry e s)).abortWhere
    (isAttemptFrame Topic.payStatusQuery e.trip e.attempt)

theorem convertEntry_eq (e : UnsettledEntry) (s : State) : convertEntry e s = settleReport (s.entryConverted e) := rfl

/-- The conversion of the oldest entry: a SETTLE_REPORT with the entries after it still listed. -/
theorem convertEntry_reported {e : UnsettledEntry} {l : List UnsettledEntry} {s : State}
    (hu : s.stu.unsettled = e :: l) (hl : s.cbi.boxes.length = 8) :
    s.cbi.reported (convertEntry e s).cbi ({ s.stu with unsettled := l } : Stu).reportBytes := by
  have stu : (s.entryConverted e).stu = { s.stu with unsettled := l } := by
    simp [State.entryConverted, resolution, dropEntry, hu]
  have length : (s.entryConverted e).cbi.boxes.length = 8 := by
    simpa [State.entryConverted, resolution, dropEntry, State.abortWhere, Cbi.abortWhere] using hl
  rw [convertEntry_eq, ← stu]
  exact (Cbi.reported_of_dropped rfl).1 (settleReport_reported (s.entryConverted e) length)

theorem convertEntry_unsettled {e : UnsettledEntry} {l : List UnsettledEntry} {s : State}
    (hu : s.stu.unsettled = e :: l) : (convertEntry e s).stu = { s.stu with unsettled := l } := by
  simp [convertEntry_stu, hu]

theorem convertAll_cons {e : UnsettledEntry} {l : List UnsettledEntry} {s : State}
    (hu : s.stu.unsettled = e :: l) : convertAll s = convertAll (convertEntry e s) := by
  simp [convertAll, hu, convertEntry_unsettled hu]

theorem convertAll_counted {s : State} (hd : s.cbi.dormant = false) (hl : s.cbi.boxes.length = 8) :
    s.cbi.DropsCounted (convertAll s).cbi := by
  generalize hu : s.stu.unsettled = l
  induction l generalizing s with
  | nil => rw [convertAll, hu]; exact .refl _
  | cons e l ih =>
    have moved := convertEntry_moved hd e
    rw [convertAll_cons hu]
    exact (Cbi.DropsCounted.of_reported (convertEntry_reported hu hl)).trans
      (ih (moved.awake hd) (moved.moves.length.trans hl) (by rw [convertEntry_unsettled hu]))

/-- Each entry converted left its SETTLE_REPORT, or one was dropped and counted (R87, R89). -/
theorem convertAll_reported {s : State} (hd : s.cbi.dormant = false) (hl : s.cbi.boxes.length = 8) :
    ConversionReported s (convertAll s) := by
  generalize hu : s.stu.unsettled = l
  induction l generalizing s with
  | nil =>
    intro k hk
    simp [hu] at hk
  | cons e l ih =>
    have moved := convertEntry_moved hd e
    have stu := convertEntry_unsettled hu
    have reported := convertEntry_reported hu hl
    have awake := moved.awake hd
    have length := moved.moves.length.trans hl
    have counted := Cbi.DropsCounted.of_reported reported
    have later := convertAll_counted awake length
    have rest := ih awake length (by rw [stu])
    rw [convertAll_cons hu]
    intro k hk
    rw [hu] at hk ⊢
    unfold Cbi.DropsCounted at counted later
    cases k with
    | zero =>
      obtain ⟨carried, -⟩ | ⟨dropped, -⟩ := reported
      · exact .inl ((convertAll_moved awake).moves.carries (by decide) carried)
      · right; omega
    | succ k =>
      have entry := rest k (by rw [stu]; simpa using hk)
      rw [stu] at entry
      obtain carried | raised | top := entry
      · exact .inl carried
      · right; omega
      · exact .inr (.inr top)

/-- What the conversions reported reads the STU and the dropped answers before, and the SETTLE_REPORTs and dropped answers
after. -/
theorem ConversionReported.congr {s t u v : State} (h : ConversionReported s u) (stu : t.stu = s.stu)
    (dropped : t.cbi.droppedAnswers = s.cbi.droppedAnswers)
    (carries : ∀ payload, u.cbi.carries 83 payload → v.cbi.carries 83 payload)
    (dropped' : v.cbi.droppedAnswers = u.cbi.droppedAnswers) : ConversionReported t v := by
  unfold ConversionReported
  rw [stu, dropped, dropped']
  exact fun k hk => (h k hk).imp_left (carries _)

/-! ### The end of the closing (R109 to R111) -/

/-- The accounts of a shift that closes. -/
def State.closedSau (s : State) (rec : Reconciliation) : Sau :=
  let counters := s.stu.unsettled.foldl Counters.convert s.sau.counters
  { s.sau with
    shift := .closed
    stage := 0
    totalsTimer := none
    totalsWaits := false
    reconciliation := some rec
    counters := counters
    journal := s.stu.unsettled.foldl journalConvert s.sau.journal
    closeTime := s.odu.clock
    summary := ⟨s.sau.number, s.sau.openTime, s.odu.clock, counters, some rec⟩
    lifetime := s.sau.lifetime.add counters }

theorem accountsClosed_whole (terminal : Option (Nat × Nat)) (s : State) :
    (s.accountsClosed terminal).sau = s.closedSau (reconcile s.sau.counters terminal) := by
  have odu : (convertAll (s.reconciled terminal)).odu = s.odu := (convertAll_base (s.reconciled terminal)).1
  have sau := convertAll_accounts (s.reconciled terminal)
  show (convertAll (s.reconciled terminal)).sau.freeze (convertAll (s.reconciled terminal)).odu.clock = _
  rw [odu, sau]
  rfl

theorem accountsClosed_reported (terminal : Option (Nat × Nat)) {s : State} (hd : s.cbi.dormant = false)
    (hl : s.cbi.boxes.length = 8) : ConversionReported s (s.accountsClosed terminal) := by
  have moved := reconciled_moved terminal s
  exact (convertAll_reported (moved.awake hd) (moved.moves.length.trans hl)).congr rfl rfl (fun _ h => h) rfl

/-- The accounts moved, written as one state. -/
theorem State.AccountsMoved.whole {topics : List Nat} {s t : State} (h : AccountsMoved topics s t) :
    t = { s with trc := t.trc, stu := t.stu, sau := t.sau, cbi := t.cbi } := by
  obtain ⟨⟨odu, fen, pld, rtm, supply, pending⟩, rsd, cau, alm, -⟩ := h
  cases t
  cases odu; cases fen; cases pld; cases rtm; cases supply; cases pending; cases rsd; cases cau; cases alm
  rfl

theorem finishClosing_spec (terminal : Option (Nat × Nat)) {s : State} (hd : s.cbi.dormant = false) :
    ∃ u, u = finishClosing terminal s
      ∧ u.sau = { s.closedSau (reconcile s.sau.counters terminal) with owed := u.sau.owed }
      ∧ u.stu = { s.stu with unsettled := [] }
      ∧ u.trc = { s.trc with restricted := false, owed := u.trc.owed }
      ∧ (s.cbi.boxes.length = 8 →
          u.cbi.carriesOrOwes u.trc.owed 113 (meterBytes s.meter.code s.trc.lastTrip false .closed)
          ∧ u.cbi.enqueued (!u.sau.owed) 115 ([0, 0] ++ be 2 s.sau.number ++ be 4 s.sau.openTime.toNat
            ++ [codeByte (recCode (some (reconcile s.sau.counters terminal).result)), yesByte s.sau.retainedLost])
          ∧ ConversionReported s u)
      ∧ s.cbi.onlyMailboxes u.cbi
      ∧ u = { s with sau := u.sau, stu := u.stu, trc := u.trc, cbi := u.cbi } := by
  have closed := accountsClosed_moved terminal hd
  have moved := finishClosing_moved hd terminal
  have reported := accountsClosed_reported terminal hd
  have trc := accountsClosed_trc terminal s
  have stu := accountsClosed_stu terminal s
  have sau := accountsClosed_whole terminal s
  rw [finishClosing_eq] at moved ⊢
  generalize s.accountsClosed terminal = v at *
  have meter := enqueueMeterState_carriesOrOwes v
  have metered := enqueueMeterState_moved (closed.awake hd)
  have dropped := enqueueMeterState_droppedAnswers v
  obtain ⟨c, b, shape, -⟩ := enqueueMeterState_awake (closed.awake hd)
  have bytes : v.meterFrame.payload = meterBytes s.meter.code s.trc.lastTrip false .closed := by
    simp only [State.meterFrame_payload, State.meter, Trc.meter, trc, sau]
    rfl
  generalize enqueueMeterState v = w at *
  have shift := enqueueShiftState_enqueued w
  have shifted := enqueueShiftState_moved (metered.awake (closed.awake hd))
  have took := enqueueShiftState_took w
  have dropped' := enqueueShiftState_droppedAnswers w
  have blocks := enqueueShiftState_frame w
  have wsau : w.sau = v.sau := by rw [shape]; rfl
  have wtrc : w.trc = { v.trc with owed := w.trc.owed } := by rw [shape]; rfl
  have usau : (enqueueShiftState w).sau = { w.sau with owed := (enqueueShiftState w).sau.owed } := by
    rw [enqueueShiftState_sau]
  obtain ⟨utrc, ustu⟩ := blocks
  refine ⟨_, rfl, ?_, ?_, ?_, fun hl => ?_, moved.moves.only, moved.whole⟩
  · rw [usau, wsau, sau]
  · rw [ustu, shape]
    exact stu
  · rw [utrc, wtrc, trc]
  · have length : v.cbi.boxes.length = 8 := closed.moves.length.trans hl
    have wlength : w.cbi.boxes.length = 8 := metered.moves.length.trans length
    refine ⟨?_, ?_, (reported hl).congr rfl rfl (fun payload h => ?_) (dropped'.trans dropped)⟩
    · rw [utrc, ← bytes]
      exact took.carriesOrOwes (by decide) (meter length)
    · have told := shift wlength
      simp only [State.shiftFrame, wsau, sau] at told
      exact told
    · exact shifted.moves.carries (by decide) (metered.moves.carries (by decide) h)

end Sys2Proof.Machine

/-! 05: the statements of the closing (R87, R96, R107 to R111, R113, R114). -/

namespace Sys2Proof.Machine

/-! ### The end of stage 2 -/

theorem exec_terminalTotals {s : State} {f : RxFrame} (hd : s.delivers 68 f = true) :
    exec (.terminalTotals f) s = .next (terminalTotals f (received s)) :=
  congrArg Host.Outcome.next (frameComplete_delivers (terminalTotals f) hd)

@[simp] theorem received_stage2Lasts (s : State) : (received s).stage2Lasts = s.stage2Lasts := by
  simp [State.stage2Lasts]

/-- A TERMINAL_TOTALS while stage 2 lasts. -/
theorem exec_terminalTotals_ends {s : State} {f : RxFrame} {n m : Nat} (hd : s.delivers 68 f = true)
    (hp : f.payload = be 3 n ++ be 6 m) (hn : n < 16777216) (hm : m < 281474976710656) (h2 : s.stage2Lasts = true) :
    exec (.terminalTotals f) s = .next (finishClosing (some (n, m)) (received s)) := by
  obtain ⟨count, sum⟩ := field_totals hp hn hm
  rw [exec_terminalTotals hd]
  simp [terminalTotals, h2, count, sum]

/-- The totals timer's expiry while stage 2 lasts. -/
theorem exec_totalsTimerExpiry_ends {s : State} (hr : s.running = true) (h2 : s.stage2Lasts = true)
    (ht : s.sau.totalsTimer = some 0) : exec .totalsTimerExpiry s = .next (finishClosing none s) := by
  show Host.Outcome.next (totalsExpiry s) = _
  simp [totalsExpiry, hr, h2, ht]

/-- The byte of a reconciliation result (Table 11-3). -/
theorem recCode_byte (x : RecResult) :
    codeByte (recCode (some x)) = if x = .matched then 1 else if x = .mismatch then 2 else 3 := by
  cases x <;> rfl

/-- Two states agree but for the interface, and there in the mailboxes and the count of dropped answers. -/
def State.SameButLine (s v : State) : Prop :=
  ∃ c, v = s.setCbi c ∧ c.boxes = s.cbi.boxes ∧ c.droppedAnswers = s.cbi.droppedAnswers ∧ c.dormant = s.cbi.dormant

theorem State.SameButLine.refl (s : State) : s.SameButLine s := ⟨s.cbi, rfl, rfl, rfl, rfl⟩

theorem State.SameButLine.received (s : State) : s.SameButLine (received s) := by
  obtain ⟨boxes, -, -, dormant, -, -, -, -, -, dropped⟩ := received_cbi s
  obtain ⟨c, shape, -⟩ := received_eq s
  rw [shape] at boxes dormant dropped ⊢
  exact ⟨c, rfl, boxes, dropped, dormant⟩

/-- The end of the closing as the statements give it: the accounts, the TRC and what their frames tell. -/
theorem finishClosing_ends (terminal : Option (Nat × Nat)) {s v : State} {rec : Reconciliation} (hv : s.SameButLine v)
    (hd : s.cbi.dormant = false) (hrec : rec = reconcile s.sau.counters terminal) :
    ∃ u, u = finishClosing terminal v
      ∧ u.sau = { s.closedSau rec with owed := u.sau.owed }
      ∧ u.stu = { s.stu with unsettled := [] }
      ∧ u.trc = { s.trc with restricted := false, owed := u.trc.owed }
      ∧ (s.cbi.boxes.length = 8 →
          u.cbi.carriesOrOwes u.trc.owed 113 (meterBytes s.meter.code s.trc.lastTrip false .closed)
          ∧ u.cbi.enqueued (!u.sau.owed) 115 ([0, 0] ++ be 2 s.sau.number ++ be 4 s.sau.openTime.toNat
            ++ [codeByte (recCode (some rec.result)), yesByte s.sau.retainedLost])
          ∧ ConversionReported s u)
      ∧ v.cbi.onlyMailboxes u.cbi
      ∧ u = { s with sau := u.sau, stu := u.stu, trc := u.trc, cbi := u.cbi } := by
  obtain ⟨c, rfl, boxes, dropped, dormant⟩ := hv
  obtain ⟨u, hu, sau, stu, trc, told, only, whole⟩ := finishClosing_spec terminal (s := s.setCbi c) (dormant.trans hd)
  refine ⟨u, hu, hrec ▸ sau, stu, trc, fun hl => ?_, only, whole⟩
  obtain ⟨meter, shift, reported⟩ := told ((congrArg List.length boxes).trans hl)
  exact ⟨meter, hrec ▸ shift, reported.congr rfl dropped.symm (fun _ h => h) rfl⟩

/-- An owed state topic is owed or carried. -/
theorem Cbi.enqueued.owed_or_carries {c : Cbi} {owed : Bool} {topic : Nat} {payload : List Byte}
    (h : c.enqueued (!owed) topic payload) : owed = true ∨ c.carries topic payload := by
  cases owed with
  | true => exact .inl rfl
  | false => exact .inr (h.1 rfl)

theorem Cbi.carriesOrOwes.owed_or_carries {c : Cbi} {owed : Bool} {topic : Nat} {payload : List Byte}
    (h : c.carriesOrOwes owed topic payload) : owed = true ∨ c.carries topic payload :=
  h.symm.imp_left And.left

/-- Settles O31: both events end stage 2 by `finishClosing`; at any other time a TERMINAL_TOTALS is ignored. -/
theorem closingEndsInOneEvent : Obligations.ClosingEndsInOneEvent := by
  unfold Obligations.ClosingEndsInOneEvent
  intro s awake
  refine ⟨fun f n m hd hp hn hm h2 => ?ignored, fun c rec hc h2 => ?ends⟩
  case ignored =>
    rw [exec_terminalTotals hd]
    simp [terminalTotals, h2]
  case ends =>
    have event : ∃ terminal v, exec c s = .next (finishClosing terminal v) ∧ rec = reconcile s.sau.counters terminal
        ∧ s.SameButLine v ∧ v = if c = .totalsTimerExpiry then s else received s := by
      obtain ⟨f, n, m, rfl, hd, hp, hn, hm, hrec⟩ | ⟨rfl, hr, ht, hrec⟩ := hc
      · exact ⟨some (n, m), received s, exec_terminalTotals_ends hd hp hn hm h2, hrec, .received s, (if_neg nofun).symm⟩
      · exact ⟨none, s, exec_totalsTimerExpiry_ends hr h2 ht, hrec, .refl s, (if_pos rfl).symm⟩
    obtain ⟨terminal, v, event, hrec, same, line⟩ := event
    obtain ⟨u, hu, sau, stu, trc, told, only, whole⟩ := finishClosing_ends terminal same awake hrec
    have counters : u.sau.counters = (s.closedSau rec).counters := by rw [sau]
    refine ⟨u, hu ▸ event, ?_, stu, trc, fun hl => ?_, ⟨v, line, only⟩, whole⟩
    · rw [counters]
      exact sau
    · obtain ⟨meter, shift, reported⟩ := told hl
      rw [recCode_byte] at shift
      exact ⟨meter.owed_or_carries, shift.owed_or_carries, reported⟩

/-! ### SHIFT_CLOSE (R55, R96) -/

theorem exec_shiftClose {s : State} {f : RxFrame} (hd : s.delivers 49 f = true) :
    exec (.shiftClose f) s = .next (shiftClose f (received s)) :=
  congrArg Host.Outcome.next (frameComplete_delivers (shiftClose f) hd)

theorem shiftClose_done {s : State} (f : RxFrame) (hm : s.meter = .free) (hs : s.sau.shift = .opened) :
    shiftClose f s = answer 49 f .done (shiftClosed s) := by
  simp [shiftClose, hm, hs, Topic.shiftClose]

theorem enqueueShiftState_hasTerminal (s : State) : (enqueueShiftState s).hasTerminal = s.hasTerminal := by
  simp [State.hasTerminal, enqueueShiftState]

/-- With a TERMINAL the closing waits for its totals. -/
theorem shiftClosed_awaits {s : State} (h : s.hasTerminal = true) :
    shiftClosed s = awaitTotals (enqueueShiftState (setHeld .offDuty (enterClosing s))) := by
  have terminal : (enqueueShiftState (setHeld .offDuty (enterClosing s))).hasTerminal = true := by
    rw [← h, enqueueShiftState_hasTerminal]
    simp [State.hasTerminal, enterClosing]
  unfold shiftClosed
  rw [if_pos h]
  exact if_pos terminal

/-- The part at the change to CLOSING with no TERMINAL, before SHIFT_STATE. -/
def State.closingDark (s : State) : State :=
  updateLamp ((enterClosing s).setTrc { s.trc with held := .offDuty })

theorem State.closingDark_eq {s : State} (hr : s.trc.reason = .none) : s.closingDark = { s with
    sau := { s.sau with shift := .closing, stage := 1 }
    trc := { s.trc with held := .offDuty }
    rsd := { s.rsd with freeLamp := false } } := by
  have meter : ((enterClosing s).setTrc { s.trc with held := .offDuty }).meter = .offDuty :=
    State.setHeld_meter (s := enterClosing s) .offDuty hr
  unfold State.closingDark updateLamp State.freeLampOf
  rw [meter]
  rfl

/-- With no TERMINAL it goes straight through. -/
theorem shiftClosed_finishes {s : State} (h : s.hasTerminal = false) :
    shiftClosed s = finishClosing none (enqueueShiftState s.closingDark) := by
  have terminal : (enqueueShiftState s.closingDark).hasTerminal = false := by
    rw [← h, enqueueShiftState_hasTerminal]
    simp [State.hasTerminal, State.closingDark, enterClosing]
  have straight : runClosing (enqueueShiftState s.closingDark) = finishClosing none (enqueueShiftState s.closingDark) :=
    if_neg (by simp [terminal])
  exact (if_neg (by simp [h])).trans straight

/-! ### The queries of stage 1 (R87, R107) -/

/-- What a query of the closing leaves of an entry. -/
def UnsettledEntry.fixed (e : UnsettledEntry) : Nat × Nat × Nat × Nat × Option Nat :=
  (e.trip, e.attempt, e.requested, e.left, e.timer)

/-- An entry after its query of the closing: taken and counted (log 16), or waiting. -/
def UnsettledEntry.queried (e : UnsettledEntry) (ok : Bool) : UnsettledEntry :=
  { e with queries := if ok then min (e.queries + 1) 255 else e.queries, closingWaits := !ok }

/-- The queries of the entries of a list, in its order. -/
def closingQueries (l : List UnsettledEntry) (s : State) : State := l.foldl (fun t e => placeClosingQuery e t) s

theorem queryAllEntries_eq (s : State) : queryAllEntries s = closingQueries s.stu.unsettled s := rfl

theorem placeClosingQuery_fixed (e : UnsettledEntry) (s : State) :
    (placeClosingQuery e s).stu.unsettled.map (·.fixed) = s.stu.unsettled.map (·.fixed) := by
  simp only [placeClosingQuery, State.mapEntry, State.setStu_stu, enqueue_frame, List.map_map]
  refine List.map_congr_left fun x _ => ?_
  by_cases h : x.trip = e.trip <;> simp [h, UnsettledEntry.fixed]

theorem closingQueries_fixed (l : List UnsettledEntry) (s : State) :
    (closingQueries l s).stu.unsettled.map (·.fixed) = s.stu.unsettled.map (·.fixed) := by
  induction l generalizing s with
  | nil => rfl
  | cons e l ih => exact (ih (placeClosingQuery e s)).trans (placeClosingQuery_fixed e s)

theorem closingQueries_took (l : List UnsettledEntry) (s : State) :
    s.cbi.TookFrames [] (closingQueries l s).cbi := by
  induction l generalizing s with
  | nil => exact .refl _ _
  | cons e l ih => exact (placeClosingQuery_retried e s).1.took.trans (ih _)

/-- Where no two entries are of one trip each entry of the list is queried once, and its query stands or waits. -/
theorem closingQueries_spec {l front : List UnsettledEntry} {s : State} (hu : s.stu.unsettled = front ++ l)
    (distinct : ((front ++ l).map (·.trip)).Nodup) (hl : s.cbi.boxes.length = 8) :
    ∃ back, (closingQueries l s).stu.unsettled = front ++ back
      ∧ List.Forall₂ (fun e x => ∃ ok : Bool, x = e.queried ok
          ∧ (closingQueries l s).cbi.enqueued ok 81 (be 2 e.trip ++ be 1 e.attempt)) l back := by
  induction l generalizing front s with
  | nil => exact ⟨[], hu, .nil⟩
  | cons e l ih =>
    have others : ∀ y ∈ front ++ l, y.trip ≠ e.trip := fun y hy same => by
      rw [List.map_append, List.map_cons, List.nodup_middle, List.nodup_cons, ← List.map_append] at distinct
      exact distinct.1 (same ▸ List.mem_map_of_mem hy)
    obtain ⟨ok, first, told⟩ := placeClosingQuery_spec hu others hl
    obtain ⟨back, rest, each⟩ := ih (front := front ++ [e.queried ok]) (s := placeClosingQuery e s)
      (by rw [first]; simp [UnsettledEntry.queried]) (by simpa [UnsettledEntry.queried] using distinct)
      ((placeClosingQuery_retried e s).1.took.length.trans hl)
    refine ⟨e.queried ok :: back, rest.trans (by simp), .cons ⟨ok, rfl, ?_⟩ each⟩
    exact (closingQueries_took l (placeClosingQuery e s)).enqueued (by simp) told

theorem queryAllEntries_each {s : State} (distinct : (s.stu.unsettled.map (·.trip)).Nodup)
    (hl : s.cbi.boxes.length = 8) {k : Nat} {e : UnsettledEntry} (he : s.stu.unsettled[k]? = some e) :
    ∃ ok : Bool, (queryAllEntries s).stu.unsettled[k]? = some (e.queried ok)
      ∧ (queryAllEntries s).cbi.enqueued ok 81 (be 2 e.trip ++ be 1 e.attempt) := by
  obtain ⟨back, list, each⟩ := closingQueries_spec (front := []) rfl distinct hl
  obtain ⟨hk, rfl⟩ := List.getElem?_eq_some_iff.1 he
  have hk' : k < back.length := each.length_eq ▸ hk
  obtain ⟨ok, entry, told⟩ := each.get hk hk'
  rw [queryAllEntries_eq, list]
  exact ⟨ok, (List.getElem?_eq_getElem hk').trans (congrArg some entry), told⟩

/-! ### Stage 2 begins (R107, R108) -/

/-- The TOTALS_OFFER: it stands in a mailbox, or it waits (R108). -/
theorem placeTotals_enqueued (s : State) (hl : s.cbi.boxes.length = 8) :
    (placeTotals s).cbi.enqueued (!(placeTotals s).sau.totalsWaits) 82 s.totalsFrame.payload := by
  have told := enqueue_enqueued s (f := s.totalsFrame) (by simp [clsAlarm]) hl
  rw [← Bool.not_not (enqueue s s.totalsFrame).2.isSome, Option.not_isSome] at told
  exact told

theorem placeTotals_took (s : State) : s.cbi.TookFrames [] (placeTotals s).cbi :=
  enqueue_took s (f := s.totalsFrame) (by simp [clsAlarm]) (by simp)

/-- The state in which stage 2 places its TOTALS_OFFER. -/
def State.stage2Begun (s : State) : State := (queryAllEntries s).setSau { (queryAllEntries s).sau with stage := 2 }

theorem awaitTotals_eq (s : State) : awaitTotals s =
    (placeTotals s.stage2Begun).setSau { (placeTotals s.stage2Begun).sau with totalsTimer := some 120 } := rfl

theorem awaitTotals_took (s : State) : s.cbi.TookFrames [] (awaitTotals s).cbi :=
  (closingQueries_took s.stu.unsettled s).trans (placeTotals_took s.stage2Begun)

theorem awaitTotals_unsettled (s : State) :
    (awaitTotals s).stu.unsettled = (queryAllEntries s).stu.unsettled := by
  simp [awaitTotals_eq, placeTotals, State.stage2Begun]

theorem awaitTotals_offer (s : State) (hl : s.cbi.boxes.length = 8) :
    (awaitTotals s).cbi.enqueued (!(awaitTotals s).sau.totalsWaits) 82 s.totalsFrame.payload := by
  obtain ⟨-, -, sau, -⟩ := queryAllEntries_retried s
  have told := placeTotals_enqueued s.stage2Begun ((closingQueries_took s.stu.unsettled s).length.trans hl)
  have payload : s.stage2Begun.totalsFrame.payload = s.totalsFrame.payload := by
    simp [State.totalsFrame, State.stage2Begun, sau]
  rw [payload] at told
  exact told

/-- Each entry is queried once, and the TOTALS_OFFER leaves its query. -/
theorem awaitTotals_each {s : State} (distinct : (s.stu.unsettled.map (·.trip)).Nodup) (hl : s.cbi.boxes.length = 8)
    {k : Nat} {e : UnsettledEntry} (he : s.stu.unsettled[k]? = some e) :
    ∃ ok : Bool, (awaitTotals s).stu.unsettled[k]? = some (e.queried ok)
      ∧ (awaitTotals s).cbi.enqueued ok 81 (be 2 e.trip ++ be 1 e.attempt) := by
  obtain ⟨ok, entry, told⟩ := queryAllEntries_each distinct hl he
  rw [awaitTotals_unsettled]
  exact ⟨ok, entry, (placeTotals_took s.stage2Begun).enqueued (by simp) told⟩

/-- Settles O30: the refusals, the closing that waits for a TERMINAL, and the one that goes straight through. -/
theorem shiftCloseBeginsTheClosing : Obligations.ShiftCloseBeginsTheClosing := by
  unfold Obligations.ShiftCloseBeginsTheClosing
  intro s f hd
  rw [exec_shiftClose hd]
  refine ⟨fun hm => ?inoperative, fun hw hs => ?state, fun hm hs ht => ?awaits, fun rec hm hs ht hrec => ?finishes⟩
  case inoperative => simp [shiftClose, hm, Topic.shiftClose]
  case state =>
    obtain shut | busy := hs
    · simp [shiftClose, hw, shut, Topic.shiftClose]
    · simp [shiftClose, hw, busy, Topic.shiftClose]
  all_goals
    have reason : s.trc.reason = .none := (Trc.meter_held hm (by decide)).1
    have awake := State.delivers_awake hd
    obtain ⟨c0, shape, boxes, dropped, -⟩ := State.SameButLine.received s
    rw [shiftClose_done f (by simpa using hm) (by simpa using hs)]
    rw [shape] at awake ⊢
  case awaits =>
    have terminal : (s.setCbi c0).hasTerminal = true := ht
    obtain ⟨v, hv, sau, trc, told, rsd, only, framed, whole⟩ := shiftChanged_spec (s := enterClosing (s.setCbi c0)) .offDuty
      awake reason (by show (s.meter.inTrip && _) = false; rw [hm]; rfl)
    rw [shiftClosed_awaits terminal, ← hv]
    have stu : v.stu = s.stu := by rw [whole]; rfl
    have moved := awaitTotals_moved ((Cbi.onlyMailboxes_dormant only).trans awake)
    have took := awaitTotals_took v
    have length : s.cbi.boxes.length = 8 → v.cbi.boxes.length = 8 :=
      fun hl => framed.length.trans ((congrArg List.length boxes).trans hl)
    obtain ⟨utrc, ustu, usau⟩ := awaitTotals_blocks v
    refine ⟨awaitTotals v, rfl, ?sau, ?trc, ?stu, ?fixed, fun distinct hl k e he => ?each, fun hl => ?offer,
      fun hl => ?topics, ?rsd, Cbi.onlyMailboxes_trans only moved.moves.only, ?whole⟩
    case sau =>
      rw [usau, sau]
      rfl
    case trc => rw [utrc]; exact trc
    case stu => rw [ustu, stu]
    case fixed =>
      rw [awaitTotals_unsettled, ← stu]
      exact closingQueries_fixed v.stu.unsettled v
    case each =>
      rw [← stu] at distinct he
      exact awaitTotals_each distinct (length hl) he
    case offer =>
      have payload : v.totalsFrame.payload = be 2 s.sau.number ++ be 3 s.sau.counters.cardApprovals
          ++ be 6 (s.sau.counters.card + s.sau.counters.cardTips) := by
        rw [State.totalsFrame, sau]
        rfl
      exact payload ▸ awaitTotals_offer v (length hl)
    case topics =>
      obtain ⟨meter, shift⟩ := told ((congrArg List.length boxes).trans hl)
      have owed : (awaitTotals v).sau.owed = v.sau.owed := by rw [usau]
      rw [utrc, owed]
      exact ⟨took.carriesOrOwes (by simp) meter, took.enqueued (by simp) shift⟩
    case rsd => rw [moved.rsd]; exact rsd
    case whole =>
      refine moved.whole.trans ?_
      rw [moved.rsd]
      generalize awaitTotals v = x
      rw [whole]
      rfl
  case finishes =>
    have terminal : (s.setCbi c0).hasTerminal = false := ht
    have dark := State.closingDark_eq (s := s.setCbi c0) reason
    rw [shiftClosed_finishes terminal]
    generalize (s.setCbi c0).closingDark = v at dark ⊢
    have asleep : v.cbi.dormant = false := by rw [dark]; exact awake
    obtain ⟨c, b, shifted, only⟩ := enqueueShiftState_awake asleep
    have same := enqueueShiftState_droppedAnswers v
    have took := enqueueShiftState_took v
    have meter : v.meter = .offDuty := by
      rw [dark]
      exact State.setHeld_meter (s := s) .offDuty reason
    rw [shifted] at same took ⊢
    obtain ⟨u, hu, sau, stu, trc, told, only', whole⟩ := finishClosing_spec none
      (s := (v.setCbi c).setSau { v.sau with owed := b }) ((Cbi.onlyMailboxes_dormant only).trans asleep)
    rw [show ((v.setCbi c).setSau { v.sau with owed := b }).meter = .offDuty from meter] at told
    subst dark
    have counters : u.sau.counters = (s.closedSau rec).counters := by rw [sau]; rfl
    refine ⟨u, hu ▸ rfl, ?sau, stu, trc, fun hl => ?told, by rw [whole]; rfl, Cbi.onlyMailboxes_trans only only', ?whole⟩
    case sau =>
      rw [counters, hrec]
      exact sau
    case told =>
      obtain ⟨meter, shift, reported⟩ := told (took.length.trans ((congrArg List.length boxes).trans hl))
      exact ⟨meter.owed_or_carries, shift, reported.congr rfl (dropped.symm.trans same.symm) (fun _ h => h) rfl⟩
    case whole =>
      have rsd : u.rsd = { s.rsd with freeLamp := false } := by rw [whole]; rfl
      rw [rsd]
      exact whole

end Sys2Proof.Machine

/-! 08: entry into ACTIVE (R58, R99, R128, R140, R152, R154, R157, R161, R162). -/

namespace Sys2Proof.Machine

/-! ### The notice and the other blocks, up to the CAU -/

/-- The ALM enters ACTIVE, and a DORMANT part wakes. -/
def State.alarmWoken (s : State) : State :=
  wake (s.setAlm { s.alm with
    state := .active
    acknowledged := false
    holdCount := 0
    repeatTimer := some Config.repeatTimer })

/-- The part at entry into ACTIVE, before the CAU acts on it. -/
def State.alarmNoticed (s : State) : State :=
  endLampTest (report Counters.addAlarm (markAlarm (placeNotice s.alarmWoken)))

theorem alarmEntered_eq (s : State) : alarmEntered s = audioAlarmEntry s.alarmNoticed := rfl

/-- A wake leaves the gains of the image. -/
theorem wake_gAlarm (s : State) : (wake s).cau.gAlarm = s.cau.gAlarm := by
  unfold wake
  split <;> simp [setRouting, Cau.beginSlot]

theorem alarmWoken_noticeFrame (s : State) : s.alarmWoken.noticeFrame = s.noticeFrame := by
  simp [State.noticeFrame, State.meter, State.alarmWoken]

section Entered

variable {s : State} (h0 : (s.cbi.box 0).state = .empty)

include h0

/-- With mailbox 0 EMPTY the notice goes into it (R162). -/
theorem alarmNoticed_eq : s.alarmNoticed = endLampTest (report Counters.addAlarm (markAlarm
    (s.alarmWoken.setCbi (s.alarmWoken.cbi.write 0 s.noticeFrame)))) := by
  have empty : (s.alarmWoken.cbi.box 0).state = .empty := by simpa [State.alarmWoken, Cbi.box] using h0
  rw [State.alarmNoticed, placeNotice_taken (s := s.alarmWoken) (wake_dormant _) empty, alarmWoken_noticeFrame]

theorem alarmNoticed_blocks :
    s.alarmNoticed.alm = { s.alm with state := .active, acknowledged := false, holdCount := 0, repeatTimer := some 20 }
      ∧ s.alarmNoticed.trc = { s.trc with record := s.trc.record.map fun r => { r with alarmDuring := true } }
      ∧ s.alarmNoticed.sau = { s.sau with counters :=
          if s.sau.shift = .closed then s.sau.counters else s.sau.counters.addAlarm }
      ∧ s.alarmNoticed.stu = s.stu ∧ s.alarmNoticed.rsd.lampTest = none
      ∧ s.alarmNoticed.cau = s.alarmWoken.cau
      ∧ s.alarmNoticed.cbi = s.alarmWoken.cbi.write 0 s.noticeFrame
      ∧ s.SameBase s.alarmNoticed := by
  rw [alarmNoticed_eq h0, report_eq]
  simp [endLampTest, updateLamp, markAlarm, State.alarmWoken, State.SameBase, Config.repeatTimer]

/-- The notice stands in mailbox 0. -/
theorem alarmNoticed_box (hl : s.cbi.boxes.length = 8) :
    (s.alarmNoticed.cbi.box 0).state = .pending ∧ (s.alarmNoticed.cbi.box 0).frame = s.noticeFrame := by
  obtain ⟨-, -, -, -, -, -, cbi, -⟩ := alarmNoticed_blocks h0
  rw [cbi, Cbi.box_write, if_pos ⟨rfl, by simp [State.alarmWoken, hl]⟩]
  exact ⟨rfl, rfl⟩

theorem alarmNoticed_awake : s.alarmNoticed.cbi.dormant = false := by
  obtain ⟨-, -, -, -, -, -, cbi, -⟩ := alarmNoticed_blocks h0
  rw [cbi]
  exact wake_dormant _

/-- What TALK_STATE tells is as it was before the entry. -/
theorem alarmNoticed_talk : s.alarmNoticed.cau.floor = s.cau.floor ∧ s.alarmNoticed.cau.rearWaiting = s.cau.rearWaiting
    ∧ s.alarmNoticed.cau.owed = s.cau.owed ∧ s.alarmNoticed.cau.gAlarm = s.cau.gAlarm
    ∧ s.alarmNoticed.cbi.boxes.length = s.cbi.boxes.length := by
  obtain ⟨-, -, -, -, -, cau, cbi, -⟩ := alarmNoticed_blocks h0
  rw [cau, cbi]
  simp [State.alarmWoken, wake_gAlarm, Cbi.write]

end Entered

/-! ### The CAU at entry (R140, R152, R157) -/

/-- The floor as an alarm finds it once the chime has ended and the queue is emptied. -/
def State.chimesEnded (s : State) : State := s.setCau { s.cau with chime := none, queue := [] }

theorem audioAlarmEntry_eq (s : State) : audioAlarmEntry s = setRouting (clearFloor s.chimesEnded) := rfl

theorem audioAlarmEntry_talkReported (s : State) : TalkReported s (audioAlarmEntry s) :=
  (clearFloor_talkReported s.chimesEnded).congr rfl rfl rfl rfl rfl rfl rfl (by simp [audioAlarmEntry_eq])

/-- The CAU in the alarm scene: no floor, no chime, the microphones to the radio alone. -/
theorem audioAlarmEntry_cau {s : State} (hd : s.cbi.dormant = false) (ha : s.alm.state = .active) :
    (audioAlarmEntry s).cau.floor = .none ∧ (audioAlarmEntry s).cau.rearWaiting = false
      ∧ (audioAlarmEntry s).cau.frontHeld = false ∧ (audioAlarmEntry s).cau.rearHeld = false
      ∧ (audioAlarmEntry s).cau.queue = [] ∧ (audioAlarmEntry s).cau.chime = none
      ∧ (audioAlarmEntry s).cau.routing = ⟨⟨0, 0, 0, 0⟩, ⟨0, 0, 0, 0⟩, ⟨s.cau.gAlarm, s.cau.gAlarm, 0, 0⟩⟩ := by
  obtain ⟨c, a, cleared, only, whole⟩ := clearFloor_awake (s := s.chimesEnded) hd
  have awake : c.dormant = false := (Cbi.onlyMailboxes_dormant only).trans hd
  rw [audioAlarmEntry_eq, cleared]
  have routing : routingOf a c.dormant s.alm.state
      = ⟨⟨0, 0, 0, 0⟩, ⟨0, 0, 0, 0⟩, ⟨a.gAlarm, a.gAlarm, 0, 0⟩⟩ := by
    rw [awake, ha]
    rfl
  have fields : a.floor = .none ∧ a.rearWaiting = false ∧ a.frontHeld = false ∧ a.rearHeld = false ∧ a.queue = []
      ∧ a.chime = none ∧ a.gAlarm = s.cau.gAlarm := by
    rw [whole]
    exact ⟨rfl, rfl, rfl, rfl, rfl, rfl, rfl⟩
  obtain ⟨floor, waiting, front, rear, queue, chime, gain⟩ := fields
  refine ⟨floor, waiting, front, rear, queue, chime, ?_⟩
  rw [← gain]
  exact routing

/-- The CAU's part of the entry touches the CAU and the mailboxes of TALK_STATE. -/
theorem audioAlarmEntry_took (s : State) : s.cbi.TookFrames [114] (audioAlarmEntry s).cbi := by
  rw [audioAlarmEntry_eq, (setRouting_frame _).2.2.2.2.2.2.2.1]
  exact clearFloor_took s.chimesEnded

theorem audioAlarmEntry_moves {s : State} (hd : s.cbi.dormant = false) :
    audioAlarmEntry s = { s with cau := (audioAlarmEntry s).cau, cbi := (audioAlarmEntry s).cbi }
      ∧ (audioAlarmEntry s).cbi.dormant = false := by
  obtain ⟨c, a, cleared, only, -⟩ := clearFloor_awake (s := s.chimesEnded) hd
  rw [audioAlarmEntry_eq, cleared]
  exact ⟨rfl, (Cbi.onlyMailboxes_dormant only).trans hd⟩

/-! ### The statement -/

theorem exec_alarmEntry {s : State} (hr : s.running = true) (hs : s.alm.state = .clear) (hc : s.alm.holdCount = 8) :
    exec .alarmEntry s = .next (audioAlarmEntry s.alarmNoticed) := by
  show Host.Outcome.next (alarmEntry s) = _
  rw [alarmEntry, if_pos (s.alarmDue_iff.2 ⟨hr, hs, hc.ge⟩), alarmEntered_eq]

/-- Settles O38: the notice first, the hand-overs of the other blocks, and the CAU's last. -/
theorem alarmEntryCallsForHelp : Obligations.AlarmEntryCallsForHelp := by
  unfold Obligations.AlarmEntryCallsForHelp
  intro s hr hs hc hl h0
  have event := exec_alarmEntry hr hs hc
  obtain ⟨alm, trc, sau, stu, lampTest, -, -, odu, fen, pld, rtm, supply, pending⟩ := alarmNoticed_blocks h0
  obtain ⟨talkFloor, talkWaiting, talkOwed, gain, length⟩ := alarmNoticed_talk h0
  obtain ⟨state, frame⟩ := alarmNoticed_box h0 hl
  have awake := alarmNoticed_awake h0
  generalize s.alarmNoticed = v at *
  obtain ⟨floor, waiting, front, rear, queue, chime, routing⟩ := audioAlarmEntry_cau awake (by rw [alm])
  have talk := audioAlarmEntry_talkReported v
  have took := audioAlarmEntry_took v
  have box : (audioAlarmEntry v).cbi.box 0 = v.cbi.box 0 := by
    refine took.kept 0 state ?_
    rw [frame]
    simp [State.noticeFrame, Topic.alarmNotice]
  obtain ⟨whole, awake'⟩ := audioAlarmEntry_moves awake
  generalize audioAlarmEntry v = u at *
  refine ⟨u, event, ?alm, by rw [box, state], by rw [box, frame]; rfl, ?trc, fun closed => ?closed,
    fun opened => ?opened, ?lampTest, awake',
    talk.congr talkFloor.symm talkWaiting.symm talkOwed.symm length.symm rfl rfl rfl rfl,
    floor, waiting, front, rear, queue, chime, by rw [routing, gain], by rw [routing], by rw [routing], ?whole⟩
  case alm => rw [whole]; exact alm
  case trc => rw [whole]; exact trc
  case closed => rw [whole]; exact sau.trans (by rw [if_pos closed])
  case opened => rw [whole]; exact sau.trans (by rw [if_neg opened]; rfl)
  case lampTest => rw [whole]; exact lampTest
  case whole => rw [← odu, ← fen, ← stu, ← pld, ← rtm, ← supply, ← pending, whole]

end Sys2Proof.Machine

/-! 04: a settlement event of an AWAKE part: the records of the STU and the mailboxes change, and SETTLE_REPORT says so (R89). -/

namespace Sys2Proof.Machine

/-! ### Numbers in a payload -/

theorem field_be {bs before after : List Byte} {start n v : Nat} (hp : bs = before ++ (be n v ++ after))
    (hs : before.length = start) (hv : v < 256 ^ n) : field bs start n = v := by
  have part : slice bs start n = be n v := by
    subst hs
    simp [hp, slice]
  rw [field, part, ofBytes_be, Nat.mod_eq_of_lt hv]

/-! ### Frames of an attempt that stand in the mailboxes (R74, R81, R174) -/

/-- Between two interfaces each mailbox kept what one of them held, or took a frame of a topic named. -/
def Cbi.NewFrames (topics : List Nat) (c d : Cbi) : Prop := ∀ m ∈ d.boxes, m ∈ c.boxes ∨ m.frame.topic ∈ topics

theorem Cbi.NewFrames.of_boxes {c d : Cbi} (topics : List Nat) (h : d.boxes = c.boxes) : c.NewFrames topics d :=
  fun _ hm => .inl (h ▸ hm)

theorem Cbi.NewFrames.trans {p q : List Nat} {c d e : Cbi} (h : c.NewFrames p d) (g : d.NewFrames q e) :
    c.NewFrames (p ++ q) e := fun m hm => by
  obtain old | new := g m hm
  · exact (h m old).imp_right (List.mem_append_left _)
  · exact .inr (List.mem_append_right _ new)

theorem Cbi.NewFrames.mono {p q : List Nat} {c d : Cbi} (h : c.NewFrames p d) (hpq : p ⊆ q) : c.NewFrames q d :=
  fun m hm => (h m hm).imp_right (@hpq _)

theorem Cbi.enqueue_new (c : Cbi) {f : TxFrame} (hc : f.cls ≠ clsAlarm) : c.NewFrames [f.topic] (c.enqueue f).1 :=
  fun m hm => by
  obtain ⟨i, e, -, -, -, -, topic⟩ | ⟨i, e, -⟩ | ⟨e, -⟩ := c.enqueue_cases hc
  · rw [e] at hm
    exact (List.mem_or_eq_of_mem_set hm).imp_right fun new => by simp [new, topic]
  · rw [e] at hm
    exact (List.mem_or_eq_of_mem_set hm).imp_right fun new => by simp [new]
  · rw [e] at hm
    exact .inl hm

theorem enqueue_new (s : State) {f : TxFrame} (hc : f.cls ≠ clsAlarm) : s.cbi.NewFrames [f.topic] (enqueue s f).1.cbi :=
  fun m hm => s.cbi.enqueue_new hc m (enqueue_boxes s f ▸ hm)

/-- Frames of other topics leave an attempt without a frame to be sent. -/
theorem Cbi.NewFrames.freeOf {topics : List Nat} {c d : Cbi} (h : c.NewFrames topics d) {topic trip number : Nat}
    (ht : topic ∉ topics) (hf : c.freeOf topic trip number) : d.freeOf topic trip number := fun m hm waits => by
  obtain old | new := h m hm
  · exact hf m old waits
  · by_contra held
    exact ht (isAttemptFrame_topic (Bool.eq_true_of_not_eq_false held) ▸ new)

theorem Mailbox.abort_idle (m : Mailbox) : m.abort.state ≠ .pending ∧ m.abort.state ≠ .sending := by
  unfold Mailbox.abort
  cases h : m.state <;> simp [h, Mailbox.empty]

/-- What is aborted is no longer to be sent. -/
theorem Cbi.abortWhere_freeOf (c : Cbi) {p : TxFrame → Bool} {topic trip number : Nat}
    (hp : ∀ f, isAttemptFrame topic trip number f = true → p f = true) :
    (c.abortWhere p).freeOf topic trip number := fun m hm waits => by
  obtain ⟨x, -, rfl⟩ := List.mem_map.1 hm
  obtain ⟨pending, sending⟩ := x.abort_idle
  by_cases h : p x.frame = true
  · rw [if_pos h] at waits
    exact (waits.elim pending sending).elim
  · rw [if_neg h]
    exact Bool.eq_false_of_not_eq_true fun held => h (hp _ held)

/-! ### An event of the STU -/

/-- Between two states the STU took its records up and enqueued or aborted frames, a PENDING one aborted being of the topics
named; nothing else changed. -/
structure State.StuMoved (topics : List Nat) (s v : State) : Prop where
  whole : v = { s with stu := v.stu, cbi := v.cbi }
  moves : s.cbi.RoutineMoves topics v.cbi
  dropped : v.cbi.droppedAnswers = s.cbi.droppedAnswers

namespace State.StuMoved

theorem of_cbi {topics : List Nat} {s : State} {c : Cbi} (moves : s.cbi.RoutineMoves topics c)
    (dropped : c.droppedAnswers = s.cbi.droppedAnswers) (x : Stu) : StuMoved topics s ((s.setCbi c).setStu x) :=
  ⟨rfl, moves, dropped⟩

theorem setStu (topics : List Nat) (s : State) (x : Stu) : StuMoved topics s (s.setStu x) := of_cbi (.refl _ _) rfl x

theorem trans {topics : List Nat} {s t u : State} (h : StuMoved topics s t) (g : StuMoved topics t u) :
    StuMoved topics s u :=
  ⟨g.whole.trans (by rw [h.whole]), h.moves.trans g.moves, g.dropped.trans h.dropped⟩

theorem mono {p q : List Nat} {s t : State} (h : StuMoved p s t) (hpq : p ⊆ q) : StuMoved q s t :=
  ⟨h.whole, h.moves.mono hpq, h.dropped⟩

theorem awake {topics : List Nat} {s t : State} (h : StuMoved topics s t) (hd : s.cbi.dormant = false) :
    t.cbi.dormant = false := (Cbi.onlyMailboxes_dormant h.moves.only).trans hd

theorem abortWhere {topics : List Nat} (s : State) {p : TxFrame → Bool} (hp : ∀ f, p f = true → f.topic ∈ topics) :
    StuMoved topics s (s.abortWhere p) := of_cbi (s.cbi.abortWhere_moves hp) rfl s.stu

theorem abortAttempt (s : State) (topic trip number : Nat) :
    StuMoved [topic] s (s.abortWhere (isAttemptFrame topic trip number)) :=
  abortWhere s fun f hf => by simp [isAttemptFrame_topic hf]

end State.StuMoved

/-- A frame enqueued by the STU of an AWAKE part, with its records as they then are. -/
def State.stuEnqueued (s : State) (f : TxFrame) (x : Stu) : State := (s.setCbi (s.cbi.enqueue f).1).setStu x

/-- An event frame is taken where a mailbox is EMPTY (R173). -/
theorem Cbi.enqueue_event (c : Cbi) {f : TxFrame} (hc : f.cls ≠ clsAlarm) (hk : f.kind = .event) :
    (c.enqueue f).2 = c.firstEmpty := by
  unfold Cbi.enqueue
  rw [if_neg hc, if_neg (by simp [hk])]
  cases c.firstEmpty <;> rfl

theorem State.stuEnqueued_moved (s : State) {f : TxFrame} (hc : f.cls ≠ clsAlarm) (hk : f.kind = .event) (x : Stu) :
    s.StuMoved [] (s.stuEnqueued f x) :=
  .of_cbi (s.cbi.enqueue_moves hc (by simp [hk])) (by simp) x

theorem State.stuEnqueued_enqueued (s : State) {f : TxFrame} (hc : f.cls ≠ clsAlarm) (hk : f.kind = .event) (x : Stu)
    (hl : s.cbi.boxes.length = 8) :
    (s.stuEnqueued f x).cbi.enqueued s.cbi.firstEmpty.isSome f.topic f.payload :=
  s.cbi.enqueue_event hc hk ▸ s.cbi.enqueue_enqueued hc hl

theorem enqueue_setStu {s : State} (f : TxFrame) (x : Stu) (hd : s.cbi.dormant = false) :
    (enqueue s f).1.setStu x = s.stuEnqueued f x := by
  rw [enqueue_awake f hd]
  rfl

theorem payRequestFrame_routed (a : Attempt) : (payRequestFrame a).cls ≠ clsAlarm := by
  simp [payRequestFrame, clsSettle, clsAlarm]

theorem payCancelFrame_routed (a : Attempt) : (payCancelFrame a).cls ≠ clsAlarm := by
  simp [payCancelFrame, clsSettle, clsAlarm]

section Awake

variable {s : State} (hd : s.cbi.dormant = false)

include hd

theorem placeRequest_eq {a : Attempt} (ha : s.stu.attempt = some a) : placeRequest s = s.stuEnqueued (payRequestFrame a)
    { s.stu with attempt := some { a with placed := s.cbi.firstEmpty.isSome } } := by
  rw [placeRequest, ha, ← s.cbi.enqueue_event (payRequestFrame_routed a) rfl, ← enqueue_setStu _ _ hd]
  simp [State.setAttempt]

theorem placeCancel_eq {a : Attempt} (ha : s.stu.attempt = some a) : placeCancel s = s.stuEnqueued (payCancelFrame a)
    { s.stu with attempt := some { a with waits := s.cbi.firstEmpty.isNone } } := by
  rw [placeCancel, ha, ← s.cbi.enqueue_event (payCancelFrame_routed a) rfl, ← enqueue_setStu _ _ hd]
  simp [State.setAttempt]

/-- An attempt enters CANCELLING on an AWAKE part (R78). -/
theorem enterCancelling_eq (a : Attempt) : enterCancelling a s = s.stuEnqueued (payCancelFrame a)
    { s.stu with attempt := some { a with
        state := .cancelling
        cancelRequested := false
        timer := some 120
        waits := s.cbi.firstEmpty.isNone } } :=
  placeCancel_eq (s := s.setAttempt { a with
    state := .cancelling
    cancelRequested := false
    timer := some Config.cancelTimer
    waits := false }) hd rfl

end Awake

/-! ### SETTLE_REPORT after the event -/

theorem settleReport_new (s : State) : s.cbi.NewFrames [83] (settleReport s).cbi := by
  have new := enqueue_new s s.settleFrame_routed
  unfold settleReport enqueueCounted
  dsimp only
  split <;> exact new

theorem State.SameButLine.length {s r : State} (h : s.SameButLine r) (hl : s.cbi.boxes.length = 8) :
    r.cbi.boxes.length = 8 := by
  obtain ⟨c, rfl, boxes, -⟩ := h
  exact (congrArg List.length boxes).trans hl

/-- An event of the STU in a state that is `s` but for the line, and its SETTLE_REPORT. -/
theorem settleReport_event {topics : List Nat} {s r v : State} (line : s.SameButLine r) (hd : r.cbi.dormant = false)
    (h : r.StuMoved topics v) : ∃ u, u = settleReport v ∧ u.stu = v.stu
      ∧ (s.cbi.boxes.length = 8 → r.cbi.reported u.cbi u.stu.reportBytes)
      ∧ r.cbi.onlyMailboxes u.cbi ∧ u = { s with stu := u.stu, cbi := u.cbi } := by
  have reported := settleReport_reported v
  obtain ⟨c, report, only⟩ := settleReport_awake (h.awake hd)
  have length := fun hl => h.moves.length.trans (line.length hl)
  rw [report] at reported ⊢
  refine ⟨_, rfl, rfl, fun hl => (Cbi.reported_of_dropped h.dropped).2 (reported (length hl)),
    Cbi.onlyMailboxes_trans h.moves.only only, ?_⟩
  obtain ⟨c0, rfl, -⟩ := line
  rw [h.whole]
  rfl

/-- A SETTLE_REPORT stays reported while frames of other topics are enqueued. -/
theorem Cbi.reported.later {topics : List Nat} {c d e : Cbi} {payload : List Byte} (h : c.reported d payload)
    (took : d.TookFrames topics e) (ht : 83 ∉ topics) (dropped : e.droppedAnswers = d.droppedAnswers) :
    c.reported e payload := by
  obtain ⟨carried, same⟩ | ⟨counted, full⟩ := h
  · exact .inl ⟨(took.enqueued (taken := true) ht ⟨fun _ => carried, nofun⟩).1 rfl, dropped.trans same⟩
  · exact .inr ⟨dropped.trans counted, fun i h1 h8 => took.filled i (full i h1 h8)⟩

/-! ### The close of a trip after the report (R59, R60, R70) -/

theorem enqueueMeterState_new (s : State) : s.cbi.NewFrames [113] (enqueueMeterState s).cbi := by
  have new := enqueue_new s (f := s.meterFrame) (by simp [clsAlarm])
  unfold enqueueMeterState
  dsimp only
  split <;> exact new

theorem enqueueTalkState_new (s : State) : s.cbi.NewFrames [114] (enqueueTalkState s).cbi :=
  enqueue_new s (f := s.talkFrame) (by simp [clsAlarm])

theorem changeFloor_new (x : Floor) (w : Bool) (s : State) : s.cbi.NewFrames [114] (changeFloor x w s).cbi := by
  unfold changeFloor
  split
  · exact .of_boxes _ rfl
  · exact enqueueTalkState_new (setRouting (s.setCau { s.cau with floor := x, rearWaiting := w }))

theorem clearFloor_new (s : State) : s.cbi.NewFrames [114] (clearFloor s).cbi :=
  changeFloor_new .none false (s.setCau { s.cau with frontHeld := false, rearHeld := false })

theorem setHeld_new (x : HeldState) (s : State) : s.cbi.NewFrames [113, 114] (setHeld x s).cbi := by
  have metered := enqueueMeterState_new (s.setTrc { s.trc with held := x })
  unfold setHeld meterChanged
  dsimp only
  split
  · have cleared := metered.trans (clearFloor_new (updateLamp (enqueueMeterState (s.setTrc { s.trc with held := x }))))
    split <;> simpa using cleared
  · simpa using metered.mono (by simp)

/-- `HiredStatesLeft` leaves the chime and its queue free. -/
theorem HiredStatesLeft.of_chime {s t u : State} (h : HiredStatesLeft t u) (alm : t.alm = s.alm)
    (cau : t.cau = { s.cau with chime := t.cau.chime, queue := t.cau.queue })
    (length : t.cbi.boxes.length = s.cbi.boxes.length) : HiredStatesLeft s u := by
  obtain ⟨clear, active, whole, talk⟩ := h
  rw [alm] at clear active
  have talk' : TalkReported s u := talk.congr (by rw [cau]) (by rw [cau]) (by rw [cau]) length.symm rfl rfl rfl rfl
  rw [cau] at clear active whole
  exact ⟨clear, active, whole, talk'⟩

/-- A trip closed on an AWAKE part: what it leaves at the CAU, and what it told. -/
theorem closeTrip_leaves {t : State} {r : TripRecord} (o : TripOutcome) (waived : Nat) (hd : t.cbi.dormant = false)
    (hr : t.trc.record = some r) (hm : t.meter.inTrip = true) :
    HiredStatesLeft t (closeTrip o waived t) ∧ (closeTrip o waived t).cau.chime = t.cau.chime
      ∧ (closeTrip o waived t).cau.queue = t.cau.queue
      ∧ (t.cbi.boxes.length = 8 → (closeTrip o waived t).cbi.carriesOrOwes (closeTrip o waived t).trc.owed 113
          (meterBytes 2 t.trc.lastTrip t.trc.restricted t.sau.shift))
      ∧ t.cbi.TookFrames [113, 114] (closeTrip o waived t).cbi ∧ t.cbi.NewFrames [113, 114] (closeTrip o waived t).cbi
      ∧ (closeTrip o waived t).cbi.droppedAnswers = t.cbi.droppedAnswers := by
  have reason : (t.tripHanded o waived r).trc.reason = .none := Trc.reason_of_inTrip hm
  have leaves : (t.meter.inTrip && !((t.tripHanded o waived r).setTrc
      { (t.tripHanded o waived r).trc with held := .free }).meter.inTrip) = true := by
    rw [hm, State.setHeld_meter .free reason]
    rfl
  obtain ⟨left, chime, queue⟩ := meterChanged_left (s := (t.tripHanded o waived r).setTrc
    { (t.tripHanded o waived r).trc with held := .free }) hd leaves
  have told := setHeld_told (s := t.tripHanded o waived r) .free reason
  rw [closeTrip_eq o waived hr]
  exact ⟨left.congr rfl rfl rfl rfl rfl, chime, queue, told, setHeld_took .free (t.tripHanded o waived r),
    setHeld_new .free (t.tripHanded o waived r), setHeld_droppedAnswers .free (t.tripHanded o waived r)⟩

/-- A trip closed in an event of the STU that may have requested a chime. -/
theorem closeTrip_event {s t : State} {r : TripRecord} (o : TripOutcome) (waived : Nat)
    (whole : t = { s with
      stu := t.stu
      cau := { s.cau with chime := t.cau.chime, queue := t.cau.queue }
      cbi := t.cbi })
    (only : (received s).cbi.onlyMailboxes t.cbi) (length : t.cbi.boxes.length = s.cbi.boxes.length)
    (hd : t.cbi.dormant = false) (hr : s.trc.record = some r) (hm : s.meter.inTrip = true) :
    TripClosed s (closeTrip o waived t) r t.stu.tenders o waived
      ∧ (closeTrip o waived t).stu = { t.stu with session := none, tenders := [] } := by
  have trc : t.trc = s.trc := by rw [whole]
  have record : t.trc.record = some r := by rw [trc, hr]
  have trip : t.meter.inTrip = true := by rw [State.meter, trc]; exact hm
  obtain ⟨left, -, -, told, -⟩ := closeTrip_leaves o waived hd record trip
  obtain ⟨c, b, a, closed, only', -⟩ := closeTrip_awake o waived hd record trip
  have left' : HiredStatesLeft s (closeTrip o waived t) := left.of_chime (by rw [whole]) (by rw [whole]) length
  rw [closed] at told left' ⊢
  refine ⟨⟨?trc, rfl, ?sau, rfl, rfl, left', fun hl => ?told, Cbi.onlyMailboxes_trans only only', ?rsd, ?whole⟩, rfl⟩
  case told =>
    have metered := told (length.trans hl)
    rw [whole] at metered
    exact metered
  all_goals
    generalize hx : t.stu = x at whole ⊢
    rw [whole]

end Sys2Proof.Machine

/-! 04: cash, card tenders, cancels and deferrals (R70 to R73, R77, R78, R84). -/

namespace Sys2Proof.Machine

/-! ### What a reception leaves of what the STU reads -/

@[simp] theorem received_hasTerminal (s : State) : (received s).hasTerminal = s.hasTerminal := by simp [State.hasTerminal]

@[simp] theorem received_firstEmpty (s : State) : (received s).cbi.firstEmpty = s.cbi.firstEmpty := by
  simp [Cbi.firstEmpty, Cbi.box]

/-- An event of the STU at a request or a report, and its SETTLE_REPORT. -/
theorem settleReport_received {topics : List Nat} {s v : State} (hd : (received s).cbi.dormant = false)
    (h : (received s).StuMoved topics v) : ∃ u, u = settleReport v ∧ u.stu = v.stu
      ∧ (s.cbi.boxes.length = 8 → (received s).cbi.reported u.cbi u.stu.reportBytes)
      ∧ (received s).cbi.onlyMailboxes u.cbi ∧ u = { s with stu := u.stu, cbi := u.cbi } :=
  settleReport_event (.received s) hd h

/-! ### The due (R70) -/

theorem Stu.due_session {x : Stu} {y : Session} (h : x.session = some y) :
    x.due = y.total - (x.tenders.map (·.tender.amount)).sum := by
  simp [Stu.due, h, Stu.tendered]

/-- With a due left the trip stays open. -/
theorem closeIfPaid_open {s : State} (h : 0 < s.stu.due) : closeIfPaid s = s :=
  if_neg fun paid => h.ne' paid.2

theorem closeIfPaid_closes {s : State} (hs : s.stu.session.isSome = true) (h : s.stu.due = 0) :
    closeIfPaid s = closeTrip .paid 0 s := if_pos ⟨hs, h⟩

/-- A SETTLE_REPORT and then the close of the trip, at a request (log 9). -/
theorem settleReport_then_close {topics : List Nat} {s v : State} {r : TripRecord} (o : TripOutcome) (waived : Nat)
    (hd : (received s).cbi.dormant = false) (h : (received s).StuMoved topics v) (hr : s.trc.record = some r)
    (hm : s.meter.inTrip = true) : ∃ u, u = closeTrip o waived (settleReport v)
      ∧ TripClosed s u r v.stu.tenders o waived ∧ u.stu = { v.stu with session := none, tenders := [] }
      ∧ (s.cbi.boxes.length = 8 → (received s).cbi.reported u.cbi v.stu.reportBytes)
      ∧ u.cau.chime = s.cau.chime ∧ u.cau.queue = s.cau.queue := by
  obtain ⟨t, ht, stu, reported, only, whole⟩ := settleReport_received hd h
  have length : t.cbi.boxes.length = s.cbi.boxes.length := by
    rw [ht]
    exact (settleReport_took v).length.trans (h.moves.length.trans (by simp))
  have awake := (Cbi.onlyMailboxes_dormant only).trans hd
  have cau : t.cau = s.cau := by rw [whole]
  have trc : t.trc = s.trc := by rw [whole]
  obtain ⟨-, chime, queue, -, took, -, dropped⟩ := closeTrip_leaves (t := t) (r := r) o waived awake
    (by rw [trc, hr]) (by rw [State.meter, trc]; exact hm)
  obtain ⟨closed, ustu⟩ := closeTrip_event (t := t) o waived (by rw [cau]; exact whole) only length awake hr hm
  rw [← stu, ← ht]
  exact ⟨_, rfl, closed, ustu, fun hl => (reported hl).later took (by decide) dropped, cau ▸ chime, cau ▸ queue⟩

/-! ### Cash (R71) -/

theorem exec_tenderCash {s : State} {f : RxFrame} (hd : s.delivers 44 f = true) :
    exec (.tenderCash f) s = .next (tenderCash f (received s)) :=
  congrArg Host.Outcome.next (frameComplete_delivers (tenderCash f) hd)

/-- The records of the STU with a cash tender appended. -/
def Stu.withCash (x : Stu) (amount tip : Nat) : Stu :=
  { x with tenders := x.tenders ++ [⟨⟨.cash, amount, tip, none⟩, none⟩] }

theorem Stu.withCash_due {x : Stu} {y : Session} (h : x.session = some y) (amount tip : Nat) :
    (x.withCash amount tip).due = x.due - amount := by
  rw [Stu.due_session (x := x.withCash amount tip) h, Stu.due_session h]
  simp [Stu.withCash, Nat.sub_add_eq]

/-- A TENDER_CASH by its checks, in their order. -/
theorem tenderCash_eq {s : State} {f : RxFrame} {n tip : Nat} (hp : f.payload = be 3 n ++ be 3 tip) (hn : n < 16777216)
    (ht : tip < 16777216) : tenderCash f s =
    if s.meter = .inoperative then answer 44 f .refusedParams s
    else if s.meter ≠ .settling then answer 44 f .refusedState s
    else if s.stu.attempt.isSome = true then answer 44 f .refusedBusy s
    else if 3 ≤ s.stu.tenders.length then answer 44 f .refusedLimit s
    else if n = 0 ∨ 9999999 < n ∨ 9999999 < tip then answer 44 f .refusedAmount s
    else answer 44 f .done (closeIfPaid (settleReport (s.setStu (s.stu.withCash (min n s.stu.due) tip)))) := by
  have amount : field f.payload 0 3 = n := field_be (before := []) hp rfl hn
  have extra : field f.payload 3 3 = tip := field_be (after := []) (by simpa using hp) (be_length 3 n) ht
  simp only [tenderCash, amount, extra]
  rfl

/-- A TENDER_CASH with nothing against it. -/
theorem exec_tenderCash_done {s : State} {f : RxFrame} {n tip : Nat} (hd : s.delivers 44 f = true)
    (hp : f.payload = be 3 n ++ be 3 tip) (h1 : 1 ≤ n) (hn : n ≤ 9999999) (ht : tip ≤ 9999999)
    (hm : s.meter = .settling) (ha : s.stu.attempt = none) (hl : s.stu.tenders.length < 3) :
    exec (.tenderCash f) s = .next (answer 44 f .done
      (closeIfPaid (settleReport ((received s).setStu (s.stu.withCash (min n s.stu.due) tip))))) := by
  rw [exec_tenderCash hd, tenderCash_eq hp (by omega) (by omega)]
  simp [hm, ha, Nat.not_le.2 hl, Nat.not_lt.2 hn, Nat.not_lt.2 ht, Nat.pos_iff_ne_zero.1 h1]

/-- Settles O20: a tender below the due stays in the session; one that covers it closes the trip; and the refusals. -/
theorem cashTenderIsRecorded : Obligations.CashTenderIsRecorded := by
  unfold Obligations.CashTenderIsRecorded
  refine ⟨fun s f x n tip due hd hp h1 hn ht hm hs ha hl hdue => ⟨fun below => ?recorded, fun r ts covers hr hts => ?paid⟩,
    fun s f n tip hd hp hn ht => ?refused⟩
  all_goals have awake := State.delivers_awake hd
  case recorded =>
    have owed : s.stu.due = due := (Stu.due_session hs).trans hdue.symm
    obtain ⟨u, hu, stu, spec⟩ := settleReport_received awake (.setStu [] (received s) (s.stu.withCash n tip))
    refine ⟨u, ?_, stu, spec⟩
    have stays : 0 < u.stu.due := by
      rw [stu, State.setStu_stu, Stu.withCash_due hs, owed]
      omega
    rw [exec_tenderCash_done hd hp h1 hn ht hm ha hl, owed, Nat.min_eq_left below.le, ← hu, closeIfPaid_open stays]
  case paid =>
    have owed : s.stu.due = due := (Stu.due_session hs).trans hdue.symm
    obtain ⟨u, hu, closed, stu, spec⟩ := settleReport_then_close .paid 0 awake
      (.setStu [] (received s) (s.stu.withCash due tip)) hr (by simp [hm, MeterState.inTrip])
    subst hts
    refine ⟨u, ?_, closed, stu, spec⟩
    have session : (settleReport ((received s).setStu (s.stu.withCash due tip))).stu.session.isSome = true := by
      simp [settleReport, Stu.withCash, hs]
    have zero : (settleReport ((received s).setStu (s.stu.withCash due tip))).stu.due = 0 := by
      simp [settleReport, Stu.withCash_due hs, owed]
    rw [exec_tenderCash_done hd hp h1 hn ht hm ha hl, owed, Nat.min_eq_right covers, closeIfPaid_closes session zero, hu]
  case refused =>
    rw [exec_tenderCash hd, tenderCash_eq hp hn ht]
    simp only [received_meter, received_frame]
    refine ⟨fun hm => ?_, fun hw hm => ?_, fun hm ha => ?_, fun hm ha hl => ?_, fun hm ha hl bad => ?_⟩
    · rw [if_pos hm]
    · rw [if_neg hw, if_pos hm]
    · simp [hm, ha]
    · simp [hm, ha, hl]
    · simp [hm, ha, Nat.not_le.2 hl, bad]

/-! ### Card (R72, R73) -/

theorem exec_tenderCard {s : State} {f : RxFrame} (hd : s.delivers 45 f = true) :
    exec (.tenderCard f) s = .next (tenderCard f (received s)) :=
  congrArg Host.Outcome.next (frameComplete_delivers (tenderCard f) hd)

/-- The attempt a card tender opens in a session (R73). -/
def Session.newAttempt (x : Session) (requested : Nat) (placed : Bool) : Attempt where
  trip := x.trip
  shift := x.shift
  number := x.attempts + 1
  requested := requested
  state := .queued
  placed := placed
  cancelRequested := false
  timer := none
  queries := 0
  reference := none
  waits := false

/-- The records of the STU with that attempt open. -/
def Stu.withAttempt (u : Stu) (x : Session) (requested : Nat) (placed : Bool) : Stu :=
  { u with session := some { x with attempts := x.attempts + 1 }, attempt := some (x.newAttempt requested placed) }

theorem openAttempt_eq {s : State} (x : Session) (requested : Nat) (hd : s.cbi.dormant = false) :
    openAttempt x requested s = settleReport (s.stuEnqueued (payRequestFrame (x.newAttempt requested false))
      (s.stu.withAttempt x requested s.cbi.firstEmpty.isSome)) := by
  have placed := placeRequest_eq (s := s.setStu (s.stu.withAttempt x requested false)) hd rfl
  exact congrArg settleReport placed

/-- A TENDER_CARD by its checks, in their order. -/
theorem tenderCard_eq {s : State} {f : RxFrame} {n : Nat} (hp : f.payload = be 3 n) (hn : n < 16777216) :
    tenderCard f s =
    if s.meter = .inoperative then answer 45 f .refusedParams s
    else if s.meter ≠ .settling then answer 45 f .refusedState s
    else if (!s.hasTerminal) = true then answer 45 f .refusedState s
    else if s.stu.attempt.isSome = true then answer 45 f .refusedBusy s
    else if 3 ≤ s.stu.tenders.length then answer 45 f .refusedLimit s
    else match s.stu.session with
      | none => answer 45 f .refusedState s
      | some x =>
        if 255 ≤ x.attempts then answer 45 f .refusedLimit s
        else if s.stu.due < n then answer 45 f .refusedAmount s
        else answer 45 f .done (openAttempt x (if n = 0 then s.stu.due else n) s) := by
  have amount : field f.payload 0 3 = n := field_be (before := []) (after := []) (by simpa using hp) rfl hn
  simp only [tenderCard, amount]
  rfl

/-- The PAY_REQUEST of an attempt that opens stands in a mailbox, or has found none EMPTY, and SETTLE_REPORT leaves it. -/
theorem openAttempt_spec {s : State} (x : Session) (requested : Nat) (hd : (received s).cbi.dormant = false) :
    ∃ u, u = openAttempt x requested (received s) ∧ u.stu = s.stu.withAttempt x requested s.cbi.firstEmpty.isSome
      ∧ (s.cbi.boxes.length = 8 → u.cbi.enqueued s.cbi.firstEmpty.isSome 80
            (be 2 x.trip ++ be 1 (x.attempts + 1) ++ be 3 requested)
          ∧ (received s).cbi.reported u.cbi u.stu.reportBytes)
      ∧ (received s).cbi.onlyMailboxes u.cbi ∧ u = { s with stu := u.stu, cbi := u.cbi } := by
  have routed := payRequestFrame_routed (x.newAttempt requested false)
  obtain ⟨u, hu, stu, reported, rest⟩ := settleReport_received hd ((received s).stuEnqueued_moved routed rfl
    (s.stu.withAttempt x requested s.cbi.firstEmpty.isSome))
  refine ⟨u, ?_, stu, fun hl => ⟨?_, reported hl⟩, rest⟩
  · rw [openAttempt_eq x requested hd, hu]
    simp
  · have placed := (received s).stuEnqueued_enqueued routed rfl (s.stu.withAttempt x requested s.cbi.firstEmpty.isSome)
      (by simpa using hl)
    rw [received_firstEmpty] at placed
    rw [hu]
    exact (settleReport_took _).enqueued List.not_mem_nil placed

/-- Settles O21: the attempt opened, and the refusals. -/
theorem cardTenderOpensAnAttempt : Obligations.CardTenderOpensAnAttempt := by
  unfold Obligations.CardTenderOpensAnAttempt
  refine ⟨fun s f x n due hd hp hn hm ht ha hl hs hx hdue hle => ?opens, fun s f n hd hp hn => ?refused⟩
  case opens =>
    have owed : s.stu.due = due := (Stu.due_session hs).trans hdue.symm
    obtain ⟨u, hu, spec⟩ := openAttempt_spec x (if n = 0 then due else n) (State.delivers_awake hd)
    refine ⟨u, ?_, spec⟩
    rw [exec_tenderCard hd, tenderCard_eq hp hn, hu]
    simp [hm, ht, ha, Nat.not_le.2 hl, hs, Nat.not_le.2 hx, owed, Nat.not_lt.2 hle]
  case refused =>
    rw [exec_tenderCard hd, tenderCard_eq hp hn]
    simp only [received_meter, received_frame, received_hasTerminal]
    refine ⟨fun hm => ?_, fun hw hm => ?_, fun hm ht => ?_, fun hm ht ha => ?_, fun hm ht ha hl => ?_,
      fun x hm ht ha hl hs => ⟨fun hx => ?_, fun hx hdue => ?_⟩⟩
    · rw [if_pos hm]
    · rw [if_neg hw, if_pos hm]
    · simp [hm, ht]
    · simp [hm, ht, ha]
    · simp [hm, ht, ha, hl]
    · simp [hm, ht, ha, Nat.not_le.2 hl, hs, hx]
    · rw [← Stu.due_session hs] at hdue
      simp [hm, ht, ha, Nat.not_le.2 hl, hs, Nat.not_le.2 hx, hdue]

/-! ### PAY_CANCEL (R77, R78) -/

theorem exec_payCancel {s : State} {f : RxFrame} (hd : s.delivers 46 f = true) :
    exec (.payCancel f) s = .next (payCancel f (received s)) :=
  congrArg Host.Outcome.next (frameComplete_delivers (payCancel f) hd)

/-- A PAY_CANCEL with an attempt open, by its state. -/
theorem payCancel_eq {s : State} {a : Attempt} (f : RxFrame) (hm : s.meter = .settling) (ha : s.stu.attempt = some a) :
    payCancel f s = match a.state with
      | .queued =>
        if a.cancelRequested then answer 46 f .refusedState s else answer 46 f .done (cancelQueued a s)
      | .offered | .atTerminal => answer 46 f .done (settleReport (enterCancelling a s))
      | .cancelling | .uncertain => answer 46 f .refusedState s := by
  simp only [payCancel, hm, ha]
  rfl

theorem payCancel_queued {s : State} {a : Attempt} (f : RxFrame) (hm : s.meter = .settling) (ha : s.stu.attempt = some a)
    (hs : a.state = .queued) (hc : a.cancelRequested = false) : payCancel f s = answer 46 f .done (cancelQueued a s) := by
  rw [payCancel_eq f hm ha, hs, hc]
  rfl

/-- The attempt enters CANCELLING, and SETTLE_REPORT says so after the PAY_CANCEL (log 9). -/
theorem enterCancelling_event {s r : State} (line : s.SameButLine r) (a : Attempt) (hd : r.cbi.dormant = false) :
    ∃ u, u = settleReport (enterCancelling a r)
      ∧ u.stu = { r.stu with attempt := some { a with
          state := .cancelling
          cancelRequested := false
          timer := some 120
          waits := r.cbi.firstEmpty.isNone } }
      ∧ (s.cbi.boxes.length = 8 → u.cbi.enqueued r.cbi.firstEmpty.isSome 46 (be 2 a.trip ++ be 1 a.number)
          ∧ r.cbi.reported u.cbi u.stu.reportBytes)
      ∧ r.cbi.onlyMailboxes u.cbi ∧ u = { s with stu := u.stu, cbi := u.cbi } := by
  rw [enterCancelling_eq hd]
  generalize hx : ({ r.stu with attempt := some _ } : Stu) = x
  have routed := payCancelFrame_routed a
  obtain ⟨u, hu, stu, reported, rest⟩ := settleReport_event line hd (r.stuEnqueued_moved routed rfl x)
  refine ⟨u, hu, stu, fun hl => ⟨?_, reported hl⟩, rest⟩
  rw [hu]
  exact (settleReport_took _).enqueued List.not_mem_nil (r.stuEnqueued_enqueued routed rfl x (line.length hl))

/-! ### The ending of an attempt (R74, R81) -/

/-- An ending aborts frames of the attempt's three topics. -/
theorem dropAttempt_stuMoved (e : Ending) (a : Attempt) (s : State) : s.StuMoved [46, 80, 81] (dropAttempt e a s) :=
  ⟨rfl, (dropAttempt_moved e a s).moves, rfl⟩

/-- After an ending no frame of the attempt is to be sent. -/
theorem dropAttempt_free (e : Ending) (a : Attempt) (s : State) :
    (dropAttempt e a s).cbi.freeOf 80 a.trip a.number ∧ (dropAttempt e a s).cbi.freeOf 46 a.trip a.number
      ∧ (dropAttempt e a s).cbi.freeOf 81 a.trip a.number := by
  refine ⟨?_, ?_, ?_⟩
  all_goals exact Cbi.abortWhere_freeOf s.cbi fun f hf => by simp [Topic.payRequest, Topic.payCancel, Topic.payStatusQuery, hf]

/-- SETTLE_REPORT after an ending leaves no frame of the attempt to be sent either. -/
theorem endAttempt_free (e : Ending) (a : Attempt) (s : State) :
    (endAttempt e a s).cbi.freeOf 80 a.trip a.number ∧ (endAttempt e a s).cbi.freeOf 46 a.trip a.number
      ∧ (endAttempt e a s).cbi.freeOf 81 a.trip a.number := by
  obtain ⟨request, cancel, query⟩ := dropAttempt_free e a s
  have new := settleReport_new (dropAttempt e a s)
  exact ⟨new.freeOf (by decide) request, new.freeOf (by decide) cancel, new.freeOf (by decide) query⟩

/-- An attempt ends with no tender (R81). -/
theorem endAttempt_event {topics : List Nat} {s r v : State} (line : s.SameButLine r) (e : Ending) (a : Attempt)
    (hd : r.cbi.dormant = false) (h : r.StuMoved topics v) : ∃ u, u = endAttempt e a v
      ∧ u.stu = { v.stu with attempt := none, lastEnding := e }
      ∧ (s.cbi.boxes.length = 8 → r.cbi.reported u.cbi u.stu.reportBytes)
      ∧ r.cbi.onlyMailboxes u.cbi ∧ u = { s with stu := u.stu, cbi := u.cbi } :=
  settleReport_event (topics := topics ++ [46, 80, 81]) line hd
    ((h.mono (by simp)).trans ((dropAttempt_stuMoved e a v).mono (by simp)))

/-! ### A cancel in QUEUED (R74, R77) -/

theorem cancelQueued_unplaced {s : State} {a : Attempt} (h : a.placed = false) :
    cancelQueued a s = endAttempt .cancelled a s := by
  simp [cancelQueued, h]

/-- The attempt with a cancel requested and its PAY_REQUEST aborted. -/
def State.cancelRequested (s : State) (a : Attempt) : State :=
  (s.setStu { s.stu with attempt := some { a with cancelRequested := true } }).abortWhere
    (isAttemptFrame 80 a.trip a.number)

theorem State.cancelRequested_moved (s : State) (a : Attempt) : s.StuMoved [80] (s.cancelRequested a) :=
  (State.StuMoved.setStu [80] s { s.stu with attempt := some { a with cancelRequested := true } }).trans
    (.abortAttempt _ 80 a.trip a.number)

theorem cancelQueued_placed {s : State} {a : Attempt} (h : a.placed = true) : cancelQueued a s =
    if s.requestPending a then endAttempt .cancelled a (s.cancelRequested a) else s.cancelRequested a := by
  unfold cancelQueued
  rw [if_neg (by simp [h])]
  rfl

theorem State.requestPending_iff (s : State) (a : Attempt) : s.requestPending a = true ↔
    ∃ m ∈ s.cbi.boxes, m.state = .pending ∧ isAttemptFrame 80 a.trip a.number m.frame = true := by
  simp [State.requestPending, Topic.payRequest]

@[simp] theorem received_requestPending (s : State) (a : Attempt) : (received s).requestPending a = s.requestPending a := by
  simp [State.requestPending]

/-- Settles O22, by the state of the attempt and, in QUEUED, of its PAY_REQUEST. -/
theorem payCancelActsByState : Obligations.PayCancelActsByState := by
  unfold Obligations.PayCancelActsByState
  refine ⟨fun s f hd => ⟨fun hm => ?inoperative, fun hw hm => ?state⟩, fun s f a hd hm ha => ?attempt⟩
  case inoperative =>
    rw [exec_payCancel hd]
    simp [payCancel, hm, Topic.payCancel]
  case state =>
    rw [exec_payCancel hd]
    obtain away | absent := hm
    · simp [payCancel, hw, away, Topic.payCancel]
    · simp [payCancel, hw, absent, Topic.payCancel]
  case attempt =>
    have awake := State.delivers_awake hd
    have settling : (received s).meter = .settling := by simpa using hm
    have attempt : (received s).stu.attempt = some a := by simpa using ha
    rw [exec_payCancel hd]
    refine ⟨fun hs => ?sent, fun hs hp hc => ?unplaced, fun hs hp hc => ⟨fun pending => ?pending, fun idle => ?sending⟩,
      fun hs hc => ?requested, fun hs => ?refused⟩
    case sent =>
      obtain ⟨u, hu, stu, spec⟩ := enterCancelling_event (.received s) a awake
      rw [received_firstEmpty] at stu spec
      simp only [received_frame] at stu
      refine ⟨u, ?_, stu, spec⟩
      rw [payCancel_eq f settling attempt]
      obtain hs | hs := hs <;> rw [hs, hu]
    case unplaced =>
      obtain ⟨u, hu, stu, spec⟩ := endAttempt_event (.received s) .cancelled a awake (.setStu [] _ (received s).stu)
      refine ⟨u, ?_, by simpa using stu, spec⟩
      rw [payCancel_queued f settling attempt hs hc, cancelQueued_unplaced hp, hu]
      rfl
    case pending =>
      obtain ⟨u, hu, stu, reported, rest⟩ := endAttempt_event (.received s) .cancelled a awake
        ((received s).cancelRequested_moved a)
      have free := (endAttempt_free .cancelled a ((received s).cancelRequested a)).1
      refine ⟨u, ?_, by simpa [State.cancelRequested] using stu, reported, hu ▸ free, rest⟩
      rw [payCancel_queued f settling attempt hs hc, cancelQueued_placed hp, received_requestPending,
        if_pos ((s.requestPending_iff a).2 pending), hu]
    case sending =>
      have unpending : ¬s.requestPending a = true := by
        rw [s.requestPending_iff]
        rintro ⟨m, hm, state, frame⟩
        exact Bool.false_ne_true ((idle m hm state).symm.trans frame)
      rw [payCancel_queued f settling attempt hs hc, cancelQueued_placed hp, received_requestPending, if_neg unpending]
      simp [State.cancelRequested]
    case requested => rw [payCancel_eq f settling attempt, hs, hc]; rfl
    case refused =>
      rw [payCancel_eq f settling attempt]
      obtain hs | hs := hs <;> rw [hs]

/-! ### Deferral (R84) -/

theorem exec_settleDefer {s : State} {f : RxFrame} (hd : s.delivers 47 f = true) :
    exec (.settleDefer f) s = .next (settleDefer f (received s)) :=
  congrArg Host.Outcome.next (frameComplete_delivers (settleDefer f) hd)

theorem settleDefer_done {s : State} {a : Attempt} (f : RxFrame) (hm : s.meter = .settling)
    (ha : s.stu.attempt = some a) (hs : a.state = .uncertain) : settleDefer f s = answer 47 f .done (deferred a s) := by
  simp [settleDefer, hm, ha, hs, Topic.settleDefer]

theorem settleDefer_refused {s : State} (f : RxFrame) (hw : s.meter ≠ .inoperative)
    (h : s.meter ≠ .settling ∨ ∀ a, s.stu.attempt = some a → a.state ≠ .uncertain) :
    settleDefer f s = answer 47 f .refusedState s := by
  unfold settleDefer
  rw [if_neg hw]
  split
  · rfl
  · rename_i a ha
    exact if_neg fun deferable => h.elim (· deferable.1) (fun others => others a ha deferable.2)

/-- Settles O23: the entry joins the list and the trip closes UNSETTLED; and the refusals. -/
theorem deferralClosesUnsettled : Obligations.DeferralClosesUnsettled := by
  unfold Obligations.DeferralClosesUnsettled
  refine ⟨fun s f a x r hd hm ha hs hx hr => ?defers, fun s f hd => ⟨fun hm => ?inoperative, fun hw h => ?state⟩⟩
  case defers =>
    obtain ⟨u, hu, closed, stu, reported, chime, queue⟩ := settleReport_then_close .unsettled (s.stu.due - a.requested)
      (State.delivers_awake hd)
      (.setStu [] (received s) { s.stu with attempt := none, unsettled := s.stu.unsettled ++ [a.entry] }) hr
      (by simp [hm, MeterState.inTrip])
    rw [Stu.due_session hx] at closed
    refine ⟨u, a.entry, ?_, closed, by rw [stu]; rfl, by rw [stu]; rfl, by rw [stu]; rfl, rfl, rfl, rfl, rfl, rfl, rfl, rfl,
      rfl, rfl, rfl, reported, chime, queue⟩
    rw [exec_settleDefer hd, settleDefer_done f (by simpa using hm) (a := a) (by simpa using ha) hs, hu]
    simp [deferred]
  case inoperative =>
    rw [exec_settleDefer hd]
    simp [settleDefer, hm, Topic.settleDefer]
  case state =>
    rw [exec_settleDefer hd, settleDefer_refused f (by simpa using hw) (by simpa using h)]

end Sys2Proof.Machine

/-! 04: the terminal's PAY_ACCEPTED, PAY_RESULT and PAY_REFERENCE, and the outcome of the PAY_REQUEST (R74 to R76, R80 to R83,
R86, R90). -/

namespace Sys2Proof.Machine

/-! ### Whose numbers a frame bears (R82) -/

/-- The trip and attempt number at the head of a payload. -/
theorem field_tag {bs after : List Byte} {trip number : Nat} (hp : bs = be 2 trip ++ (be 1 number ++ after))
    (ht : trip < 65536) (hn : number < 256) : field bs 0 2 = trip ∧ field bs 2 1 = number :=
  ⟨field_be (before := []) hp rfl ht, field_be hp (be_length 2 trip) hn⟩

theorem State.openAttemptOf_some {s : State} {a : Attempt} (ha : s.stu.attempt = some a) :
    s.openAttemptOf a.trip a.number = some a := by
  simp [State.openAttemptOf, ha]

theorem State.openAttemptOf_none {s : State} {trip number : Nat}
    (h : ∀ a, s.stu.attempt = some a → a.trip ≠ trip ∨ a.number ≠ number) : s.openAttemptOf trip number = none := by
  rw [State.openAttemptOf, Option.filter_eq_none_iff]
  intro a ha named
  simp only [Bool.and_eq_true, beq_iff_eq] at named
  exact (h a ha).elim (· named.1) (· named.2)

@[simp] theorem received_openAttemptOf (s : State) (trip number : Nat) :
    (received s).openAttemptOf trip number = s.openAttemptOf trip number := by
  simp [State.openAttemptOf]

@[simp] theorem received_entryOf (s : State) (trip number : Nat) :
    (received s).entryOf trip number = s.entryOf trip number := by
  simp [State.entryOf]

theorem State.entryOf_isSome (s : State) (trip number : Nat) :
    (s.entryOf trip number).isSome = true ↔ ∃ e ∈ s.stu.unsettled, e.trip = trip ∧ e.attempt = number := by
  simp [State.entryOf, List.find?_isSome]

/-! ### Stray frames (R90, R99) -/

theorem stray_counted {s : State} (h : s.sau.shift ≠ .closed) : stray s = s.setSau { s.sau with
    counters := { s.sau.counters with strayFrames := min (s.sau.counters.strayFrames + 1) 65535 } } := if_neg h

theorem stray_closed {s : State} (h : s.sau.shift = .closed) : stray s = s := if_pos h

/-- A stray frame received. -/
theorem stray_received (s : State) :
    (s.sau.shift ≠ .closed → stray (received s) = (received s).setSau { s.sau with
        counters := { s.sau.counters with strayFrames := min (s.sau.counters.strayFrames + 1) 65535 } })
      ∧ (s.sau.shift = .closed → stray (received s) = received s) := by
  refine ⟨fun h => ?_, fun h => stray_closed (by simpa using h)⟩
  rw [stray_counted (by simpa using h)]
  simp only [received_frame]

/-! ### PAY_ACCEPTED (R74 to R76) -/

theorem exec_payAccepted {s : State} {f : RxFrame} (hd : s.delivers 64 f = true) :
    exec (.payAccepted f) s = .next (payAccepted f (received s)) :=
  congrArg Host.Outcome.next (frameComplete_delivers (payAccepted f) hd)

section Accepted

variable {s : State} {f : RxFrame} {trip number : Nat} (hp : f.payload = be 2 trip ++ be 1 number) (ht : trip < 65536)
  (hn : number < 256)

include hp ht hn

theorem payAccepted_open {a : Attempt} (ha : s.openAttemptOf trip number = some a) :
    payAccepted f s = if s.meter = .inoperative then s else accepted a s := by
  obtain ⟨trip, number⟩ := field_tag (after := []) (by simpa using hp) ht hn
  simp only [payAccepted, trip, number, ha]

theorem payAccepted_other (ha : s.openAttemptOf trip number = none) :
    payAccepted f s = if (s.entryOf trip number).isSome then s else stray s := by
  obtain ⟨trip, number⟩ := field_tag (after := []) (by simpa using hp) ht hn
  simp only [payAccepted, trip, number, ha]

end Accepted

/-- The frames of one topic of the attempt are aborted after an event of the STU, and SETTLE_REPORT follows (log 38): frames of
other topics stand. -/
theorem abortAttempt_then_report {s r v : State} (line : s.SameButLine r) (hd : r.cbi.dormant = false) (h : r.StuMoved [] v)
    {topic : Nat} (trip number : Nat) (ht : topic ≠ 83) :
    ∃ u, u = settleReport (v.abortWhere (isAttemptFrame topic trip number)) ∧ u.stu = v.stu
      ∧ (s.cbi.boxes.length = 8 → r.cbi.reported u.cbi u.stu.reportBytes)
      ∧ u.cbi.freeOf topic trip number
      ∧ r.cbi.onlyMailboxes u.cbi ∧ u = { s with stu := u.stu, cbi := u.cbi }
      ∧ ∀ other payload, other ≠ topic → v.cbi.carries other payload → u.cbi.carries other payload := by
  have aborted := State.StuMoved.abortAttempt v topic trip number
  have moved := (h.mono (by simp)).trans aborted
  obtain ⟨u, hu, stu, reported, only, whole⟩ := settleReport_event line hd moved
  have free : (v.abortWhere (isAttemptFrame topic trip number)).cbi.freeOf topic trip number :=
    Cbi.abortWhere_freeOf v.cbi fun _ h => h
  refine ⟨u, hu, stu, reported, ?_, only, whole, fun other payload ho carried => ?_⟩
  · rw [hu]
    exact (settleReport_new _).freeOf (by simpa using ht) free
  · rw [hu]
    exact (settleReport_moved (moved.awake hd)).moves.carries List.not_mem_nil (aborted.moves.carries (by simpa using ho) carried)

/-- An attempt AT_TERMINAL, its result timer begun (R76). -/
def Attempt.atTerminal (a : Attempt) : Attempt := { a with state := .atTerminal, timer := some 480 }

theorem accepted_offered {s : State} {a : Attempt} (hs : a.state = .offered) :
    accepted a s = settleReport (s.setAttempt a.atTerminal) := by
  simp only [accepted, hs]
  rfl

theorem accepted_queued {s : State} {a : Attempt} (hs : a.state = .queued) :
    accepted a s = settleReport ((if a.cancelRequested then enterCancelling a s else s.setAttempt a.atTerminal).abortWhere
      (isAttemptFrame 80 a.trip a.number)) := by
  simp only [accepted, hs]
  rfl

theorem accepted_ignored {s : State} {a : Attempt}
    (hs : a.state = .atTerminal ∨ a.state = .cancelling ∨ a.state = .uncertain) : accepted a s = s := by
  obtain hs | hs | hs := hs <;> simp only [accepted, hs]

/-- The terminal takes a QUEUED attempt, whether or not a cancel was requested. -/
theorem accepted_queued_event {s : State} {a : Attempt} (hd : (received s).cbi.dormant = false) (hs : a.state = .queued) :
    ∃ u, u = accepted a (received s)
      ∧ (a.cancelRequested = false → u.stu = { s.stu with attempt := some a.atTerminal })
      ∧ (a.cancelRequested = true → u.stu = { s.stu with attempt := some { a with
          state := .cancelling
          cancelRequested := false
          timer := some 120
          waits := s.cbi.firstEmpty.isNone } })
      ∧ (s.cbi.boxes.length = 8 →
          (a.cancelRequested = true → s.cbi.firstEmpty.isSome = true →
            u.cbi.carries 46 (be 2 a.trip ++ be 1 a.number))
          ∧ (received s).cbi.reported u.cbi u.stu.reportBytes)
      ∧ u.cbi.freeOf 80 a.trip a.number
      ∧ (received s).cbi.onlyMailboxes u.cbi ∧ u = { s with stu := u.stu, cbi := u.cbi } := by
  rw [accepted_queued hs]
  cases hc : a.cancelRequested with
  | false =>
    obtain ⟨u, hu, stu, reported, free, only, whole, -⟩ := abortAttempt_then_report (.received s) hd
      (.setStu [] (received s) { (received s).stu with attempt := some a.atTerminal }) a.trip a.number (topic := 80) (by decide)
    exact ⟨u, hu, fun _ => by simpa using stu, nofun, fun hl => ⟨nofun, reported hl⟩, free, only, whole⟩
  | true =>
    have routed := payCancelFrame_routed a
    rw [if_pos rfl, enterCancelling_eq hd, received_firstEmpty]
    simp only [received_frame]
    generalize hx : ({ s.stu with attempt := some _ } : Stu) = x
    obtain ⟨u, hu, stu, reported, free, only, whole, kept⟩ := abortAttempt_then_report (.received s) hd
      ((received s).stuEnqueued_moved routed rfl x) a.trip a.number (topic := 80) (by decide)
    refine ⟨u, hu, nofun, fun _ => stu, fun hl => ⟨fun _ empty => kept 46 _ (by decide) ?_, reported hl⟩, free, only, whole⟩
    exact ((received s).stuEnqueued_enqueued routed rfl x (by simpa using hl)).1 (by simpa using empty)

/-! ### The outcome of the PAY_REQUEST (R74, R75, R78) -/

/-- The outcome of a placed PAY_REQUEST in QUEUED, by what became of the frame. -/
theorem mailboxOutcome_request {s : State} {f : TxFrame} {a : Attempt} (i : Nat) (o : BoxOutcome)
    (ha : s.stu.attempt = some a) (hs : a.state = .queued) (hp : a.placed = true) (ho : f.owner = .stu)
    (ht : f.topic = 80) (tag : f.payload.take 3 = be 2 a.trip ++ be 1 a.number) :
    mailboxOutcome i f o s = match o with
      | .sent =>
        if a.cancelRequested then settleReport (enterCancelling a s)
        else settleReport (s.setAttempt { a with state := .offered, timer := some 20 })
      | .aborted => endAttempt .cancelled a s
      | .failed => endAttempt .notTaken a s := by
  simp only [mailboxOutcome, ho, ht, payRequestOutcome, ha]
  rw [if_pos (show 80 = Topic.payRequest from rfl), if_pos ⟨hs, hp, tag⟩]
  rfl

/-- What became of a placed PAY_REQUEST: the attempt moved or ended, and what its frames came to. -/
theorem requestOutcome_event {s : State} {f : TxFrame} {a : Attempt} (i : Nat) (o : BoxOutcome)
    (awake : s.cbi.dormant = false) (ha : s.stu.attempt = some a) (hs : a.state = .queued) (hp : a.placed = true)
    (ho : f.owner = .stu) (ht : f.topic = 80) (tag : f.payload.take 3 = be 2 a.trip ++ be 1 a.number) :
    ∃ u, u = mailboxOutcome i f o s
      ∧ u.stu = (match o with
        | .sent =>
          if a.cancelRequested then { s.stu with attempt := some { a with
            state := .cancelling
            cancelRequested := false
            timer := some 120
            waits := s.cbi.firstEmpty.isNone } }
          else { s.stu with attempt := some { a with state := .offered, timer := some 20 } }
        | .aborted => { s.stu with attempt := none, lastEnding := .cancelled }
        | .failed => { s.stu with attempt := none, lastEnding := .notTaken })
      ∧ (s.cbi.boxes.length = 8 →
          (o = .sent → a.cancelRequested = true →
            u.cbi.enqueued s.cbi.firstEmpty.isSome 46 (be 2 a.trip ++ be 1 a.number))
          ∧ s.cbi.reported u.cbi u.stu.reportBytes)
      ∧ s.cbi.onlyMailboxes u.cbi ∧ u = { s with stu := u.stu, cbi := u.cbi } := by
  rw [mailboxOutcome_request i o ha hs hp ho ht tag]
  cases o with
  | sent =>
    by_cases hc : a.cancelRequested = true
    · obtain ⟨u, hu, stu, told, rest⟩ := enterCancelling_event (.refl s) a awake
      simp only [if_pos hc]
      exact ⟨u, hu, stu, fun hl => ⟨fun _ _ => (told hl).1, (told hl).2⟩, rest⟩
    · obtain ⟨u, hu, stu, reported, rest⟩ := settleReport_event (.refl s) awake
        (.setStu [] s { s.stu with attempt := some { a with state := .offered, timer := some 20 } })
      simp only [if_neg hc]
      exact ⟨u, hu, stu, fun hl => ⟨fun _ yes => absurd yes hc, reported hl⟩, rest⟩
  | aborted =>
    obtain ⟨u, hu, stu, reported, rest⟩ := endAttempt_event (.refl s) .cancelled a awake (.setStu [] s s.stu)
    exact ⟨u, hu, stu, fun hl => ⟨nofun, reported hl⟩, rest⟩
  | failed =>
    obtain ⟨u, hu, stu, reported, rest⟩ := endAttempt_event (.refl s) .notTaken a awake (.setStu [] s s.stu)
    exact ⟨u, hu, stu, fun hl => ⟨nofun, reported hl⟩, rest⟩

/-- A PAY_ACCEPTED for no open attempt: an unsettled entry's, or stray. -/
theorem exec_payAccepted_other {s : State} {f : RxFrame} {trip number : Nat} (hd : s.delivers 64 f = true)
    (ht : trip < 65536) (hn : number < 256) (hp : f.payload = be 2 trip ++ be 1 number)
    (other : ∀ a, s.stu.attempt = some a → a.trip ≠ trip ∨ a.number ≠ number) :
    ((∃ e ∈ s.stu.unsettled, e.trip = trip ∧ e.attempt = number) → exec (.payAccepted f) s = .next (received s))
      ∧ ((∀ e ∈ s.stu.unsettled, e.trip ≠ trip ∨ e.attempt ≠ number) →
        exec (.payAccepted f) s = .next (stray (received s))) := by
  have unnamed : (received s).openAttemptOf trip number = none := by simpa using State.openAttemptOf_none other
  rw [exec_payAccepted hd, payAccepted_other hp ht hn unnamed, received_entryOf]
  refine ⟨fun listed => by rw [if_pos ((s.entryOf_isSome trip number).2 listed)], fun others => ?_⟩
  rw [if_neg]
  rw [s.entryOf_isSome]
  rintro ⟨e, he, trips, numbers⟩
  exact (others e he).elim (· trips) (· numbers)

/-- Settles O24: PAY_ACCEPTED by the state of the attempt, the outcome of the PAY_REQUEST, and PAY_ACCEPTED for no attempt. -/
theorem payAcceptedStartsTheResultTimer : Obligations.PayAcceptedStartsTheResultTimer := by
  unfold Obligations.PayAcceptedStartsTheResultTimer
  refine ⟨fun s f a hd hm ha ht hn hp => ?accepted, fun s i f a awake ha hs hp ho ht tag o u hu => ?outcome,
    fun s f trip number hd ht hn hp => ⟨fun a ha trips numbers hm => ?inoperative, fun other => ?others⟩⟩
  case accepted =>
    have awake := State.delivers_awake hd
    have named : (received s).openAttemptOf a.trip a.number = some a := by
      simpa using State.openAttemptOf_some ha
    rw [exec_payAccepted hd, payAccepted_open hp ht hn named, if_neg (by simpa using hm)]
    refine ⟨fun hs => ?_, fun hs => ?_, fun hs => by rw [accepted_ignored hs]⟩
    · obtain ⟨u, hu, stu, spec⟩ := settleReport_received awake
        (.setStu [] (received s) { (received s).stu with attempt := some a.atTerminal })
      exact ⟨u, by rw [accepted_offered hs, hu]; rfl, by simpa [Attempt.atTerminal] using stu, spec⟩
    · obtain ⟨u, hu, spec⟩ := accepted_queued_event awake hs
      exact ⟨u, by rw [hu], spec⟩
  case outcome =>
    obtain ⟨_, rfl, stu, spec⟩ := requestOutcome_event i o awake ha hs hp ho ht tag
    rw [← hu] at stu spec
    refine ⟨?_, ?_, ?_, ?_, spec⟩
    · rintro rfl hc
      exact stu.trans (if_neg (by simp [hc]))
    · rintro rfl hc
      exact stu.trans (if_pos hc)
    · rintro rfl
      exact stu
    · rintro rfl
      exact stu
  case inoperative =>
    subst trips numbers
    have named : (received s).openAttemptOf a.trip a.number = some a := by
      simpa using State.openAttemptOf_some ha
    rw [exec_payAccepted hd, payAccepted_open hp ht hn named, if_pos (by simpa using hm)]
  case others =>
    obtain ⟨listed, unlisted⟩ := exec_payAccepted_other hd ht hn hp other
    obtain ⟨counted, uncounted⟩ := stray_received s
    exact ⟨listed, fun others hs => by rw [unlisted others, counted hs],
      fun others hs => by rw [unlisted others, uncounted hs]⟩

/-! ### PAY_RESULT by its numbers (R80, R82, R86, R90) -/

theorem exec_payResult {s : State} {f : RxFrame} (hd : s.delivers 65 f = true) :
    exec (.payResult f) s = .next (payResult f (received s)) :=
  congrArg Host.Outcome.next (frameComplete_delivers (payResult f) hd)

/-- A result within its ranges. -/
def resultFormed (o approved tip : Nat) : Prop := 1 ≤ o ∧ o ≤ 3 ∧ approved ≤ 9999999 ∧ tip ≤ 9999999

section Result

variable {s : State} {f : RxFrame} {trip number o approved tip : Nat}

/-- The fields of a PAY_RESULT (Table 11-1). -/
theorem field_result (hp : f.payload = be 2 trip ++ be 1 number ++ be 1 o ++ be 3 approved ++ be 3 tip)
    (ht : trip < 65536) (hn : number < 256) (ho : o < 256) (ha : approved < 16777216) (hx : tip < 16777216) :
    field f.payload 0 2 = trip ∧ field f.payload 2 1 = number ∧ field f.payload 3 1 = o ∧ field f.payload 4 3 = approved
      ∧ field f.payload 7 3 = tip := by
  obtain ⟨first, second⟩ := field_tag (after := be 1 o ++ be 3 approved ++ be 3 tip) (by simpa using hp) ht hn
  refine ⟨first, second, ?_, ?_, ?_⟩
  · exact field_be (before := be 2 trip ++ be 1 number) (after := be 3 approved ++ be 3 tip) (by simpa using hp) (by simp) ho
  · exact field_be (before := be 2 trip ++ be 1 number ++ be 1 o) (after := be 3 tip) (by simpa using hp) (by simp) ha
  · exact field_be (before := be 2 trip ++ be 1 number ++ be 1 o ++ be 3 approved) (after := []) (by simpa using hp)
      (by simp) hx

theorem payResult_malformed (hp : f.payload = be 2 trip ++ be 1 number ++ be 1 o ++ be 3 approved ++ be 3 tip)
    (ht : trip < 65536) (hn : number < 256) (ho : o < 256) (ha : approved < 16777216) (hx : tip < 16777216)
    (bad : o = 0 ∨ 3 < o ∨ 9999999 < approved ∨ 9999999 < tip) : payResult f s = stray s := by
  obtain ⟨-, -, outcome, amount, extra⟩ := field_result hp ht hn ho ha hx
  simp only [payResult, outcome, amount, extra]
  exact if_pos bad

variable (hp : f.payload = be 2 trip ++ be 1 number ++ be 1 o ++ be 3 approved ++ be 3 tip) (ht : trip < 65536)
  (hn : number < 256) (formed : resultFormed o approved tip)

include hp ht hn formed

/-- A well-formed result, by the attempt or the entry whose numbers it bears. -/
theorem payResult_formed : payResult f s = match s.openAttemptOf trip number with
    | some a => if s.meter = .inoperative then s else attemptResult a o approved tip s
    | none => match s.entryOf trip number with
      | some e => resolveEntry e (o == 1) approved tip s
      | none => stray s := by
  obtain ⟨o1, o3, ha, hx⟩ := formed
  obtain ⟨trips, numbers, outcome, amount, extra⟩ := field_result hp ht hn (by omega) (by omega) (by omega)
  simp only [payResult, trips, numbers, outcome, amount, extra]
  refine (if_neg ?_).trans rfl
  rintro (zero | high | high | high)
  · omega
  · exact absurd o3 (Nat.not_le.2 high)
  · exact absurd ha (Nat.not_le.2 high)
  · exact absurd hx (Nat.not_le.2 high)

theorem payResult_open {a : Attempt} (ha : s.openAttemptOf trip number = some a) :
    payResult f s = if s.meter = .inoperative then s else attemptResult a o approved tip s := by
  rw [payResult_formed hp ht hn formed, ha]

theorem payResult_entry {e : UnsettledEntry} (ha : s.openAttemptOf trip number = none)
    (he : s.entryOf trip number = some e) : payResult f s = resolveEntry e (o == 1) approved tip s := by
  rw [payResult_formed hp ht hn formed, ha, he]

theorem payResult_stray (ha : s.openAttemptOf trip number = none) (he : s.entryOf trip number = none) :
    payResult f s = stray s := by
  rw [payResult_formed hp ht hn formed, ha, he]

end Result

end Sys2Proof.Machine

/-! 04: what a result makes of the open attempt or of an unsettled entry, and where a reference is placed (R80, R81, R83, R86,
R99, R102, R103). -/

namespace Sys2Proof.Machine

/-! ### The accounts and a reception -/

theorem offlineRecovery_setSau (s : State) (x : Sau) : offlineRecovery (s.setSau x) = (offlineRecovery s).setSau x := by
  unfold offlineRecovery
  rw [apply_ite (State.setSau · x)]
  rfl

theorem lineIdle_setSau (s : State) (x : Sau) : lineIdle (s.setSau x) = (lineIdle s).setSau x := by
  unfold lineIdle
  rw [apply_ite (State.setSau · x), offlineRecovery_setSau]
  rfl

/-- A reception does not read the accounts. -/
theorem received_setSau (s : State) (x : Sau) : received (s.setSau x) = (received s).setSau x := by
  have implied : impliedIdle (s.setSau x) = (impliedIdle s).setSau x := by
    unfold impliedIdle
    rw [apply_ite (State.setSau · x), lineIdle_setSau, offlineRecovery_setSau]
    rfl
  unfold received endReception
  rw [implied]
  rfl

/-! ### A chime in an event of the STU (R80, R81, R155) -/

/-- A chime request changes the chime and its queue alone. -/
theorem requestChime_chime (k : ChimeKind) (s : State) : (requestChime k s).cau =
    { s.cau with chime := (requestChime k s).cau.chime, queue := (requestChime k s).cau.queue } := by
  unfold requestChime
  split
  · rfl
  · split
    · show Cau.nextChime _ = _
      unfold Cau.nextChime
      split <;> rfl
    · rfl

theorem requestChime_whole (k : ChimeKind) (s : State) : requestChime k s = s.setCau (requestChime k s).cau := by
  unfold requestChime
  split
  · rfl
  · split <;> rfl

/-- A chime request reads the CAU, the alarm and the dormancy alone. -/
theorem requestChime_congr (k : ChimeKind) {s t : State} (cau : t.cau = s.cau) (alm : t.alm = s.alm)
    (dormant : t.cbi.dormant = s.cbi.dormant) : (requestChime k t).cau = (requestChime k s).cau := by
  unfold requestChime
  rw [alm, dormant, cau]
  split
  · exact cau
  · split
    · rfl
    · exact cau

/-! ### A result for the open attempt (R80, R81) -/

/-- SETTLE_REPORT with no attempt open (R89). -/
theorem Stu.reportBytes_ended {x : Stu} {y : Session} (hs : x.session = some y) (ha : x.attempt = none) :
    x.reportBytes = be 2 y.trip ++ be 3 (y.total - (x.tenders.map (·.tender.amount)).sum)
      ++ [codeByte x.tenders.length, 0, 0, codeByte x.lastEnding.code, codeByte x.unsettled.length] := by
  simp [Stu.reportBytes, hs, ha, codeByte]

theorem attemptResult_declined {s : State} {o approved : Nat} (a : Attempt) (tip : Nat)
    (h : o = 2 ∨ (o = 1 ∧ approved = 0)) :
    attemptResult a o approved tip s = requestChime .declined (endAttempt .declined a s) := by
  obtain rfl | ⟨rfl, rfl⟩ := h <;> rfl

theorem attemptResult_cancelled (s : State) (a : Attempt) (approved tip : Nat) :
    attemptResult a 3 approved tip s = endAttempt .cancelled a s := rfl

theorem attemptResult_approved (s : State) {approved : Nat} (a : Attempt) (tip : Nat) (h : 0 < approved) :
    attemptResult a 1 approved tip s = approveAttempt a approved tip s := if_pos ⟨rfl, h.ne'⟩

/-- A result ends the attempt with no tender, at a report. -/
theorem endAttempt_received {s : State} (e : Ending) (a : Attempt) {x : Session} (hd : (received s).cbi.dormant = false)
    (hs : s.stu.session = some x) : ∃ u, u = endAttempt e a (received s)
      ∧ u.stu = { s.stu with attempt := none, lastEnding := e }
      ∧ (s.cbi.boxes.length = 8 → (received s).cbi.reported u.cbi (be 2 x.trip
          ++ be 3 (x.total - (s.stu.tenders.map (·.tender.amount)).sum)
          ++ [codeByte s.stu.tenders.length, 0, 0, codeByte e.code, codeByte s.stu.unsettled.length]))
      ∧ u.cbi.freeOf 80 a.trip a.number ∧ u.cbi.freeOf 46 a.trip a.number ∧ u.cbi.freeOf 81 a.trip a.number
      ∧ (received s).cbi.onlyMailboxes u.cbi ∧ u = { s with stu := u.stu, cbi := u.cbi } := by
  obtain ⟨u, hu, stu, reported, rest⟩ := endAttempt_event (.received s) e a hd (.setStu [] _ (received s).stu)
  obtain ⟨request, cancel, query⟩ := endAttempt_free e a (received s)
  replace hu : u = endAttempt e a (received s) := hu
  replace stu : u.stu = { s.stu with attempt := none, lastEnding := e } := by simpa using stu
  rw [stu, Stu.reportBytes_ended (x := { s.stu with attempt := none, lastEnding := e }) hs rfl] at reported
  exact ⟨u, hu, stu, reported, hu ▸ request, hu ▸ cancel, hu ▸ query, rest⟩

/-! ### An approval (R80, R99) -/

/-- The excess of an approval reported (R99). -/
def State.excessReported (s : State) (requested approved : Nat) : State :=
  if requested < approved then report (Counters.addExcess (approved - requested)) s else s

theorem State.excessReported_eq (s : State) (requested approved : Nat) : s.excessReported requested approved =
    if requested < approved ∧ s.sau.shift ≠ .closed
    then s.setSau { s.sau with counters := { s.sau.counters with
      terminalExcess := min (s.sau.counters.terminalExcess + (approved - requested)) 281474976710655 } }
    else s := by
  unfold State.excessReported report
  by_cases more : requested < approved
  · by_cases closed : s.sau.shift = .closed
    · simp [more, closed]
    · simp only [more, closed, if_true, if_false, ne_eq, not_false_eq_true, and_self]
      rfl
  · simp [more]

/-- Only the accounts change. -/
theorem State.excessReported_sau (s : State) (requested approved : Nat) :
    s.excessReported requested approved = s.setSau (s.excessReported requested approved).sau := by
  rw [State.excessReported_eq]
  split <;> rfl

theorem State.excessReported_received (s : State) (requested approved : Nat) :
    (received s).excessReported requested approved = received (s.excessReported requested approved) := by
  simp only [State.excessReported_eq, received_frame, apply_ite received, received_setSau]

@[simp] theorem State.excessReported_frame (s : State) (requested approved : Nat) :
    (s.excessReported requested approved).stu = s.stu ∧ (s.excessReported requested approved).trc = s.trc
      ∧ (s.excessReported requested approved).cau = s.cau ∧ (s.excessReported requested approved).alm = s.alm
      ∧ (s.excessReported requested approved).cbi = s.cbi
      ∧ (s.excessReported requested approved).meter = s.meter
      ∧ (received (s.excessReported requested approved)).cbi = (received s).cbi := by
  rw [State.excessReported_sau, received_setSau]
  exact ⟨rfl, rfl, rfl, rfl, rfl, rfl, rfl⟩

/-- The records of the STU after an approval. -/
def Stu.approved (x : Stu) (a : Attempt) (amount tip : Nat) : Stu :=
  { x with
    attempt := none
    lastEnding := .approved
    tenders := x.tenders ++ [⟨⟨.card, min amount a.requested, tip, a.reference⟩, some a.number⟩] }

theorem Stu.approved_due {x : Stu} {y : Session} (h : x.session = some y) (a : Attempt) (amount tip : Nat) :
    (x.approved a amount tip).due = y.total - ((x.tenders.map (·.tender.amount)).sum + min amount a.requested) := by
  rw [Stu.due_session (x := x.approved a amount tip) h]
  simp [Stu.approved]

/-- The card tender recorded and the attempt's frames aborted. -/
def State.approved (s : State) (a : Attempt) (amount tip : Nat) : State :=
  abortAttemptFrames a (s.setStu (s.stu.approved a amount tip))

theorem State.approved_eq (s : State) (a : Attempt) (amount tip : Nat) : s.approved a amount tip =
    dropAttempt .approved a (s.setStu { s.stu with
      tenders := s.stu.tenders ++ [⟨⟨.card, min amount a.requested, tip, a.reference⟩, some a.number⟩] }) := rfl

theorem State.approved_moved (s : State) (a : Attempt) (amount tip : Nat) :
    s.StuMoved [46, 80, 81] (s.approved a amount tip) := by
  rw [s.approved_eq]
  exact (State.StuMoved.setStu _ s _).trans (dropAttempt_stuMoved _ a _)

theorem approveAttempt_eq (s : State) (a : Attempt) (amount tip : Nat) : approveAttempt a amount tip s =
    if (settleReport ((s.excessReported a.requested amount).approved a amount tip)).stu.due = 0
    then closeIfPaid (requestChime .paid (settleReport ((s.excessReported a.requested amount).approved a amount tip)))
    else settleReport ((s.excessReported a.requested amount).approved a amount tip) := rfl

/-- SETTLE_REPORT after an approval leaves no frame of the attempt to be sent. -/
theorem settleReport_approved_free (s : State) (a : Attempt) (amount tip : Nat) :
    (settleReport (s.approved a amount tip)).cbi.freeOf 80 a.trip a.number
      ∧ (settleReport (s.approved a amount tip)).cbi.freeOf 46 a.trip a.number
      ∧ (settleReport (s.approved a amount tip)).cbi.freeOf 81 a.trip a.number :=
  endAttempt_free .approved a (s.setStu { s.stu with
    tenders := s.stu.tenders ++ [⟨⟨.card, min amount a.requested, tip, a.reference⟩, some a.number⟩] })

/-- The tender and its SETTLE_REPORT, at a report. -/
theorem approved_event {v : State} (a : Attempt) (amount tip : Nat) {x : Session} (hd : (received v).cbi.dormant = false)
    (hs : v.stu.session = some x) : ∃ u, u = settleReport ((received v).approved a amount tip)
      ∧ u.stu = v.stu.approved a amount tip
      ∧ (v.cbi.boxes.length = 8 → (received v).cbi.reported u.cbi (be 2 x.trip
          ++ be 3 (x.total - ((v.stu.tenders.map (·.tender.amount)).sum + min amount a.requested))
          ++ [codeByte (v.stu.tenders.length + 1), 0, 0, 1, codeByte v.stu.unsettled.length]))
      ∧ (received v).cbi.onlyMailboxes u.cbi ∧ u = { v with stu := u.stu, cbi := u.cbi } := by
  obtain ⟨u, hu, stu, reported, rest⟩ := settleReport_received hd ((received v).approved_moved a amount tip)
  have recorded : u.stu = v.stu.approved a amount tip := by simpa [State.approved, abortAttemptFrames] using stu
  rw [recorded, Stu.reportBytes_ended (x := v.stu.approved a amount tip) hs rfl] at reported
  exact ⟨u, hu, recorded, by simpa [Stu.approved, codeByte, Ending.code] using reported, rest⟩

/-- An approval that covers the due: the chime, and the close of the trip PAID. -/
theorem approved_closes {v : State} {r : TripRecord} (a : Attempt) (amount tip : Nat) {x : Session}
    (hd : (received v).cbi.dormant = false) (hs : v.stu.session = some x) (hr : v.trc.record = some r)
    (hm : v.meter.inTrip = true) :
    ∃ u, u = closeTrip .paid 0 (requestChime .paid (settleReport ((received v).approved a amount tip)))
      ∧ TripClosed v u r (v.stu.approved a amount tip).tenders .paid 0
      ∧ u.stu = { v.stu with session := none, tenders := [], attempt := none, lastEnding := .approved }
      ∧ u.cau.chime = (requestChime .paid v).cau.chime ∧ u.cau.queue = (requestChime .paid v).cau.queue
      ∧ (v.cbi.boxes.length = 8 → (received v).cbi.reported u.cbi (be 2 x.trip
          ++ be 3 (x.total - ((v.stu.tenders.map (·.tender.amount)).sum + min amount a.requested))
          ++ [codeByte (v.stu.tenders.length + 1), 0, 0, 1, codeByte v.stu.unsettled.length]))
      ∧ u.cbi.freeOf 80 a.trip a.number ∧ u.cbi.freeOf 46 a.trip a.number ∧ u.cbi.freeOf 81 a.trip a.number := by
  obtain ⟨t, ht, stu, reported, only, whole⟩ := approved_event a amount tip hd hs
  obtain ⟨request, cancel, query⟩ := settleReport_approved_free (received v) a amount tip
  have length : t.cbi.boxes.length = v.cbi.boxes.length := by
    rw [ht]
    exact (settleReport_took _).length.trans (((received v).approved_moved a amount tip).moves.length.trans (by simp))
  rw [← ht] at request cancel query ⊢
  have awake := (Cbi.onlyMailboxes_dormant only).trans hd
  have chimed : (requestChime .paid t).cau = (requestChime .paid v).cau :=
    requestChime_congr .paid (by rw [whole]) (by rw [whole]) (awake.trans (by simpa using hd.symm))
  have paid := requestChime_whole .paid t
  rw [chimed] at paid
  have trc : t.trc = v.trc := by rw [whole]
  generalize requestChime .paid t = w at *
  subst paid
  obtain ⟨-, chime, queue, -, took, new, dropped⟩ := closeTrip_leaves (t := t.setCau (requestChime .paid v).cau) (r := r)
    .paid 0 awake (trc ▸ hr) (by simpa [State.meter, trc] using hm)
  obtain ⟨closed, ustu⟩ := closeTrip_event (s := v) (t := t.setCau (requestChime .paid v).cau) .paid 0
    (by rw [whole]; exact congrArg (fun k => State.setCau _ k) (requestChime_chime .paid v)) only length awake hr hm
  refine ⟨_, rfl, ?_, ?_, chime, queue, fun hl => (reported hl).later took (by decide) dropped,
    new.freeOf (by decide) request, new.freeOf (by decide) cancel, new.freeOf (by decide) query⟩
  · rw [← stu]
    exact closed
  · rw [ustu, State.setCau_stu, stu]
    rfl

theorem approveAttempt_received (s : State) (a : Attempt) (amount tip : Nat) {t : State}
    (ht : t = settleReport ((received (s.excessReported a.requested amount)).approved a amount tip)) :
    approveAttempt a amount tip (received s)
      = if t.stu.due = 0 then closeIfPaid (requestChime .paid t) else t := by
  rw [approveAttempt_eq, s.excessReported_received, ht]

/-- An approval that leaves a due. -/
theorem approveAttempt_open {s : State} (a : Attempt) {amount : Nat} (tip : Nat) {x : Session}
    (hd : (received s).cbi.dormant = false) (hs : s.stu.session = some x)
    (below : (s.stu.tenders.map (·.tender.amount)).sum + min amount a.requested < x.total) :
    ∃ u, u = approveAttempt a amount tip (received s) ∧ u.stu = s.stu.approved a amount tip
      ∧ u.sau = (s.excessReported a.requested amount).sau
      ∧ (s.cbi.boxes.length = 8 → (received s).cbi.reported u.cbi (be 2 x.trip
          ++ be 3 (x.total - ((s.stu.tenders.map (·.tender.amount)).sum + min amount a.requested))
          ++ [codeByte (s.stu.tenders.length + 1), 0, 0, 1, codeByte s.stu.unsettled.length]))
      ∧ u.cbi.freeOf 80 a.trip a.number ∧ u.cbi.freeOf 46 a.trip a.number ∧ u.cbi.freeOf 81 a.trip a.number
      ∧ (received s).cbi.onlyMailboxes u.cbi ∧ u = { s with stu := u.stu, sau := u.sau, cbi := u.cbi } := by
  obtain ⟨u, hu, stu, reported, only, whole⟩ := approved_event (v := s.excessReported a.requested amount) a amount tip
    (by simpa using hd) (by simpa using hs)
  have free := settleReport_approved_free (received (s.excessReported a.requested amount)) a amount tip
  rw [← hu] at free
  obtain ⟨request, cancel, query⟩ := free
  simp only [State.excessReported_frame] at stu reported only
  have due : 0 < u.stu.due := by
    rw [stu, Stu.approved_due hs]
    omega
  refine ⟨u, ?_, stu, by rw [whole], reported, request, cancel, query, only, ?_⟩
  · rw [approveAttempt_received s a amount tip hu, if_neg due.ne']
  · rw [whole, State.excessReported_sau]
    rfl

/-- An approval that covers the due. -/
theorem approveAttempt_closes {s : State} {r : TripRecord} (a : Attempt) {amount : Nat} (tip : Nat) {x : Session}
    (hd : (received s).cbi.dormant = false) (hs : s.stu.session = some x) (hr : s.trc.record = some r)
    (hm : s.meter.inTrip = true)
    (covers : x.total ≤ (s.stu.tenders.map (·.tender.amount)).sum + min amount a.requested) :
    ∃ u, u = approveAttempt a amount tip (received s)
      ∧ TripClosed (s.excessReported a.requested amount) u r (s.stu.approved a amount tip).tenders .paid 0
      ∧ u.stu = { s.stu with session := none, tenders := [], attempt := none, lastEnding := .approved }
      ∧ u.cau.chime = (requestChime .paid s).cau.chime ∧ u.cau.queue = (requestChime .paid s).cau.queue
      ∧ (s.cbi.boxes.length = 8 → (received s).cbi.reported u.cbi (be 2 x.trip ++ be 3 0
          ++ [codeByte (s.stu.tenders.length + 1), 0, 0, 1, codeByte s.stu.unsettled.length]))
      ∧ u.cbi.freeOf 80 a.trip a.number ∧ u.cbi.freeOf 46 a.trip a.number ∧ u.cbi.freeOf 81 a.trip a.number := by
  have asleep : (received (s.excessReported a.requested amount)).cbi.dormant = false := by simpa using hd
  have session : (s.excessReported a.requested amount).stu.session = some x := by simpa using hs
  obtain ⟨t, ht, stu, -⟩ := approved_event a amount tip asleep session
  obtain ⟨u, hu, closed, ustu, chime, queue, reported, free⟩ := approved_closes a amount tip asleep session
    (r := r) (by simpa using hr) (by simpa using hm)
  have chimed : (requestChime .paid (s.excessReported a.requested amount)).cau = (requestChime .paid s).cau :=
    requestChime_congr .paid (by simp) (by simp) (by simp)
  simp only [State.excessReported_frame, chimed, Nat.sub_eq_zero_of_le covers] at stu closed ustu chime queue reported
  refine ⟨u, ?_, closed, ustu, chime, queue, reported, free⟩
  have due : t.stu.due = 0 := by
    rw [stu, Stu.approved_due hs, Nat.sub_eq_zero_of_le covers]
  have paying : (requestChime .paid t).stu = t.stu := by simp
  have unended : (requestChime .paid t).stu.session.isSome = true := by
    rw [paying, stu]
    simp [Stu.approved, hs]
  rw [approveAttempt_received s a amount tip ht, if_pos due, closeIfPaid_closes unended (paying ▸ due), hu, ht]

/-- A result within its ranges for the open attempt. -/
theorem exec_payResult_open {s : State} {f : RxFrame} {a : Attempt} {o approved tip : Nat} (hd : s.delivers 65 f = true)
    (hm : s.meter = .settling) (ha : s.stu.attempt = some a) (ht : a.trip < 65536) (hn : a.number < 256)
    (hp : f.payload = be 2 a.trip ++ be 1 a.number ++ be 1 o ++ be 3 approved ++ be 3 tip)
    (formed : resultFormed o approved tip) :
    exec (.payResult f) s = .next (attemptResult a o approved tip (received s)) := by
  have named : (received s).openAttemptOf a.trip a.number = some a := by simpa using State.openAttemptOf_some ha
  rw [exec_payResult hd, payResult_open hp ht hn formed named, if_neg (by simp [hm])]

/-- Settles O25: by the outcome and, for an approval, by what it leaves due. -/
theorem payResultEndsTheAttempt : Obligations.PayResultEndsTheAttempt := by
  unfold Obligations.PayResultEndsTheAttempt
  intro s f a x o approved tip paid hd hm ha ht hn happr htip hs hp hpaid
  have awake := State.delivers_awake hd
  have result := fun formed => exec_payResult_open hd hm ha ht hn hp (o := o) formed
  subst hpaid
  refine ⟨fun ho => ?declined, fun ho => ?cancelled, fun v ho positive hv => ?approved⟩
  case declined =>
    obtain ⟨t, ht, stu, reported, request, cancel, query, only, whole⟩ := endAttempt_received .declined a awake hs
    have chimed : (requestChime .declined t).cau = (requestChime .declined s).cau :=
      requestChime_congr .declined (by rw [whole]) (by rw [whole])
        (((Cbi.onlyMailboxes_dormant only).trans awake).trans (by simpa using awake.symm))
    have event := requestChime_whole .declined t
    rw [chimed] at event
    refine ⟨t.setCau (requestChime .declined s).cau, ?_, stu, rfl, reported, request, cancel, query, only, ?_⟩
    · rw [result ⟨by omega, by omega, happr, htip⟩, attemptResult_declined a tip ho, ← ht, event]
    · rw [whole]
      rfl
  case cancelled =>
    subst ho
    obtain ⟨u, hu, spec⟩ := endAttempt_received .cancelled a awake hs
    exact ⟨u, by rw [result ⟨by omega, by omega, happr, htip⟩, attemptResult_cancelled, hu], spec⟩
  case approved =>
    subst ho
    rw [← State.excessReported_eq] at hv
    subst hv
    rw [result ⟨by omega, by omega, happr, htip⟩, attemptResult_approved _ a tip positive]
    refine ⟨fun below => ?_, fun r covers hr => ?_⟩
    · obtain ⟨u, hu, spec⟩ := approveAttempt_open a tip awake hs below
      exact ⟨u, by rw [hu], spec⟩
    · obtain ⟨u, hu, spec⟩ := approveAttempt_closes a tip awake hs hr (by simp [hm, MeterState.inTrip]) covers
      exact ⟨u, by rw [hu], spec⟩

/-! ### A result for an unsettled entry (R86, R102, R103) -/

/-- An entry resolved is taken off the list and reported to the SAU, and SETTLE_REPORT follows. -/
theorem resolveEntry_event {s : State} (e : UnsettledEntry) (x : Resolution) (hd : (received s).cbi.dormant = false) :
    ∃ u, u = settleReport (resolution x (dropEntry e (received s)))
      ∧ u.stu = { s.stu with unsettled := s.stu.unsettled.eraseP fun y => y.trip == e.trip }
      ∧ u.sau = (resolution x s).sau
      ∧ (s.cbi.boxes.length = 8 → (received s).cbi.reported u.cbi u.stu.reportBytes)
      ∧ (received s).cbi.onlyMailboxes u.cbi ∧ u = { s with stu := u.stu, sau := u.sau, cbi := u.cbi } := by
  have accounts : received (resolution x s) = resolution x (received s) := by
    simp only [resolution, received_setSau, received_frame]
  have line : (received (resolution x s)).cbi = (received s).cbi := by
    rw [accounts]
    rfl
  obtain ⟨u, hu, stu, reported, only, whole⟩ := settleReport_received (s := resolution x s) (line ▸ hd)
    (.setStu [] _ { s.stu with unsettled := s.stu.unsettled.eraseP fun y => y.trip == e.trip })
  rw [line] at reported only
  refine ⟨u, ?_, stu, by rw [whole], reported, only, ?_⟩
  · obtain ⟨c, shape, -⟩ := received_eq s
    rw [hu, accounts, shape]
    rfl
  · rw [whole]
    rfl

/-- The report of a result that brings money (R86). -/
theorem resolveEntry_paid (e : UnsettledEntry) {approved : Nat} (tip : Nat) (s : State) (h : 0 < approved) :
    resolveEntry e true approved tip s = settleReport (resolution
      ⟨e.trip, e.requested, true, min approved e.requested, tip, approved - e.requested, e.reference⟩ (dropEntry e s)) := by
  simp [resolveEntry, h.ne', recordedAmount]

/-- The report of any other result. -/
theorem resolveEntry_unpaid (e : UnsettledEntry) {ok : Bool} {approved : Nat} (tip : Nat) (s : State)
    (h : ok = false ∨ approved = 0) : resolveEntry e ok approved tip s
      = settleReport (resolution ⟨e.trip, e.requested, false, 0, 0, 0, e.reference⟩ (dropEntry e s)) := by
  obtain rfl | rfl := h <;> simp [resolveEntry]

/-- Settles O26: the two ends of an entry, and the results that are stray or ignored. -/
theorem lateResultsAreResolvedOrStray : Obligations.LateResultsAreResolvedOrStray := by
  unfold Obligations.LateResultsAreResolvedOrStray
  refine ⟨fun s f trip number o approved tip hd other ht hn happr htip hp => ?late,
    fun s f trip number o approved tip hd ht hn ho happr htip hp => ⟨fun bad => ?malformed,
      fun a ha trips numbers hm o1 o3 happr' htip' => ?inoperative⟩⟩
  case late =>
    have awake := State.delivers_awake hd
    have unnamed : (received s).openAttemptOf trip number = none := by simpa using State.openAttemptOf_none other
    have entry : ∀ e, s.entryOf trip number = some e → 1 ≤ o → o ≤ 3 →
        exec (.payResult f) s = .next (resolveEntry e (o == 1) approved tip (received s)) := fun e he o1 o3 => by
      rw [exec_payResult hd, payResult_entry hp ht hn ⟨o1, o3, happr, htip⟩ unnamed (by simpa using he)]
    have stray : s.entryOf trip number = none → 1 ≤ o → o ≤ 3 →
        exec (.payResult f) s = .next (stray (received s)) := fun he o1 o3 => by
      rw [exec_payResult hd, payResult_stray hp ht hn ⟨o1, o3, happr, htip⟩ unnamed (by simpa using he)]
    obtain ⟨counted, uncounted⟩ := stray_received s
    refine ⟨fun e he ho positive => ?_, fun e he ho => ?_, fun he o1 o3 hs => by rw [stray he o1 o3, counted hs],
      fun he o1 o3 hs => by rw [stray he o1 o3, uncounted hs]⟩
    · subst ho
      obtain ⟨u, hu, stu, sau, spec⟩ := resolveEntry_event e
        ⟨e.trip, e.requested, true, min approved e.requested, tip, approved - e.requested, e.reference⟩ awake
      refine ⟨u, _, ?_, rfl, stu, ?_, spec⟩
      · rw [entry e he (by omega) (by omega), hu, ← resolveEntry_paid e tip _ positive]
        rfl
      · rw [sau]
        rfl
    · obtain ⟨u, hu, stu, sau, spec⟩ := resolveEntry_event e ⟨e.trip, e.requested, false, 0, 0, 0, e.reference⟩ awake
      have unpaid : (o == 1) = false ∨ approved = 0 := by
        obtain rfl | rfl | ⟨-, zero⟩ := ho
        · exact .inl rfl
        · exact .inl rfl
        · exact .inr zero
      refine ⟨u, _, ?_, rfl, stu, ?_, spec⟩
      · rw [entry e he (by omega) (by omega), hu, resolveEntry_unpaid e tip _ unpaid]
      · rw [sau]
        rfl
  case malformed =>
    obtain ⟨counted, uncounted⟩ := stray_received s
    rw [exec_payResult hd, payResult_malformed hp ht hn ho happr htip bad]
    exact ⟨fun hs => by rw [counted hs], fun hs => by rw [uncounted hs]⟩
  case inoperative =>
    subst trips numbers
    have named : (received s).openAttemptOf a.trip a.number = some a := by simpa using State.openAttemptOf_some ha
    rw [exec_payResult hd, payResult_open hp ht hn ⟨o1, o3, happr', htip'⟩ named, if_pos (by simpa using hm)]

/-! ### PAY_REFERENCE (R82, R83) -/

theorem exec_payReference {s : State} {f : RxFrame} (hd : s.delivers 66 f = true) :
    exec (.payReference f) s = .next (payReference f (received s)) :=
  congrArg Host.Outcome.next (frameComplete_delivers (payReference f) hd)

/-- A card tender of the session bears the numbers. -/
def State.hasTenderOf (s : State) (trip number : Nat) : Prop :=
  s.stu.session.any (·.trip == trip) = true ∧ s.stu.tenders.any (·.attempt == some number) = true

theorem State.hasTenderOf_of {s : State} {x : Session} {number : Nat} (hs : s.stu.session = some x)
    (h : ∃ e ∈ s.stu.tenders, e.attempt = some number) : s.hasTenderOf x.trip number := by
  refine ⟨by simp [hs], ?_⟩
  simpa [List.any_eq_true] using h

theorem State.not_hasTenderOf {s : State} {trip number : Nat}
    (h : ∀ x, s.stu.session = some x → x.trip ≠ trip ∨ ∀ e ∈ s.stu.tenders, e.attempt ≠ some number) :
    ¬s.hasTenderOf trip number := by
  rintro ⟨session, tender⟩
  obtain ⟨x, hx, trips⟩ := (Option.any_eq_true _ _).1 session
  obtain ⟨e, he, numbers⟩ := List.any_eq_true.1 tender
  exact (h x hx).elim (· (by simpa using trips)) (fun others => others e he (by simpa using numbers))

section Reference

variable {s : State} {f : RxFrame} {trip number : Nat} {ref : List Byte} (ht : trip < 65536) (hn : number < 256)
  (hl : ref.length = 6) (hp : f.payload = be 2 trip ++ be 1 number ++ ref)

include ht hn hl hp

/-- The fields of a PAY_REFERENCE (Table 11-1). -/
theorem field_reference :
    field f.payload 0 2 = trip ∧ field f.payload 2 1 = number ∧ slice f.payload 3 6 = ref := by
  obtain ⟨trips, numbers⟩ := field_tag (by simpa using hp) ht hn
  refine ⟨trips, numbers, ?_⟩
  rw [hp]
  simpa using slice_append_right (a := be 2 trip ++ be 1 number) hl

theorem payReference_attempt {a : Attempt} (ha : s.openAttemptOf trip number = some a) :
    payReference f s = s.setAttempt { a with reference := some ref } := by
  obtain ⟨trips, numbers, reference⟩ := field_reference ht hn hl hp
  simp only [payReference, trips, numbers, reference, ha]

theorem payReference_tender (ha : s.openAttemptOf trip number = none) (h : s.hasTenderOf trip number) :
    payReference f s = s.setStu { s.stu with tenders := s.stu.tenders.map (·.refer number ref) } := by
  obtain ⟨trips, numbers, reference⟩ := field_reference ht hn hl hp
  simp only [payReference, trips, numbers, reference, ha]
  exact if_pos h

theorem payReference_entry (ha : s.openAttemptOf trip number = none) (h : ¬s.hasTenderOf trip number) :
    payReference f s = if (s.entryOf trip number).isSome
      then s.mapEntry trip fun e => { e with reference := some ref } else s := by
  obtain ⟨trips, numbers, reference⟩ := field_reference ht hn hl hp
  simp only [payReference, trips, numbers, reference, ha]
  exact if_neg h

end Reference

/-- Settles O27, by whose numbers the frame bears. -/
theorem payReferenceIsPlaced : Obligations.PayReferenceIsPlaced := by
  unfold Obligations.PayReferenceIsPlaced
  intro s f trip number ref hd ht hn hl hp
  obtain ⟨c, shape, -⟩ := received_eq s
  rw [exec_payReference hd]
  refine ⟨fun a ha trips numbers => ?attempt, fun other => ?others⟩
  case attempt =>
    subst trips numbers
    have named : (received s).openAttemptOf a.trip a.number = some a := by simpa using State.openAttemptOf_some ha
    rw [payReference_attempt ht hn hl hp named, shape]
    rfl
  case others =>
    have unnamed : (received s).openAttemptOf trip number = none := by simpa using State.openAttemptOf_none other
    refine ⟨fun x hx trips tender => ?_, fun unmatched => ?_⟩
    · subst trips
      have held : (received s).hasTenderOf x.trip number := State.hasTenderOf_of (by simpa using hx) (by simpa using tender)
      rw [payReference_tender ht hn hl hp unnamed held, shape]
      rfl
    · have unheld : ¬(received s).hasTenderOf trip number := State.not_hasTenderOf (by simpa using unmatched)
      rw [payReference_entry ht hn hl hp unnamed unheld, received_entryOf, shape]
      exact ⟨fun e he => by rw [he]; rfl, fun absent => by rw [absent]; rfl⟩

end Sys2Proof.Machine

/-! 04: the settlement timers (R75, R76, R78, R79, R85): an offer not taken, an entry into UNCERTAIN, the next query. -/

namespace Sys2Proof.Machine

/-! ### Queries (R79, R85) -/

/-- The attempt after a query: taken and counted (log 16), or waiting. -/
def Attempt.queried (a : Attempt) (ok : Bool) : Attempt :=
  { a with
    queries := if ok then min (a.queries + 1) 255 else a.queries
    timer := if ok then some 40 else none
    waits := !ok }

/-- An entry after a query of its own cycle. -/
def UnsettledEntry.ownQueried (e : UnsettledEntry) (ok : Bool) : UnsettledEntry :=
  { e with
    queries := if ok then min (e.queries + 1) 255 else e.queries
    left := if ok then e.left - 1 else e.left
    timer := if ok then some 40 else none
    waits := !ok }

/-- A query that was taken stands in a mailbox. -/
theorem State.stuEnqueued_query (s : State) (trip number : Nat) (x : Stu) (taken : s.cbi.firstEmpty.isSome = true)
    (hl : s.cbi.boxes.length = 8) :
    (s.stuEnqueued (queryFrame trip number) x).cbi.carries 81 (be 2 trip ++ be 1 number) :=
  (s.stuEnqueued_enqueued (queryFrame_routed trip number) rfl x hl).1 taken

theorem State.stuEnqueued_query_moved (s : State) (trip number : Nat) (x : Stu) :
    s.StuMoved [] (s.stuEnqueued (queryFrame trip number) x) :=
  s.stuEnqueued_moved (queryFrame_routed trip number) rfl x

theorem placeQuery_eq {s : State} {a : Attempt} (hd : s.cbi.dormant = false) (ha : s.stu.attempt = some a) :
    placeQuery s = s.stuEnqueued (queryFrame a.trip a.number)
      { s.stu with attempt := some (a.queried s.cbi.firstEmpty.isSome) } := by
  have taken : (enqueue s (queryFrame a.trip a.number)).2 = s.cbi.firstEmpty :=
    s.cbi.enqueue_event (queryFrame_routed a.trip a.number) rfl
  rw [placeQuery, ha, ← enqueue_setStu _ _ hd]
  dsimp only
  rw [taken]
  cases s.cbi.firstEmpty.isSome <;> simp [State.setAttempt, Attempt.queried, satAdd, Config.maxQueryCount, Config.queryTimer]

/-- An update of the one entry of a trip. -/
theorem mapEntry_eq {s : State} {front back : List UnsettledEntry} {e : UnsettledEntry} (g : UnsettledEntry → UnsettledEntry)
    (hu : s.stu.unsettled = front ++ e :: back) (h : ∀ y ∈ front ++ back, y.trip ≠ e.trip) :
    s.mapEntry e.trip g = s.setStu { s.stu with unsettled := front ++ g e :: back } := by
  rw [← mapEntry_one g hu h]
  rfl

theorem placeEntryQuery_eq {s : State} {front back : List UnsettledEntry} {e : UnsettledEntry}
    (hd : s.cbi.dormant = false) (hu : s.stu.unsettled = front ++ e :: back) (h : ∀ y ∈ front ++ back, y.trip ≠ e.trip) :
    placeEntryQuery e s = s.stuEnqueued (queryFrame e.trip e.attempt)
      { s.stu with unsettled := front ++ e.ownQueried s.cbi.firstEmpty.isSome :: back } := by
  have taken : (enqueue s (queryFrame e.trip e.attempt)).2 = s.cbi.firstEmpty :=
    s.cbi.enqueue_event (queryFrame_routed e.trip e.attempt) rfl
  have listed : (enqueue s (queryFrame e.trip e.attempt)).1.stu.unsettled = front ++ e :: back := by simpa using hu
  rw [placeEntryQuery, ← enqueue_setStu _ _ hd]
  dsimp only
  rw [taken, mapEntry_eq _ listed h, mapEntry_eq _ listed h]
  cases s.cbi.firstEmpty.isSome <;>
    simp [UnsettledEntry.ownQueried, satAdd, Config.maxQueryCount, Config.queryTimer]

/-! ### An attempt becomes UNCERTAIN (R79) -/

/-- The attempt in UNCERTAIN, before its query. -/
def Attempt.uncertain (a : Attempt) : Attempt := { a with state := .uncertain, timer := none, waits := false }

/-- The part with the attempt in UNCERTAIN and any PAY_CANCEL of it aborted. -/
def State.uncertainBegun (s : State) (a : Attempt) : State :=
  (s.setStu { s.stu with attempt := some a.uncertain }).abortWhere (isAttemptFrame 46 a.trip a.number)

theorem State.uncertainBegun_moved (s : State) (a : Attempt) : s.StuMoved [46] (s.uncertainBegun a) :=
  (State.StuMoved.setStu [46] s _).trans (.abortAttempt _ 46 a.trip a.number)

theorem enterUncertain_eq {s : State} (a : Attempt) (hd : s.cbi.dormant = false) : enterUncertain a s =
    (s.uncertainBegun a).stuEnqueued (queryFrame a.trip a.number) { s.stu with
      attempt := some (a.uncertain.queried (s.cbi.abortWhere (isAttemptFrame 46 a.trip a.number)).firstEmpty.isSome) } :=
  placeQuery_eq (s := s.uncertainBegun a) (a := a.uncertain) hd rfl

/-- An entry into UNCERTAIN and its SETTLE_REPORT. -/
theorem enterUncertain_event {s : State} (a : Attempt) {taken : Bool} (hd : s.cbi.dormant = false)
    (ht : taken = (s.cbi.abortWhere (isAttemptFrame 46 a.trip a.number)).firstEmpty.isSome) :
    ∃ u, u = settleReport (enterUncertain a s)
      ∧ u.stu = { s.stu with attempt := some (a.uncertain.queried taken) }
      ∧ (taken = true → s.cbi.boxes.length = 8 → u.cbi.carries 81 (be 2 a.trip ++ be 1 a.number))
      ∧ (s.cbi.boxes.length = 8 → s.cbi.reported u.cbi u.stu.reportBytes)
      ∧ u.cbi.freeOf 46 a.trip a.number
      ∧ s.cbi.onlyMailboxes u.cbi ∧ u = { s with stu := u.stu, cbi := u.cbi } := by
  have begun := s.uncertainBegun_moved a
  have free : (s.uncertainBegun a).cbi.freeOf 46 a.trip a.number := Cbi.abortWhere_freeOf s.cbi fun _ h => h
  have new : (s.uncertainBegun a).cbi.NewFrames [81] ((s.uncertainBegun a).cbi.enqueue (queryFrame a.trip a.number)).1 :=
    (s.uncertainBegun a).cbi.enqueue_new (queryFrame_routed a.trip a.number)
  rw [enterUncertain_eq a hd, ← ht]
  generalize ({ s.stu with attempt := some (a.uncertain.queried taken) } : Stu) = x
  have queried := (s.uncertainBegun a).stuEnqueued_query_moved a.trip a.number x
  obtain ⟨u, hu, stu, reported, rest⟩ := settleReport_event (.refl s) hd (begun.trans (queried.mono (by simp)))
  refine ⟨u, hu, stu, fun ok hl => ?_, reported, ?_, rest⟩
  · have carried := (s.uncertainBegun a).stuEnqueued_query a.trip a.number x (ht ▸ ok) (begun.moves.length.trans hl)
    rw [hu]
    exact (settleReport_moved (queried.awake (begun.awake hd))).moves.carries List.not_mem_nil carried
  · rw [hu]
    exact (settleReport_new _).freeOf (by decide) (new.freeOf (by decide) free)

/-! ### The expiries -/

/-- A timer of the attempt that is due (R90, log 5). -/
theorem State.expired_due {s : State} {a : Attempt} {st : AttemptState} (hr : s.running = true)
    (hm : s.meter ≠ .inoperative) (ha : s.stu.attempt = some a) (ht : a.timer = some 0) (hs : a.state = st) :
    s.expired st = some a := by
  simp [State.expired, hr, hm, ha, ht, hs]

section Due

variable {s : State} (hr : s.running = true) (hm : s.meter ≠ .inoperative) (hd : s.cbi.dormant = false)

include hr hm

theorem exec_offerTimerExpiry {a : Attempt} (ha : s.stu.attempt = some a) (ht : a.timer = some 0)
    (hs : a.state = .offered) : exec .offerTimerExpiry s = .next (endAttempt .notTaken a s) := by
  show Host.Outcome.next (offerExpiry s) = _
  rw [offerExpiry, State.expired_due hr hm ha ht hs]

/-- The result timer and the cancel timer both make the attempt UNCERTAIN. -/
theorem exec_uncertainExpiry {a : Attempt} {c : Instr} (ha : s.stu.attempt = some a) (ht : a.timer = some 0)
    (h : (a.state = .atTerminal ∧ c = .resultTimerExpiry) ∨ (a.state = .cancelling ∧ c = .cancelTimerExpiry)) :
    exec c s = .next (settleReport (enterUncertain a s)) := by
  obtain ⟨hs, rfl⟩ | ⟨hs, rfl⟩ := h
  · show Host.Outcome.next (resultExpiry s) = _
    rw [resultExpiry, State.expired_due hr hm ha ht hs]
  · show Host.Outcome.next (cancelExpiry s) = _
    rw [cancelExpiry, State.expired_due hr hm ha ht hs]

theorem exec_queryTimerExpiry {a : Attempt} (ha : s.stu.attempt = some a) (ht : a.timer = some 0)
    (hs : a.state = .uncertain) : exec .queryTimerExpiry s = .next
      (if a.queries < 6 then placeQuery (s.setStu { s.stu with attempt := some { a with timer := none } })
        else s.setStu { s.stu with attempt := some { a with timer := none } }) := by
  show Host.Outcome.next (queryExpiry s) = _
  rw [queryExpiry, State.expired_due hr hm ha ht hs]
  rfl

/-- The query timer of the one entry of a trip. -/
theorem exec_entryQueryTimerExpiry {front back : List UnsettledEntry} {e : UnsettledEntry} {trip : BitVec 16}
    (hu : s.stu.unsettled = front ++ e :: back) (he : e.trip = trip.toNat)
    (others : ∀ y ∈ front ++ back, y.trip ≠ trip.toNat) (ht : e.timer = some 0) :
    exec (.entryQueryTimerExpiry trip) s = .next
      (if e.left = 0 then s.setStu { s.stu with unsettled := front ++ { e with timer := none } :: back }
        else placeEntryQuery { e with timer := none }
          (s.setStu { s.stu with unsettled := front ++ { e with timer := none } :: back })) := by
  have found : (s.stu.unsettled.find? fun y => y.trip == trip.toNat && y.timer == some 0) = some e := by
    have skipped : ∀ y ∈ front, ¬(y.trip == trip.toNat && y.timer == some 0) = true := fun y hy => by
      simp [others y (List.mem_append_left _ hy)]
    rw [hu, List.find?_append, List.find?_eq_none.2 skipped]
    simp [he, ht]
  show Host.Outcome.next (entryExpiry trip.toNat s) = _
  rw [entryExpiry, if_pos ⟨hr, hm⟩, found, ← he]
  rw [← he] at others
  dsimp only
  rw [mapEntry_eq _ hu others]
  rfl

include hd

theorem queryTimer_queries {a : Attempt} (ha : s.stu.attempt = some a) (ht : a.timer = some 0)
    (hs : a.state = .uncertain) (hq : a.queries < 6) : ∃ u, exec .queryTimerExpiry s = .next u
      ∧ u.stu = { s.stu with attempt := some (a.queried s.cbi.firstEmpty.isSome) }
      ∧ (s.cbi.firstEmpty.isSome = true → s.cbi.boxes.length = 8 → u.cbi.carries 81 (be 2 a.trip ++ be 1 a.number))
      ∧ s.cbi.onlyMailboxes u.cbi ∧ u = { s with stu := u.stu, cbi := u.cbi } := by
  have placed := placeQuery_eq (s := s.setStu { s.stu with attempt := some { a with timer := none } }) hd rfl
  rw [exec_queryTimerExpiry hr hm ha ht hs, if_pos hq, placed]
  exact ⟨_, rfl, rfl, fun taken hl => State.stuEnqueued_query _ _ _ _ taken hl,
    (State.stuEnqueued_query_moved _ _ _ _).moves.only, rfl⟩

theorem entryTimer_queries {front back : List UnsettledEntry} {e : UnsettledEntry} {trip : BitVec 16}
    (hu : s.stu.unsettled = front ++ e :: back) (he : e.trip = trip.toNat)
    (others : ∀ y ∈ front ++ back, y.trip ≠ trip.toNat) (ht : e.timer = some 0) (left : 0 < e.left) :
    ∃ u, exec (.entryQueryTimerExpiry trip) s = .next u
      ∧ u.stu = { s.stu with unsettled := front ++ e.ownQueried s.cbi.firstEmpty.isSome :: back }
      ∧ (s.cbi.firstEmpty.isSome = true → s.cbi.boxes.length = 8 → u.cbi.carries 81 (be 2 e.trip ++ be 1 e.attempt))
      ∧ s.cbi.onlyMailboxes u.cbi ∧ u = { s with stu := u.stu, cbi := u.cbi } := by
  have placed := placeEntryQuery_eq (e := { e with timer := none })
    (s := s.setStu { s.stu with unsettled := front ++ { e with timer := none } :: back }) hd rfl (he ▸ others)
  rw [exec_entryQueryTimerExpiry hr hm hu he others ht, if_neg left.ne', placed]
  exact ⟨_, rfl, rfl, fun taken hl => State.stuEnqueued_query _ _ _ _ taken hl,
    (State.stuEnqueued_query_moved _ _ _ _).moves.only, rfl⟩

end Due

/-- Settles O28, timer by timer. -/
theorem settlementTimersExpire : Obligations.SettlementTimersExpire := by
  unfold Obligations.SettlementTimersExpire
  intro s hr hm hd
  refine ⟨fun a ha ht => ⟨fun hs => ?offer, fun c taken h htaken => ?uncertain, fun hs hq => ?query, fun hs hq => ?stops⟩,
    fun e front back trip hu he others ht => ⟨fun spent => ?entryStops, fun left => ?entryQuery⟩⟩
  case offer =>
    obtain ⟨u, hu, stu, reported, rest⟩ := endAttempt_event (.refl s) .notTaken a hd (.setStu [] s s.stu)
    refine ⟨u, (exec_offerTimerExpiry hr hm ha ht hs).trans (congrArg _ hu.symm), stu, reported, ?_, rest⟩
    rw [hu]
    exact (endAttempt_free .notTaken a _).1
  case uncertain =>
    obtain ⟨u, hu, spec⟩ := enterUncertain_event a hd htaken
    exact ⟨u, (exec_uncertainExpiry hr hm ha ht h).trans (congrArg _ hu.symm), spec⟩
  case query =>
    obtain ⟨u, event, stu, spec⟩ := queryTimer_queries hr hm hd ha ht hs hq
    refine ⟨u, event, ?_, spec⟩
    rw [stu, Attempt.queried, Nat.min_eq_left (by omega), Option.not_isSome]
  case stops => rw [exec_queryTimerExpiry hr hm ha ht hs, if_neg (Nat.not_lt.2 hq)]
  case entryStops => rw [exec_entryQueryTimerExpiry hr hm hu he others ht, if_pos spent]
  case entryQuery =>
    obtain ⟨u, event, stu, spec⟩ := entryTimer_queries hr hm hd hu he others ht left
    refine ⟨u, event, ?_, spec⟩
    rw [stu, UnsettledEntry.ownQueried, Option.not_isSome]

end Sys2Proof.Machine

/-! 05: the books of a state, which are what R97, R101 and R113 read of it, and the moves that change them. -/

namespace Sys2Proof.Machine

/-! ### The figures -/

/-- The counters of R97's balance, the other counters set aside. -/
def Counters.money (c : Counters) : Counters :=
  { Counters.zero with
    fareTotals := c.fareTotals
    cash := c.cash
    card := c.card
    waived := c.waived
    unpaid := c.unpaid
    outstanding := c.outstanding }

/-- The numbers of a session, an attempt and an unsettled entry that the accounts read. -/
def Session.figures (x : Session) : Nat × Nat := (x.trip, x.total)
def Attempt.figures (a : Attempt) : Nat × Nat := (a.trip, a.requested)
def UnsettledEntry.figures (e : UnsettledEntry) : Nat × Nat := (e.trip, e.requested)

/-- What R97, R101 and R113 read of a state. A pair is a trip number with an amount: a session's total, or what an attempt or an
unsettled entry requests. -/
structure Books where
  fare : Fen
  held : HeldState
  lastTrip : Nat
  record : Option Nat
  session : Option (Nat × Nat)
  tenders : List Nat
  attempt : Option (Nat × Nat)
  unsettled : List (Nat × Nat)
  shift : ShiftState
  money : Counters
  journal : List TripRecord
  lifetime : Lifetime

/-- The books of a state; the owed flag of FARE_STATUS is no part of them. -/
def State.books (s : State) : Books where
  fare := { s.fen with owed := false }
  held := s.trc.held
  lastTrip := s.trc.lastTrip
  record := s.trc.record.map (·.trip)
  session := s.stu.session.map Session.figures
  tenders := s.stu.tenders.map (·.tender.amount)
  attempt := s.stu.attempt.map Attempt.figures
  unsettled := s.stu.unsettled.map UnsettledEntry.figures
  shift := s.sau.shift
  money := s.sau.counters.money
  journal := s.sau.journal
  lifetime := s.sau.lifetime

/-- The due remaining by the books (R70). -/
def Books.due (b : Books) : Nat := (b.session.map fun x => x.2 - b.tenders.sum).getD 0

@[simp] theorem State.books_due (s : State) : s.books.due = s.stu.due := by
  cases h : s.stu.session <;> simp [Books.due, State.books, Stu.due, Stu.tendered, Session.figures, h]

/-! ### What moves the books -/

/-- A trip closes with its record and the amount waived (R59, R60, R100, R101). -/
def Books.close (b : Books) (r : TripRecord) (waived : Nat) : Books :=
  { b with
    held := .free
    record := none
    session := none
    tenders := []
    money := (b.money.addTrip r waived).money
    journal := journalAppend b.journal r }

/-- An unsettled entry of a trip is resolved (R86, R87, R102, R103). -/
def Books.resolve (b : Books) (x : Resolution) : Books :=
  { b with
    unsettled := b.unsettled.eraseP fun e => e.1 == x.trip
    money := (b.money.resolve x).money
    journal := b.journal.map fun r => if r.trip = x.trip then r.resolve x else r }

/-- The record a close files is the one in progress, with the fare and the tenders as they stand (R59). -/
structure Books.Files (b : Books) (r : TripRecord) : Prop where
  named : b.record = some r.trip
  total : r.total = b.fare.record.total
  tenders : r.tenders.map (·.amount) = b.tenders

/-- The amount waived when no attempt is left open: what the tenders do not cover (R52), or nothing, where nothing is due (R51,
R70). -/
def Books.Covers (b : Books) (waived : Nat) : Prop :=
  waived = b.fare.record.total - b.tenders.sum
    ∨ (waived = 0 ∧ (b.fare.record.total = 0 ∨ (b.session.isSome = true ∧ b.due = 0)))

/-- One move of the books. -/
inductive Books.Move : Books → Books → Prop
  /-- The FEN takes new values; in SETTLING the fare total stays. -/
  | fare {b : Books} (f : Fen) (sound : FareSound b.fare → FareSound f)
      (kept : b.held = .settling → f.record.total = b.fare.record.total) : Move b { b with fare := f }
  /-- STOP and RESUME. -/
  | halt {b : Books} (h : HeldState) (was : b.held = .hired ∨ b.held = .stopped) (is : h = .hired ∨ h = .stopped) :
      Move b { b with held := h }
  /-- BOOKING_ASSIGN and BOOKING_CANCEL. -/
  | book {b : Books} (h : HeldState) (was : b.held = .free ∨ b.held = .booked) (is : h = .free ∨ h = .booked) :
      Move b { b with held := h }
  | hire {b : Books} (was : b.held = .free ∨ b.held = .booked) (room : b.unsettled.length < 4)
      (last : b.lastTrip < 65535) :
      Move b { b with held := .hired, lastTrip := b.lastTrip + 1, record := some (b.lastTrip + 1) }
  | settle {b : Books} (n : Nat) (was : b.held = .stopped) (record : b.record = some n) :
      Move b { b with held := .settling, session := some (n, b.fare.record.total), tenders := [] }
  | cash {b : Books} (n : Nat) (was : b.held = .settling) (none : b.attempt = none) (within : n ≤ b.due) :
      Move b { b with tenders := b.tenders ++ [n] }
  | approve {b : Books} (a : Nat × Nat) (n : Nat) (is : b.attempt = some a) (within : n ≤ a.2) :
      Move b { b with attempt := none, tenders := b.tenders ++ [n] }
  | present {b : Books} (x : Nat × Nat) (n : Nat) (was : b.held = .settling) (none : b.attempt = none)
      (is : b.session = some x) (within : n ≤ b.due) : Move b { b with attempt := some (x.1, n) }
  | drop {b : Books} : Move b { b with attempt := none }
  | close {b : Books} (r : TripRecord) (waived : Nat) (files : b.Files r)
      (none : b.attempt = none ∨ b.held = .stopped) (outcome : r.outcome ≠ some .unsettled)
      (covers : b.Covers waived) : Move b (b.close r waived)
  | defer {b : Books} (r : TripRecord) (a : Nat × Nat) (files : b.Files r) (is : b.attempt = some a)
      (outcome : r.outcome = some .unsettled) :
      Move b (({ b with attempt := none, unsettled := b.unsettled ++ [a] } : Books).close r (b.due - a.2))
  /-- A deferral with no trip in progress files no record; no sound ledger shows the attempt it starts from. -/
  | adrift {b : Books} (a : Nat × Nat) (record : b.record = none) (is : b.attempt = some a) :
      Move b { b with attempt := none, unsettled := b.unsettled ++ [a] }
  | resolve {b : Books} (x : Resolution) (listed : (x.trip, x.requested) ∈ b.unsettled)
      (within : x.recorded ≤ x.requested) : Move b (b.resolve x)
  | openShift {b : Books} (was : b.shift = .closed) :
      Move b { b with shift := .opened, held := .free, lastTrip := 0, money := Counters.zero, journal := [] }
  | beginClosing {b : Books} (was : b.shift = .opened) (free : b.held = .free) :
      Move b { b with shift := .closing, held := .offDuty }
  | endClosing {b : Books} (c : Counters) (was : b.shift = .closing) (none : b.unsettled = []) :
      Move b { b with shift := .closed, lifetime := b.lifetime.add c }

/-! ### The invariants, read from the books -/

/-- `LedgerSound` of a state's books (R101). -/
structure Books.Ledger (b : Books) : Prop where
  limit : b.journal.length ≤ 48
  rising : (b.journal.map (·.trip)).Pairwise (· < ·)
  few : b.unsettled.length ≤ 4
  listed : ∀ e ∈ b.unsettled, ∃ r ∈ b.journal, r.trip = e.1 ∧ r.outcome = some .unsettled
  entered : ∀ r ∈ b.journal, r.outcome = some .unsettled → ∃ e ∈ b.unsettled, e.1 = r.trip
  closed : b.shift = .closed → b.unsettled = []
  distinct : (b.unsettled.map (·.1)).Nodup
  numbered : ∀ r ∈ b.journal, r.trip ≤ b.lastTrip
  current : ∀ n, b.record = some n → n = b.lastTrip ∧ (∀ x ∈ b.journal, x.trip < n) ∧ b.unsettled.length < 4
    ∧ b.shift = .opened
  session : ∀ x, b.session = some x → b.held = .settling ∧ b.record = some x.1
  attempt : ∀ a, b.attempt = some a → b.held = .settling ∧ b.record = some a.1 ∧ b.session.isSome = true
  inTrip : b.record.isSome = true ↔ b.held.meter.inTrip = true
  duty : (b.held = .free ∨ b.held = .booked) → b.shift = .opened

/-- `FareSound` and `MoneySound` of a state's books (R21, R97). -/
structure Books.Money (b : Books) : Prop where
  fare : FareSound b.fare
  balanced : b.money.balanced
  outstanding : b.money.outstanding = (b.unsettled.map (·.2)).sum
  lastTrip : b.lastTrip ≤ 65535
  bounded : b.money.fareTotals + (if b.record.isSome then 9999999 else 0) ≤ b.lastTrip * 9999999
  settling : b.held = .settling → b.session.isSome = true
  untendered : b.session = none → b.tenders = []
  session : ∀ x, b.session = some x → x.2 = b.fare.record.total ∧ b.tenders.sum ≤ x.2
  attempt : ∀ a, b.attempt = some a → a.2 ≤ b.due

theorem ledgerSound_iff (s : State) : LedgerSound s ↔ s.books.Ledger := by
  have distinct : (s.stu.unsettled.map UnsettledEntry.figures).map (·.1) = s.stu.unsettled.map (·.trip) := by
    simp [UnsettledEntry.figures]
  constructor
  · rintro ⟨⟨limit, rising, few, listed, entered, closed⟩, nodup, numbered, current, session, attempt, inTrip, duty⟩
    exact {
      limit, rising, numbered, duty
      few := by simpa [State.books] using few
      listed := by simpa [State.books, UnsettledEntry.figures] using listed
      entered := by simpa [State.books, UnsettledEntry.figures] using entered
      closed := by simpa [State.books] using closed
      distinct := by simpa only [State.books, distinct] using nodup
      current := by simpa [State.books] using current
      session := by simpa [State.books, Session.figures] using session
      attempt := by simpa [State.books, Attempt.figures] using attempt
      inTrip := by simpa [State.books] using inTrip }
  · intro h
    exact ⟨⟨h.limit, h.rising, by simpa [State.books] using h.few,
        by simpa [State.books, UnsettledEntry.figures] using h.listed,
        by simpa [State.books, UnsettledEntry.figures] using h.entered, by simpa [State.books] using h.closed⟩,
      by simpa only [State.books, distinct] using h.distinct, h.numbered, by simpa [State.books] using h.current,
      by simpa [State.books, Session.figures] using h.session, by simpa [State.books, Attempt.figures] using h.attempt,
      by simpa [State.books] using h.inTrip, h.duty⟩

theorem moneySound_iff (s : State) : FareSound s.fen ∧ MoneySound s ↔ s.books.Money := by
  have due := s.books_due
  have outstanding : (s.books.unsettled.map (·.2)).sum = (s.stu.unsettled.map (·.requested)).sum := by
    simp [State.books, UnsettledEntry.figures, Function.comp_def]
  constructor
  · rintro ⟨fare, balanced, out, lastTrip, bounded, settling, untendered, session, attempt⟩
    exact {
      fare, balanced, lastTrip
      outstanding := out.trans outstanding.symm
      bounded := by simpa [State.books, Counters.money] using bounded
      settling := by simpa [State.books] using settling
      untendered := by simpa [State.books] using untendered
      session := by simpa [State.books, Session.figures, Stu.tendered] using session
      attempt := by rw [due]; simpa [State.books, Attempt.figures] using attempt }
  · intro h
    have attempt := h.attempt
    rw [due] at attempt
    exact ⟨h.fare, h.balanced, h.outstanding.trans outstanding, h.lastTrip, by simpa [State.books, Counters.money] using h.bounded,
      by simpa [State.books] using h.settling, by simpa [State.books] using h.untendered,
      by simpa [State.books, Session.figures, Stu.tendered] using h.session,
      by simpa [State.books, Attempt.figures] using attempt⟩

end Sys2Proof.Machine

/-! 05: every move of the books keeps the journal and the unsettled list in agreement (R101). -/

namespace Sys2Proof.Machine

/-! ### The journal (R101) -/

/-- A closed record joins what is left of the journal; the records lost are none that are UNSETTLED. -/
theorem journalAppend_eq (j : List TripRecord) (r : TripRecord) : ∃ kept, journalAppend j r = kept ++ [r]
    ∧ kept.Sublist j ∧ ∀ x ∈ j, x.outcome = some .unsettled → x ∈ kept := by
  unfold journalAppend
  refine ⟨_, rfl, ?_, ?_⟩
  · split
    · exact .refl j
    · exact List.eraseP_sublist
  · intro x hx unsettled
    split
    · exact hx
    · exact (List.mem_eraseP_of_neg (by simp [unsettled])).2 hx

theorem journalAppend_room {j : List TripRecord} (r : TripRecord) (h : j.length < 48) : journalAppend j r = j ++ [r] := by
  simp [journalAppend, Config.maxJournal, h]

/-- A full journal loses its oldest record whose outcome is not UNSETTLED. -/
theorem journalAppend_full {j front back : List TripRecord} {x : TripRecord} (r : TripRecord) (hj : j = front ++ x :: back)
    (h : j.length = 48) (hx : x.outcome ≠ some .unsettled) (hf : ∀ y ∈ front, y.outcome = some .unsettled) :
    journalAppend j r = front ++ back ++ [r] := by
  rw [journalAppend, if_neg (by simp [h, Config.maxJournal]), hj, List.eraseP_append_right _ (by simpa using hf),
    List.eraseP_cons_of_pos (by simpa using hx)]

theorem journalAppend_limit {j : List TripRecord} (r : TripRecord) (h : j.length ≤ 48)
    (removable : (∃ x ∈ j, x.outcome ≠ some .unsettled) ∨ j.length < 48) : (journalAppend j r).length ≤ 48 := by
  by_cases room : j.length < 48
  · simpa [journalAppend_room r room] using room
  · obtain ⟨x, hx, outcome⟩ := removable.resolve_right room
    have less := List.length_eraseP_of_mem (p := fun y : TripRecord => y.outcome != some .unsettled) hx
      (by simpa using outcome)
    simp only [journalAppend, Config.maxJournal, room, if_false, List.length_append, List.length_singleton, less]
    omega

/-! ### The sums (R97, R100, R102, R103) -/

theorem tenderSum_kinds (g : Tender → Nat) (ts : List Tender) :
    tenderSum .cash g ts + tenderSum .card g ts = (ts.map g).sum := by
  induction ts with
  | nil => rfl
  | cons t ts ih =>
    cases hk : t.kind <;> simp [tenderSum, hk] at ih ⊢ <;> omega

theorem satAdd_below {top a b : Nat} (h : a + b ≤ top) : satAdd top a b = a + b := Nat.min_eq_left h

/-- A trip close arrival whose tenders and amount waived make up the total, but for what is left UNSETTLED, keeps the balance. -/
theorem Counters.addTrip_balanced {c : Counters} {r : TripRecord} {waived : Nat} (h : c.balanced)
    (top : c.fareTotals + r.total ≤ 281474976710655)
    (covered : r.outcome = some .unsettled → (r.tenders.map (·.amount)).sum + waived ≤ r.total)
    (paid : r.outcome ≠ some .unsettled → (r.tenders.map (·.amount)).sum + waived = r.total) :
    (c.addTrip r waived).balanced := by
  have kinds := tenderSum_kinds (·.amount) r.tenders
  unfold Counters.balanced Counters.accounted at h ⊢
  by_cases unsettled : r.outcome = some .unsettled
  · have least := covered unsettled
    simp only [Counters.addTrip, satAdd, Config.max48, unsettled, if_true, TripRecord.tendered]
    omega
  · have exact := paid unsettled
    simp only [Counters.addTrip, satAdd, Config.max48, unsettled, if_false]
    omega

/-- A resolution of an amount that is outstanding keeps the balance. -/
theorem Counters.resolve_balanced {c : Counters} {x : Resolution} (h : c.balanced) (top : c.fareTotals ≤ 281474976710655)
    (outstanding : x.requested ≤ c.outstanding) (within : x.recorded ≤ x.requested) : (c.resolve x).balanced := by
  unfold Counters.balanced Counters.accounted at h ⊢
  unfold Counters.resolve
  split
  · simp only [satAdd, Config.max48]
    omega
  · simp only [satAdd, Config.max48]
    omega

@[simp] theorem Counters.resolve_outstanding (c : Counters) (x : Resolution) :
    (c.resolve x).outstanding = c.outstanding - x.requested := by
  unfold Counters.resolve
  split <;> rfl

@[simp] theorem Counters.resolve_fareTotals (c : Counters) (x : Resolution) : (c.resolve x).fareTotals = c.fareTotals := by
  unfold Counters.resolve
  split <;> rfl

/-! ### The ledger through each move (R101) -/

namespace Books

variable {b : Books} {r : TripRecord}

/-- With one entry a trip, taking a trip's entry off the list takes that entry alone. -/
theorem erase_entry {u : List (Nat × Nat)} {e : Nat × Nat} (nodup : (u.map (·.1)).Nodup) (he : e ∈ u) :
    ∃ front back, u = front ++ e :: back ∧ (u.eraseP fun y => y.1 == e.1) = front ++ back
      ∧ ∀ y ∈ front ++ back, y.1 ≠ e.1 := by
  obtain ⟨front, back, rfl⟩ := List.append_of_mem he
  have others : ∀ y ∈ front ++ back, y.1 ≠ e.1 := by
    rw [List.map_append, List.map_cons, List.nodup_middle, List.nodup_cons, ← List.map_append] at nodup
    exact fun y hy same => nodup.1 (List.mem_map.2 ⟨y, hy, same⟩)
  refine ⟨front, back, rfl, ?_, others⟩
  rw [List.eraseP_append_right _ (fun y hy => by simpa using others y (List.mem_append_left _ hy)),
    List.eraseP_cons_of_pos (by simp)]

/-- A full journal has a record that may be lost: the UNSETTLED ones are no more than the entries. -/
theorem Ledger.removable (h : b.Ledger) : (∃ x ∈ b.journal, x.outcome ≠ some .unsettled) ∨ b.journal.length < 48 := by
  by_contra full
  simp only [not_or, not_exists, not_and, not_not, not_lt] at full
  obtain ⟨unsettled, full⟩ := full
  have sub : b.journal.map (·.trip) ⊆ b.unsettled.map (·.1) := by
    intro n hn
    obtain ⟨x, hx, rfl⟩ := List.mem_map.1 hn
    obtain ⟨e, he, same⟩ := h.entered x hx (unsettled x hx)
    exact List.mem_map.2 ⟨e, he, same⟩
  have nodup : (b.journal.map (·.trip)).Nodup := h.rising.imp Nat.ne_of_lt
  have fits := (nodup.subperm sub).length_le
  have few := h.few
  simp only [List.length_map] at fits
  omega

theorem Ledger.record_of_free (h : b.Ledger) (free : b.held.meter.inTrip = false) : b.record = none := by
  have inTrip := h.inTrip
  rw [free] at inTrip
  simpa using inTrip

/-- A session or an attempt goes with a record, and with SETTLING. -/
theorem Ledger.session_of_ne (h : b.Ledger) (held : b.held ≠ .settling) : b.session = none ∧ b.attempt = none := by
  constructor
  · cases hx : b.session with
    | none => rfl
    | some x => exact absurd (h.session x hx).1 held
  · cases ha : b.attempt with
    | none => rfl
    | some a => exact absurd (h.attempt a ha).1 held

theorem Ledger.record_of_shift (h : b.Ledger) (shift : b.shift ≠ .opened) : b.record = none := by
  cases hr : b.record with
  | none => rfl
  | some n => exact absurd (h.current n hr).2.2.2 shift

theorem Ledger.quiet_of_record (h : b.Ledger) (record : b.record = none) : b.session = none ∧ b.attempt = none := by
  constructor
  · cases hx : b.session with
    | none => rfl
    | some x => exact absurd (h.session x hx).2 (by simp [record])
  · cases ha : b.attempt with
    | none => rfl
    | some a => exact absurd (h.attempt a ha).2.1 (by simp [record])

/-- A trip closes with its record at the end of the journal; the list has its entry where the record is UNSETTLED. -/
theorem Ledger.filed (h : b.Ledger) (files : b.Files r) (waived : Nat) {u : List (Nat × Nat)} (few : u.length ≤ 4)
    (distinct : (u.map (·.1)).Nodup)
    (entries : ∀ n, n ∈ u.map (·.1) ↔ n ∈ b.unsettled.map (·.1) ∨ (n = r.trip ∧ r.outcome = some .unsettled)) :
    (({ b with attempt := none, unsettled := u } : Books).close r waived).Ledger := by
  obtain ⟨last, below, -, opened⟩ := h.current _ files.named
  obtain ⟨kept, append, sub, unsettled⟩ := journalAppend_eq b.journal r
  have mem : ∀ {x}, x ∈ kept ++ [r] ↔ x ∈ kept ∨ x = r := by simp
  have entered : ∀ n, n ∈ u.map (·.1) ↔ ∃ x ∈ kept ++ [r], x.trip = n ∧ x.outcome = some .unsettled := by
    intro n
    rw [entries]
    constructor
    · rintro (hn | ⟨rfl, outcome⟩)
      · obtain ⟨e, he, rfl⟩ := List.mem_map.1 hn
        obtain ⟨x, hx, same, outcome⟩ := h.listed e he
        exact ⟨x, mem.2 (.inl (unsettled x hx outcome)), same, outcome⟩
      · exact ⟨r, mem.2 (.inr rfl), rfl, outcome⟩
    · rintro ⟨x, hx, rfl, outcome⟩
      obtain hx | rfl := mem.1 hx
      · obtain ⟨e, he, same⟩ := h.entered x (sub.subset hx) outcome
        exact .inl (List.mem_map.2 ⟨e, he, same⟩)
      · exact .inr ⟨rfl, outcome⟩
  have limit := journalAppend_limit r h.limit h.removable
  rw [append] at limit
  have journal : (({ b with attempt := none, unsettled := u } : Books).close r waived).journal = kept ++ [r] := append
  exact {
    limit := by rw [journal]; exact limit
    rising := by
      rw [journal, List.map_append, List.map_singleton, List.pairwise_append]
      refine ⟨h.rising.sublist (sub.map _), List.pairwise_singleton _ _, fun n hn m hm => ?_⟩
      obtain ⟨x, hx, rfl⟩ := List.mem_map.1 hn
      rw [List.mem_singleton.1 hm]
      exact below x (sub.subset hx)
    few := few
    listed := by
      intro e he
      rw [journal]
      exact (entered e.1).1 (List.mem_map_of_mem he)
    entered := by
      intro x hx outcome
      rw [journal] at hx
      exact List.mem_map.1 ((entered x.trip).2 ⟨x, hx, rfl, outcome⟩)
    closed := fun closed => absurd (opened.symm.trans closed) (by simp)
    distinct := distinct
    numbered := by
      intro x hx
      rw [journal] at hx
      show x.trip ≤ b.lastTrip
      rw [← last]
      obtain hx | rfl := mem.1 hx
      · exact (below x (sub.subset hx)).le
      · exact le_rfl
    current := fun n hn => by cases hn
    session := fun x hx => by cases hx
    attempt := fun a ha => by cases ha
    inTrip := by simp [Books.close, HeldState.meter, MeterState.inTrip]
    duty := fun _ => opened }

theorem Ledger.closed_trip (h : b.Ledger) (files : b.Files r) (waived : Nat) (none : b.attempt = none ∨ b.held = .stopped)
    (outcome : r.outcome ≠ some .unsettled) : (b.close r waived).Ledger := by
  have unattempted : b.attempt = .none := none.elim id fun stopped => (h.session_of_ne (by simp [stopped])).2
  have same : ({ b with attempt := .none, unsettled := b.unsettled } : Books) = b := by
    rw [← unattempted]
  have filed := h.filed files waived h.few h.distinct (by simp [outcome])
  rwa [same] at filed

theorem Ledger.deferred (h : b.Ledger) (files : b.Files r) {a : Nat × Nat} (is : b.attempt = some a)
    (outcome : r.outcome = some .unsettled) (waived : Nat) :
    (({ b with attempt := none, unsettled := b.unsettled ++ [a] } : Books).close r waived).Ledger := by
  obtain ⟨-, record, -⟩ := h.attempt a is
  have trip : a.1 = r.trip := Option.some.inj (record.symm.trans files.named)
  obtain ⟨-, below, room, -⟩ := h.current _ files.named
  refine h.filed files waived (by simp; omega) ?_ (fun n => by simp [trip, outcome])
  rw [List.map_append, List.nodup_append]
  refine ⟨h.distinct, by simp, fun n hn m hm same => ?_⟩
  obtain ⟨e, he, rfl⟩ := List.mem_map.1 hn
  obtain ⟨x, hx, named, -⟩ := h.listed e he
  have less := below x hx
  simp only [List.map_cons, List.map_nil, List.mem_singleton] at hm
  omega

theorem resolve_trip (r : TripRecord) (x : Resolution) : (r.resolve x).trip = r.trip := by
  unfold TripRecord.resolve
  split <;> rfl

theorem resolve_outcome (r : TripRecord) (x : Resolution) : (r.resolve x).outcome ≠ some .unsettled := by
  unfold TripRecord.resolve
  split <;> simp

theorem Ledger.resolved (h : b.Ledger) {x : Resolution} (listed : (x.trip, x.requested) ∈ b.unsettled) :
    (b.resolve x).Ledger := by
  obtain ⟨front, back, hu, erased, others⟩ := erase_entry h.distinct listed
  have sub : (front ++ back).Sublist b.unsettled := by
    rw [hu]
    exact (List.Sublist.refl front).append (List.sublist_cons_self _ back)
  have unsettled : (b.resolve x).unsettled = front ++ back := erased
  have mem : ∀ e, e ∈ front ++ back ↔ e ∈ b.unsettled ∧ e.1 ≠ x.trip := by
    intro e
    constructor
    · exact fun he => ⟨sub.subset he, others e he⟩
    · rintro ⟨he, other⟩
      rw [hu, List.mem_append, List.mem_cons] at he
      obtain he | rfl | he := he
      · exact List.mem_append_left _ he
      · exact absurd rfl other
      · exact List.mem_append_right _ he
  have journal : (b.resolve x).journal = b.journal.map fun r => if r.trip = x.trip then r.resolve x else r := rfl
  have trip : ∀ r : TripRecord, (if r.trip = x.trip then r.resolve x else r).trip = r.trip := fun r => by
    split
    · exact resolve_trip r x
    · rfl
  have trips : (b.resolve x).journal.map (·.trip) = b.journal.map (·.trip) := by
    rw [journal, List.map_map]
    exact List.map_congr_left fun r _ => trip r
  have bounded : ∀ {p : Nat → Prop}, (∀ r ∈ b.journal, p r.trip) → ∀ r ∈ (b.resolve x).journal, p r.trip := by
    intro p hp r hr
    obtain ⟨y, hy, rfl⟩ := List.mem_map.1 hr
    rw [trip]
    exact hp y hy
  exact {
    limit := by rw [journal, List.length_map]; exact h.limit
    rising := by rw [trips]; exact h.rising
    few := by rw [unsettled]; exact sub.length_le.trans h.few
    listed := by
      intro e he
      rw [unsettled, mem] at he
      obtain ⟨r, hr, named, outcome⟩ := h.listed e he.1
      exact ⟨r, List.mem_map.2 ⟨r, hr, if_neg (by rw [named]; exact he.2)⟩, named, outcome⟩
    entered := by
      intro r hr outcome
      obtain ⟨y, hy, rfl⟩ := List.mem_map.1 hr
      rw [trip]
      split at outcome
      · exact absurd outcome (resolve_outcome y x)
      · obtain ⟨e, he, named⟩ := h.entered y hy outcome
        exact ⟨e, by rw [unsettled, mem, named]; exact ⟨he, ‹_›⟩, named⟩
    closed := by
      intro closed
      have empty := h.closed closed
      rw [empty] at listed
      cases listed
    distinct := by rw [unsettled]; exact h.distinct.sublist (sub.map _)
    numbered := bounded (p := (· ≤ b.lastTrip)) h.numbered
    current := by
      intro n hn
      obtain ⟨last, below, room, opened⟩ := h.current n hn
      exact ⟨last, bounded (p := (· < n)) below, by rw [unsettled]; exact sub.length_le.trans_lt room, opened⟩
    session := h.session
    attempt := h.attempt
    inTrip := h.inTrip
    duty := h.duty }

theorem Ledger.hired (h : b.Ledger) (was : b.held = .free ∨ b.held = .booked) (room : b.unsettled.length < 4) :
    ({ b with held := .hired, lastTrip := b.lastTrip + 1, record := some (b.lastTrip + 1) } : Books).Ledger := by
  have quiet := h.session_of_ne (by obtain was | was := was <;> simp [was])
  exact { h with
    numbered := fun x hx => (h.numbered x hx).trans (Nat.le_succ _)
    current := by
      rintro _ ⟨⟩
      exact ⟨rfl, fun x hx => Nat.lt_succ_of_le (h.numbered x hx), room, h.duty was⟩
    session := fun x hx => absurd hx (by simp [quiet.1])
    attempt := fun a ha => absurd ha (by simp [quiet.2])
    inTrip := by simp [HeldState.meter, MeterState.inTrip]
    duty := by simp }

/-- A held state of the same kind: in a trip before and after, or outside before and after. -/
theorem Ledger.moved (h : b.Ledger) {x : HeldState} (was : b.held ≠ .settling) (same : x.meter.inTrip = b.held.meter.inTrip)
    (duty : (x = .free ∨ x = .booked) → b.shift = .opened) : ({ b with held := x } : Books).Ledger := by
  have quiet := h.session_of_ne was
  exact { h with
    session := fun y hy => absurd hy (by simp [quiet.1])
    attempt := fun a ha => absurd ha (by simp [quiet.2])
    inTrip := by rw [same]; exact h.inTrip
    duty := duty }

theorem Ledger.settled (h : b.Ledger) {n : Nat} (was : b.held = .stopped) (record : b.record = some n) (total : Nat) :
    ({ b with held := .settling, session := some (n, total), tenders := [] } : Books).Ledger := by
  have quiet := h.session_of_ne (by simp [was])
  exact { h with
    session := by rintro _ ⟨⟩; exact ⟨rfl, record⟩
    attempt := fun a ha => absurd ha (by simp [quiet.2])
    inTrip := by simp [record, HeldState.meter, MeterState.inTrip]
    duty := by simp }

theorem Ledger.opened (h : b.Ledger) (was : b.shift = .closed) :
    ({ b with shift := .opened, held := .free, lastTrip := 0, money := Counters.zero, journal := [] } : Books).Ledger := by
  have record := h.record_of_shift (by simp [was])
  have quiet := h.quiet_of_record record
  have unsettled := h.closed was
  exact {
    limit := Nat.zero_le _
    rising := .nil
    few := h.few
    listed := fun e he => absurd he (by simp [unsettled])
    entered := fun r hr => absurd hr List.not_mem_nil
    closed := fun _ => unsettled
    distinct := h.distinct
    numbered := fun r hr => absurd hr List.not_mem_nil
    current := fun n hn => absurd hn (by simp [record])
    session := fun x hx => absurd hx (by simp [quiet.1])
    attempt := fun a ha => absurd ha (by simp [quiet.2])
    inTrip := by simp [record, HeldState.meter, MeterState.inTrip]
    duty := fun _ => rfl }

theorem Ledger.closing (h : b.Ledger) (free : b.held = .free) :
    ({ b with shift := .closing, held := .offDuty } : Books).Ledger := by
  have record := h.record_of_free (by simp [free, HeldState.meter, MeterState.inTrip])
  have quiet := h.quiet_of_record record
  exact { h with
    closed := by simp
    current := fun n hn => absurd hn (by simp [record])
    session := fun x hx => absurd hx (by simp [quiet.1])
    attempt := fun a ha => absurd ha (by simp [quiet.2])
    inTrip := by simp [record, HeldState.meter, MeterState.inTrip]
    duty := by simp }

theorem Ledger.ended (h : b.Ledger) (was : b.shift = .closing) (none : b.unsettled = []) (l : Lifetime) :
    ({ b with shift := .closed, lifetime := l } : Books).Ledger := by
  have record := h.record_of_shift (by simp [was])
  exact { h with
    closed := fun _ => none
    current := fun n hn => absurd hn (by simp [record])
    duty := fun duty => absurd (was.symm.trans (h.duty duty)) (by simp) }

/-- Every move keeps the ledger sound. -/
theorem Move.ledger {c : Books} (m : Move b c) (h : b.Ledger) : c.Ledger := by
  cases m with
  | fare f _ _ => exact { h with }
  | halt x was is =>
    refine h.moved (by obtain was | was := was <;> simp [was]) ?_ (by obtain is | is := is <;> simp [is])
    obtain was | was := was <;> obtain is | is := is <;> rw [was, is] <;> rfl
  | book x was is =>
    refine h.moved (by obtain was | was := was <;> simp [was]) ?_ (fun _ => h.duty was)
    obtain was | was := was <;> obtain is | is := is <;> rw [was, is] <;> rfl
  | hire was room _ => exact h.hired was room
  | settle n was record => exact h.settled was record _
  | cash n _ _ _ => exact { h with }
  | approve a n _ _ => exact { h with attempt := fun a ha => by cases ha }
  | present x n was _ is _ =>
    exact { h with attempt := by rintro _ ⟨⟩; exact ⟨was, (h.session x is).2, by simp [is]⟩ }
  | drop => exact { h with attempt := fun a ha => by cases ha }
  | close r waived files none outcome _ => exact h.closed_trip files waived none outcome
  | defer r a files is outcome => exact h.deferred files is outcome _
  | adrift a record is => exact absurd ((h.attempt a is).2.1.symm.trans record) (by simp)
  | resolve x listed _ => exact h.resolved listed
  | openShift was => exact h.opened was
  | beginClosing _ free => exact h.closing free
  | endClosing c was none => exact h.ended was none _

end Books

end Sys2Proof.Machine

/-! 05: every move of the books keeps the balance of the money (R97) and the lifetime totalizers (R113); runs of moves. -/

namespace Sys2Proof.Machine

/-! ### The totalizers (R113) -/

theorem satAdd_le {top a b : Nat} : satAdd top a b ≤ top := Nat.min_le_right _ _

theorem le_satAdd {top a b : Nat} (h : a ≤ top) : a ≤ satAdd top a b := Nat.le_min.2 ⟨Nat.le_add_right a b, h⟩

theorem Lifetime.add_inRange (l : Lifetime) (c : Counters) : LifetimeInRange (l.add c) :=
  ⟨satAdd_le, satAdd_le, satAdd_le, satAdd_le, satAdd_le⟩

theorem Lifetime.le_add {l : Lifetime} (h : LifetimeInRange l) (c : Counters) : l.le (l.add c) := by
  obtain ⟨total, hired, trips, fares, shifts⟩ := h
  exact ⟨le_satAdd total, le_satAdd hired, le_satAdd trips, le_satAdd fares, le_satAdd shifts⟩

theorem Lifetime.le_refl (l : Lifetime) : l.le l := ⟨le_rfl, le_rfl, le_rfl, le_rfl, le_rfl⟩

theorem Lifetime.le_trans {l m n : Lifetime} (h : l.le m) (g : m.le n) : l.le n :=
  ⟨h.1.trans g.1, h.2.1.trans g.2.1, h.2.2.1.trans g.2.2.1, h.2.2.2.1.trans g.2.2.2.1, h.2.2.2.2.trans g.2.2.2.2⟩

/-! ### The money through each move (R97) -/

@[simp] theorem Counters.money_balanced (c : Counters) : c.money.balanced ↔ c.balanced := Iff.rfl

namespace Books

variable {b : Books} {r : TripRecord}

/-- With a trip in progress the fare totals of the shift are far below their top (R97). -/
theorem Money.top (h : b.Money) (files : b.Files r) : r.total ≤ 9999999
    ∧ b.money.fareTotals + r.total ≤ 281474976710655 ∧ b.money.fareTotals + r.total ≤ b.lastTrip * 9999999 := by
  have bounded := h.bounded
  have last := h.lastTrip
  have total : r.total ≤ 9999999 := files.total.trans_le h.fare.2.1
  rw [if_pos (by simp [files.named])] at bounded
  omega

/-- A trip closes with its money accounted for: `u` is the list it leaves, with what stays outstanding. -/
theorem Money.filed (h : b.Money) (files : b.Files r) {waived : Nat} {u : List (Nat × Nat)}
    (outstanding : (u.map (·.2)).sum = b.money.outstanding
      + if r.outcome = some .unsettled then r.total - b.tenders.sum - waived else 0)
    (covered : r.outcome = some .unsettled → b.tenders.sum + waived ≤ r.total)
    (paid : r.outcome ≠ some .unsettled → b.tenders.sum + waived = r.total) :
    (({ b with attempt := none, unsettled := u } : Books).close r waived).Money := by
  obtain ⟨-, top, next⟩ := h.top files
  have within : b.money.outstanding ≤ b.money.fareTotals := by
    have balanced := h.balanced
    unfold Counters.balanced Counters.accounted at balanced
    omega
  exact {
    fare := h.fare
    balanced := Counters.addTrip_balanced h.balanced top (by rwa [files.tenders]) (by rwa [files.tenders])
    outstanding := by
      show (b.money.addTrip r waived).outstanding = (u.map (·.2)).sum
      rw [outstanding]
      simp only [Counters.addTrip, TripRecord.tendered, files.tenders, satAdd, Config.max48]
      split <;> omega
    lastTrip := h.lastTrip
    bounded := by
      show min (b.money.fareTotals + r.total) _ + 0 ≤ _
      exact (Nat.min_le_left _ _).trans next
    settling := by simp [Books.close]
    untendered := fun _ => rfl
    session := fun x hx => by cases hx
    attempt := fun a ha => by cases ha }

theorem Money.closed_trip (h : b.Money) (ledger : b.Ledger) (files : b.Files r) {waived : Nat}
    (none : b.attempt = none ∨ b.held = .stopped) (outcome : r.outcome ≠ some .unsettled) (covers : b.Covers waived) :
    (b.close r waived).Money := by
  have unattempted : b.attempt = .none := none.elim id fun stopped => (ledger.session_of_ne (by simp [stopped])).2
  have same : ({ b with attempt := .none, unsettled := b.unsettled } : Books) = b := by
    rw [← unattempted]
  have tendered : b.tenders.sum ≤ b.fare.record.total := by
    cases hx : b.session with
    | none => simp [h.untendered hx]
    | some x =>
      obtain ⟨total, within⟩ := h.session x hx
      rwa [← total]
  have paid : b.tenders.sum + waived = r.total := by
    rw [files.total]
    obtain rfl | ⟨rfl, zero | ⟨open_, due⟩⟩ := covers
    · omega
    · omega
    · obtain ⟨x, hx⟩ := Option.isSome_iff_exists.1 open_
      have total := (h.session x hx).1
      simp only [Books.due, hx, Option.map_some, Option.getD_some] at due
      omega
  have filed := h.filed files (waived := waived) (u := b.unsettled) (by simp [outcome, h.outstanding])
    (fun unsettled => absurd unsettled outcome) (fun _ => paid)
  rwa [same] at filed

theorem Money.deferred (h : b.Money) (ledger : b.Ledger) (files : b.Files r) {a : Nat × Nat} (is : b.attempt = some a)
    (outcome : r.outcome = some .unsettled) :
    (({ b with attempt := none, unsettled := b.unsettled ++ [a] } : Books).close r (b.due - a.2)).Money := by
  obtain ⟨x, hx⟩ := Option.isSome_iff_exists.1 (ledger.attempt a is).2.2
  obtain ⟨total, tendered⟩ := h.session x hx
  have requested := h.attempt a is
  have due : b.due = r.total - b.tenders.sum := by simp [Books.due, hx, total, files.total]
  have total' : x.2 = r.total := total.trans files.total.symm
  refine h.filed files ?_ (fun _ => by omega) (fun settled => absurd outcome settled)
  rw [List.map_append, List.sum_append, ← h.outstanding, if_pos outcome]
  simp only [List.map_cons, List.map_nil, List.sum_cons, List.sum_nil]
  omega

theorem Money.resolved (h : b.Money) (ledger : b.Ledger) {x : Resolution} (listed : (x.trip, x.requested) ∈ b.unsettled)
    (within : x.recorded ≤ x.requested) : (b.resolve x).Money := by
  obtain ⟨front, back, hu, erased, -⟩ := erase_entry ledger.distinct listed
  have outstanding := h.outstanding
  have balanced := h.balanced
  have bounded := h.bounded
  have last := h.lastTrip
  have left : b.money.outstanding - x.requested = ((front ++ back).map (·.2)).sum ∧ x.requested ≤ b.money.outstanding := by
    rw [outstanding, hu]
    simp only [List.map_append, List.map_cons, List.sum_append, List.sum_cons]
    omega
  exact { h with
    balanced := Counters.resolve_balanced h.balanced (by omega) left.2 within
    outstanding := by
      show (b.money.resolve x).outstanding = ((b.unsettled.eraseP _).map (·.2)).sum
      rw [erased, Counters.resolve_outstanding, left.1]
    bounded := by
      show (b.money.resolve x).fareTotals + _ ≤ _
      rw [Counters.resolve_fareTotals]
      exact h.bounded }

/-- A tender within what the session has left to be tendered. -/
theorem Money.tendered (h : b.Money) (held : b.held = .settling) {n : Nat} (within : n ≤ b.due) :
    ({ b with attempt := none, tenders := b.tenders ++ [n] } : Books).Money := by
  obtain ⟨x, hx⟩ := Option.isSome_iff_exists.1 (h.settling held)
  obtain ⟨total, tendered⟩ := h.session x hx
  simp only [Books.due, hx, Option.map_some, Option.getD_some] at within
  exact { h with
    untendered := fun none => absurd (hx.symm.trans none) (by simp)
    session := by
      intro y hy
      obtain rfl : x = y := Option.some.inj (hx.symm.trans hy)
      exact ⟨total, by simp only [List.sum_append, List.sum_singleton]; omega⟩
    attempt := fun a ha => by cases ha }

theorem Money.hired (h : b.Money) (ledger : b.Ledger) (was : b.held = .free ∨ b.held = .booked) (last : b.lastTrip < 65535) :
    ({ b with held := .hired, lastTrip := b.lastTrip + 1, record := some (b.lastTrip + 1) } : Books).Money := by
  have record := ledger.record_of_free (by obtain was | was := was <;> simp [was, HeldState.meter, MeterState.inTrip])
  have bounded := h.bounded
  rw [record] at bounded
  exact { h with
    lastTrip := last
    bounded := by
      simp only [Option.isSome_some, if_true]
      simp at bounded
      omega
    settling := by simp }

/-- A fresh fare, with the fare total of a session kept. -/
theorem Money.fared (h : b.Money) (ledger : b.Ledger) {f : Fen} (sound : FareSound f)
    (kept : b.held = .settling → f.record.total = b.fare.record.total) : ({ b with fare := f } : Books).Money :=
  { h with
    fare := sound
    session := by
      intro x hx
      obtain ⟨total, tendered⟩ := h.session x hx
      exact ⟨total.trans (kept (ledger.session x hx).1).symm, tendered⟩ }

theorem Money.settled (h : b.Money) (ledger : b.Ledger) (was : b.held = .stopped) (n : Nat) :
    ({ b with held := .settling, session := some (n, b.fare.record.total), tenders := [] } : Books).Money :=
  { h with
    settling := fun _ => rfl
    untendered := fun _ => rfl
    session := by rintro _ ⟨⟩; exact ⟨rfl, Nat.zero_le _⟩
    attempt := fun a ha => absurd ha (by simp [(ledger.session_of_ne (by simp [was])).2]) }

theorem Money.opened (h : b.Money) (ledger : b.Ledger) (was : b.shift = .closed) :
    ({ b with shift := .opened, held := .free, lastTrip := 0, money := Counters.zero, journal := [] } : Books).Money := by
  have record := ledger.record_of_shift (by simp [was])
  have quiet := ledger.quiet_of_record record
  exact { h with
    balanced := rfl
    outstanding := by simp [ledger.closed was, Counters.zero]
    lastTrip := Nat.zero_le _
    bounded := by simp [record, Counters.zero]
    settling := by simp
    attempt := fun a ha => absurd ha (by simp [quiet.2]) }

/-- Every move keeps the money sound, where the ledger is sound. -/
theorem Move.money {c : Books} (m : Move b c) (ledger : b.Ledger) (h : b.Money) : c.Money := by
  cases m with
  | fare f sound kept => exact h.fared ledger (sound h.fare) kept
  | halt x _ is => exact { h with settling := by obtain is | is := is <;> simp [is] }
  | book x _ is => exact { h with settling := by obtain is | is := is <;> simp [is] }
  | hire was _ last => exact h.hired ledger was last
  | settle n was _ => exact h.settled ledger was n
  | cash n was none within =>
    have tendered := h.tendered was within
    rw [← none] at tendered
    exact tendered
  | approve a n is within => exact h.tendered (ledger.attempt a is).1 (within.trans (h.attempt a is))
  | present x n _ _ _ within => exact { h with attempt := by rintro _ ⟨⟩; exact within }
  | drop => exact { h with attempt := fun a ha => by cases ha }
  | close r waived files none outcome covers => exact h.closed_trip ledger files none outcome covers
  | defer r a files is outcome => exact h.deferred ledger files is outcome
  | adrift a record is => exact absurd ((ledger.attempt a is).2.1.symm.trans record) (by simp)
  | resolve x listed within => exact h.resolved ledger listed within
  | openShift was => exact h.opened ledger was
  | beginClosing _ _ => exact { h with settling := by simp }
  | endClosing _ _ _ => exact { h with }

/-- A move keeps the totalizers, or a closing adds to them. -/
theorem Move.lifetime {c : Books} (m : Move b c) : c.lifetime = b.lifetime ∨ ∃ x, c.lifetime = b.lifetime.add x := by
  cases m with
  | endClosing x _ _ => exact .inr ⟨x, rfl⟩
  | _ => exact .inl rfl

end Books

/-! ### A run of moves -/

/-- Between two states the books made a run of moves. -/
def State.Booked (s t : State) : Prop := Relation.ReflTransGen Books.Move s.books t.books

namespace State.Booked

variable {s t u : State}

theorem of_eq (h : t.books = s.books) : s.Booked t := by unfold State.Booked; rw [h]

theorem refl (s : State) : s.Booked s := .of_eq rfl

theorem of_move {c : Books} (m : Books.Move s.books c) (h : t.books = c) : s.Booked t := .single (by rwa [h])

theorem trans (h : s.Booked t) (g : t.Booked u) : s.Booked u := Relation.ReflTransGen.trans h g

/-- A run of moves keeps what every move keeps. -/
theorem keeps {p : Books → Prop} (step : ∀ {b c}, Books.Move b c → p b → p c) (h : s.Booked t) (hs : p s.books) :
    p t.books := by
  refine Relation.ReflTransGen.head_induction_on (motive := fun b _ => p b → p t.books) h id ?_ hs
  exact fun m _ ih hb => ih (step m hb)

theorem ledger (h : s.Booked t) (hs : LedgerSound s) : LedgerSound t :=
  (ledgerSound_iff t).2 (h.keeps (fun m => m.ledger) ((ledgerSound_iff s).1 hs))

theorem money (h : s.Booked t) (fare : FareSound s.fen) (ledger : LedgerSound s) (hs : MoneySound s) : MoneySound t :=
  ((moneySound_iff t).2 (h.keeps (p := fun b => b.Ledger ∧ b.Money) (fun m hb => ⟨m.ledger hb.1, m.money hb.1 hb.2⟩)
    ⟨(ledgerSound_iff s).1 ledger, (moneySound_iff s).1 ⟨fare, hs⟩⟩).2).2

theorem lifetime (h : s.Booked t) (hs : LifetimeInRange s.sau.lifetime) :
    LifetimeInRange t.sau.lifetime ∧ s.sau.lifetime.le t.sau.lifetime :=
  h.keeps (p := fun b => LifetimeInRange b.lifetime ∧ s.sau.lifetime.le b.lifetime) (fun m hb => by
    obtain same | ⟨x, added⟩ := m.lifetime
    · rwa [same]
    · rw [added]
      exact ⟨Lifetime.add_inRange _ x, Lifetime.le_trans hb.2 (Lifetime.le_add hb.1 x)⟩)
    ⟨hs, Lifetime.le_refl _⟩

end State.Booked

end Sys2Proof.Machine

/-! 05: the operations that leave the books as they stand. -/

namespace Sys2Proof.Machine

/-! ### Updates of one block -/

@[simp] theorem setOdu_books (s : State) (x : Odu) : (s.setOdu x).books = s.books := rfl
@[simp] theorem setRsd_books (s : State) (x : Rsd) : (s.setRsd x).books = s.books := rfl
@[simp] theorem setCau_books (s : State) (x : Cau) : (s.setCau x).books = s.books := rfl
@[simp] theorem setAlm_books (s : State) (x : Alm) : (s.setAlm x).books = s.books := rfl
@[simp] theorem setCbi_books (s : State) (x : Cbi) : (s.setCbi x).books = s.books := rfl
@[simp] theorem setRtm_books (s : State) (x : Rtm) : (s.setRtm x).books = s.books := rfl
@[simp] theorem setPending_books (s : State) (x : List Instr) : (s.setPending x).books = s.books := rfl

/-- Two states agree in what the books read. -/
theorem State.books_congr {s t : State} (fen : { t.fen with owed := false } = { s.fen with owed := false })
    (trc : t.trc.held = s.trc.held ∧ t.trc.lastTrip = s.trc.lastTrip
      ∧ t.trc.record.map (·.trip) = s.trc.record.map (·.trip)) (stu : t.stu = s.stu) (sau : t.sau = s.sau) :
    t.books = s.books := by
  obtain ⟨held, last, record⟩ := trc
  simp only [State.books, fen, held, last, record, stu, sau]

@[simp] theorem setTrc_books (s : State) (x : Trc) (held : x.held = s.trc.held) (last : x.lastTrip = s.trc.lastTrip)
    (record : x.record.map (·.trip) = s.trc.record.map (·.trip)) : (s.setTrc x).books = s.books :=
  State.books_congr rfl ⟨held, last, record⟩ rfl rfl

@[simp] theorem setSau_books (s : State) (x : Sau) (shift : x.shift = s.sau.shift)
    (money : x.counters.money = s.sau.counters.money) (journal : x.journal = s.sau.journal)
    (lifetime : x.lifetime = s.sau.lifetime) : (s.setSau x).books = s.books := by
  simp only [State.books, State.setSau_fen, State.setSau_trc, State.setSau_stu, State.setSau_sau, shift, money, journal,
    lifetime]

@[simp] theorem setStu_books (s : State) (x : Stu)
    (session : x.session.map Session.figures = s.stu.session.map Session.figures)
    (tenders : x.tenders.map (·.tender.amount) = s.stu.tenders.map (·.tender.amount))
    (attempt : x.attempt.map Attempt.figures = s.stu.attempt.map Attempt.figures)
    (unsettled : x.unsettled.map UnsettledEntry.figures = s.stu.unsettled.map UnsettledEntry.figures) :
    (s.setStu x).books = s.books := by
  simp only [State.books, State.setStu_fen, State.setStu_trc, State.setStu_stu, State.setStu_sau, session, tenders,
    attempt, unsettled]

/-- The numbers of an attempt stay what they are. -/
theorem setAttempt_books {s : State} {a b : Attempt} (h : s.stu.attempt = some a) (same : b.figures = a.figures) :
    (s.setAttempt b).books = s.books := by
  simp [State.setAttempt, h, same]

theorem mapEntry_books (s : State) (trip : Nat) {g : UnsettledEntry → UnsettledEntry}
    (same : ∀ e, (g e).figures = e.figures) : (s.mapEntry trip g).books = s.books := by
  refine setStu_books _ _ rfl rfl rfl ?_
  rw [List.map_map]
  refine List.map_congr_left fun e _ => ?_
  dsimp only [Function.comp_apply]
  split
  · exact same e
  · rfl

/-! ### Shared operations -/

@[simp] theorem updateLamp_books (s : State) : (updateLamp s).books = s.books := by simp [State.books]

@[simp] theorem setRouting_books (s : State) : (setRouting s).books = s.books := by simp [State.books]

@[simp] theorem wake_books (s : State) : (wake s).books = s.books := by simp [State.books]

@[simp] theorem enqueue_books (s : State) (f : TxFrame) : (enqueue s f).1.books = s.books := by simp [State.books]

@[simp] theorem answer_books (topic : Nat) (f : RxFrame) (code : ResultCode) (s : State) :
    (answer topic f code s).books = s.books := by simp [State.books]

@[simp] theorem settleReport_books (s : State) : (settleReport s).books = s.books := by simp [settleReport, State.books]

@[simp] theorem abortWhere_books (s : State) (p : TxFrame → Bool) : (s.abortWhere p).books = s.books := by
  simp [State.books]

@[simp] theorem enqueueMeterState_books (s : State) : (enqueueMeterState s).books = s.books := by simp [State.books]

@[simp] theorem enqueueTalkState_books (s : State) : (enqueueTalkState s).books = s.books := by simp [State.books]

@[simp] theorem enqueueShiftState_books (s : State) : (enqueueShiftState s).books = s.books := by
  simp [enqueueShiftState]

@[simp] theorem enqueueFareStatus_books (s : State) : (enqueueFareStatus s).books = s.books := by
  unfold enqueueFareStatus
  dsimp only
  split <;> simp [State.books]

@[simp] theorem changeFloor_books (x : Floor) (w : Bool) (s : State) : (changeFloor x w s).books = s.books := by
  simp [State.books]

@[simp] theorem clearFloor_books (s : State) : (clearFloor s).books = s.books := by simp [State.books]

@[simp] theorem resetRearSlot_books (s : State) : (resetRearSlot s).books = s.books := by simp [State.books]

@[simp] theorem requestChime_books (k : ChimeKind) (s : State) : (requestChime k s).books = s.books := by
  simp [State.books]

@[simp] theorem meterChanged_books (old : MeterState) (s : State) : (meterChanged old s).books = s.books := by
  simp [State.books]

theorem setHeld_books (h : HeldState) (s : State) : (setHeld h s).books = { s.books with held := h } := by
  simp [State.books]

@[simp] theorem received_books (s : State) : (received s).books = s.books := by simp [State.books]

/-- A report of a figure that is no money. -/
theorem report_books {g : Counters → Counters} (h : ∀ c, (g c).money = c.money) (s : State) :
    (report g s).books = s.books := by
  unfold report
  split
  · rfl
  · simp [h]

@[simp] theorem stray_books (s : State) : (stray s).books = s.books := report_books (g := Counters.addStray) (fun _ => rfl) s

/-! ### CAU, RSD, ODU and ALM -/

@[simp] theorem giveUpFloor_books (s : State) : (giveUpFloor s).books = s.books := by
  unfold giveUpFloor
  split <;> simp

theorem floorRequest_books (topic : Nat) (f : RxFrame) {act : State → State} {s : State}
    (h : (act s).books = s.books) : (floorRequest topic f act s).books = s.books := by
  unfold floorRequest
  split
  · simp
  · split <;> simp [h]

theorem talkPress_books (f : RxFrame) (s : State) : (talkPress f s).books = s.books := by
  refine floorRequest_books _ f ?_
  unfold talkPressed
  dsimp only
  split <;> simp

theorem talkRelease_books (f : RxFrame) (s : State) : (talkRelease f s).books = s.books := by
  refine floorRequest_books _ f ?_
  unfold talkReleased
  dsimp only
  split <;> simp

theorem callPress_books (f : RxFrame) (s : State) : (callPress f s).books = s.books := by
  refine floorRequest_books _ f ?_
  unfold callPressed
  dsimp only
  split
  · simp
  · split <;> simp
  · simp

theorem callRelease_books (f : RxFrame) (s : State) : (callRelease f s).books = s.books := by
  refine floorRequest_books _ f ?_
  unfold callReleased
  dsimp only
  split
  · simp
  · split <;> simp
  · simp

theorem voxAction_books (slot : Nat) (before : SourceLevel) (s : State) :
    (voxAction slot before s).books = s.books := by
  unfold voxAction
  dsimp only
  split
  · split
    · split <;> simp
    · split <;> simp
  · rfl

@[simp] theorem slotEnd_books (s : State) : (slotEnd s).books = s.books := by
  unfold slotEnd
  split
  · split
    · dsimp only
      split <;> simp [voxAction_books]
    · rfl
  · rfl

@[simp] theorem chimeEnd_books (s : State) : (chimeEnd s).books = s.books := by
  unfold chimeEnd
  split
  · split <;> simp
  · rfl

theorem samplePeriod_books (front rear radio : Sample) (s : State) :
    (samplePeriod front rear radio s).books = s.books := by
  unfold samplePeriod
  split <;> simp

theorem signTest_books (f : RxFrame) (s : State) : (signTest f s).books = s.books := by
  unfold signTest
  split
  · simp
  · split <;> simp [lampTestStarted]

theorem signWrite_books (f : RxFrame) (s : State) : (signWrite f s).books = s.books := by
  unfold signWrite
  dsimp only
  split <;> simp

@[simp] theorem scrollStep_books (s : State) : (scrollStep s).books = s.books := by
  unfold scrollStep
  split <;> simp

theorem refreshPass_books (s : State) : (refreshPass s).books = s.books := by
  unfold refreshPass
  split <;> simp

@[simp] theorem lampTestEnd_books (s : State) : (lampTestEnd s).books = s.books := by
  unfold lampTestEnd endLampTest
  split <;> simp

theorem wheelInput_books (l : WheelLine) (level : Bool) (s : State) : (wheelInput l level s).books = s.books := by
  unfold wheelInput
  split
  · split <;> simp
  · simp

theorem filterElapsed_books (l : WheelLine) (s : State) : (filterElapsed l s).books = s.books := by
  unfold filterElapsed
  split
  · split <;> simp
  · rfl

@[simp] theorem secondEnd_books (s : State) : (secondEnd s).books = s.books := by
  rw [secondEnd_frame]
  rfl

theorem retainedTick_books (s : State) : (retainedTick s).books = s.books := by
  unfold retainedTick
  split <;> simp

theorem clockSet_books (f : RxFrame) (s : State) : (clockSet f s).books = s.books := by simp [clockSet]

@[simp] theorem placeNotice_books (s : State) : (placeNotice s).books = s.books := by
  unfold placeNotice
  dsimp only
  split <;> simp

@[simp] theorem noticeOutcome_books (s : State) : (noticeOutcome s).books = s.books := by
  unfold noticeOutcome
  split
  · dsimp only
    split <;> simp
  · rfl

@[simp] theorem markAlarm_books (s : State) : (markAlarm s).books = s.books := by
  simp [markAlarm, Function.comp_def]

@[simp] theorem alarmEntry_books (s : State) : (alarmEntry s).books = s.books := by
  unfold alarmEntry alarmEntered audioAlarmEntry endLampTest
  split
  · simp [report_books (g := Counters.addAlarm) fun _ => rfl]
  · rfl

@[simp] theorem repeatExpiry_books (s : State) : (repeatExpiry s).books = s.books := by
  unfold repeatExpiry
  split <;> simp

theorem alarmAck_books (f : RxFrame) (s : State) : (alarmAck f s).books = s.books := by
  unfold alarmAck
  split <;> simp

theorem alarmClear_books (f : RxFrame) (s : State) : (alarmClear f s).books = s.books := by
  unfold alarmClear alarmCleared audioAlarmCleared
  split
  · simp
  · dsimp only
    split <;> simp

/-! ### CBI -/

theorem statusRead_books (f : RxFrame) (s : State) : (statusRead f s).books = s.books := by
  unfold statusRead
  dsimp only
  split
  · simp
  · rw [State.books_congr (by simp) (by simp) (enqueueCounted_frame _ _).2.2.2.1 (enqueueCounted_frame _ _).2.2.2.2.1,
      answer_books]

@[simp] theorem offlineRecovery_books (s : State) : (offlineRecovery s).books = s.books := by
  obtain ⟨c, h, -⟩ := offlineRecovery_eq s
  rw [h]
  rfl

@[simp] theorem lineIdle_books (s : State) : (lineIdle s).books = s.books := by
  obtain ⟨c, h, -⟩ := lineIdle_eq s
  rw [h]
  rfl

@[simp] theorem wakeOnEdge_books (s : State) : (wakeOnEdge s).books = s.books := by
  unfold wakeOnEdge
  split <;> simp

theorem startMark_books (s : State) : (startMark s).books = s.books := by
  unfold startMark
  repeat' split
  all_goals simp

theorem receiveFault_books (x : ReceiveFault) (s : State) : (receiveFault x s).books = s.books := by
  unfold receiveFault endReception impliedIdle
  dsimp only
  repeat' split
  all_goals simp

theorem transmitAttempt_books (s : State) : (transmitAttempt s).books = s.books := by
  unfold transmitAttempt beginAttempt
  repeat' split
  all_goals simp

@[simp] theorem stopSettlementTimers_books (s : State) : (stopSettlementTimers s).books = s.books :=
  setStu_books _ _ rfl rfl (Option.map_map _ _ _)
    List.map_map

theorem duplicateStation_books (s : State) : (duplicateStation s).books = s.books := by
  unfold duplicateStation
  dsimp only
  split
  · simp
  · exact (meterChanged_books _ _).trans ((stopSettlementTimers_books _).trans (setTrc_books _ _ rfl rfl rfl))

@[simp] theorem listenEnd_books (s : State) : (listenEnd s).books = s.books := by
  unfold listenEnd
  split <;> simp

@[simp] theorem dormancyEntry_books (s : State) : (dormancyEntry s).books = s.books := by
  unfold dormancyEntry audioDormant endLampTest
  split <;> simp

theorem backupFail_books (s : State) : (backupFail s).books = s.books := by
  unfold backupFail
  split <;> simp

/-! ### The answers of the SAU -/

theorem setAnswer_books (s : State) {x : Sau} (k : AnswerKind) (a : Option Answer) (h : x = s.sau) :
    (s.setSau (x.setAnswer k a)).books = s.books := by
  subst h
  cases k <;> exact setSau_books _ _ rfl rfl rfl rfl

@[simp] theorem placePart_books (k : AnswerKind) (s : State) : (placePart k s).books = s.books := by
  unfold placePart
  split
  · rfl
  · exact (setAnswer_books _ _ _ rfl).trans (enqueue_books s _)

@[simp] theorem startAnswer_books (k : AnswerKind) (number : Nat) (bytes : List Byte) (s : State) :
    (startAnswer k number bytes s).books = s.books := by
  unfold startAnswer abortPart
  dsimp only
  split <;> exact (placePart_books _ _).trans (setAnswer_books _ _ _ rfl)

@[simp] theorem partOutcome_books (k : AnswerKind) (box : Nat) (o : BoxOutcome) (s : State) :
    (partOutcome k box o s).books = s.books := by
  have placed : ∀ a, (s.setSau (s.sau.setAnswer k a)).books = s.books := fun a => setAnswer_books s k a rfl
  unfold partOutcome
  repeat' split
  all_goals simp [placed]

theorem journalRead_books (f : RxFrame) (s : State) : (journalRead f s).books = s.books := by
  unfold journalRead
  split <;> simp

theorem summaryRead_books (f : RxFrame) (s : State) : (summaryRead f s).books = s.books := by simp [summaryRead]

theorem sauOutcome_books (box : Nat) (f : TxFrame) (o : BoxOutcome) (s : State) :
    (sauOutcome box f o s).books = s.books := by
  unfold sauOutcome
  repeat' split
  all_goals simp

/-! ### The frames of the STU -/

@[simp] theorem placeRequest_books (s : State) : (placeRequest s).books = s.books := by
  unfold placeRequest
  split
  · rfl
  · rename_i a ha
    exact (setAttempt_books (a := a) (by simpa using ha) rfl).trans (enqueue_books s _)

@[simp] theorem placeCancel_books (s : State) : (placeCancel s).books = s.books := by
  unfold placeCancel
  split
  · rfl
  · rename_i a ha
    exact (setAttempt_books (a := a) (by simpa using ha) rfl).trans (enqueue_books s _)

@[simp] theorem placeQuery_books (s : State) : (placeQuery s).books = s.books := by
  unfold placeQuery
  split
  · rfl
  · rename_i a ha
    dsimp only
    split <;> exact (setAttempt_books (a := a) (by simpa using ha) rfl).trans (enqueue_books s _)

theorem enterCancelling_books {a : Attempt} {s : State} (h : s.stu.attempt = some a) :
    (enterCancelling a s).books = s.books := (placeCancel_books _).trans (setAttempt_books h rfl)

theorem enterUncertain_books {a : Attempt} {s : State} (h : s.stu.attempt = some a) :
    (enterUncertain a s).books = s.books := by
  simp [enterUncertain, setAttempt_books h (b := { a with state := .uncertain, timer := none, waits := false }) rfl]

@[simp] theorem placeEntryQuery_books (e : UnsettledEntry) (s : State) : (placeEntryQuery e s).books = s.books := by
  unfold placeEntryQuery
  dsimp only
  split
  all_goals
    refine (mapEntry_books _ _ ?_).trans (enqueue_books s _)
    exact fun _ => rfl

@[simp] theorem placeClosingQuery_books (e : UnsettledEntry) (s : State) : (placeClosingQuery e s).books = s.books := by
  refine (mapEntry_books _ _ ?_).trans (enqueue_books s _)
  exact fun _ => rfl

/-- A fold of operations that each keep the books keeps them. -/
theorem foldl_books {α : Type} {g : State → α → State} (hg : ∀ (t : State) (x : α), (g t x).books = t.books) (l : List α)
    (s : State) : (l.foldl g s).books = s.books := by
  induction l generalizing s with
  | nil => rfl
  | cons x l ih => exact (ih _).trans (hg s x)

@[simp] theorem queryAllEntries_books (s : State) : (queryAllEntries s).books = s.books :=
  foldl_books (fun t e => placeClosingQuery_books e t) _ s

theorem retryEntry_books (e : UnsettledEntry) (s : State) : (retryEntry e s).books = s.books := by
  unfold retryEntry
  dsimp only
  split <;> split <;> simp

@[simp] theorem settlementRetries_books (s : State) : (settlementRetries s).books = s.books := by
  rw [settlementRetries_eq]
  split
  · rfl
  · refine (foldl_books (fun t e => retryEntry_books e t) _ _).trans ?_
    unfold retryAttempt
    repeat' split
    all_goals simp

theorem State.expired_some {s : State} {x : AttemptState} {a : Attempt} (h : s.expired x = some a) :
    s.stu.attempt = some a := by
  unfold State.expired at h
  split at h
  · exact (Option.filter_eq_some_iff.1 h).1
  · cases h

@[simp] theorem resultExpiry_books (s : State) : (resultExpiry s).books = s.books := by
  unfold resultExpiry
  split
  · rename_i a ha
    simp [enterUncertain_books (State.expired_some ha)]
  · rfl

@[simp] theorem cancelExpiry_books (s : State) : (cancelExpiry s).books = s.books := by
  unfold cancelExpiry
  split
  · rename_i a ha
    simp [enterUncertain_books (State.expired_some ha)]
  · rfl

@[simp] theorem queryExpiry_books (s : State) : (queryExpiry s).books = s.books := by
  unfold queryExpiry
  split
  · rename_i a ha
    have stopped := setAttempt_books (b := { a with timer := none }) (State.expired_some ha) rfl
    split <;> simp [stopped]
  · rfl

theorem entryExpiry_books (trip : Nat) (s : State) : (entryExpiry trip s).books = s.books := by
  have stopped := mapEntry_books s trip (g := fun x => { x with timer := none }) fun _ => rfl
  unfold entryExpiry
  split
  · split
    · dsimp only
      split <;> simp [stopped]
    · rfl
  · rfl

@[simp] theorem entryExpiries_books (s : State) : (entryExpiries s).books = s.books :=
  foldl_books (fun t (e : UnsettledEntry) => entryExpiry_books e.trip t) _ s

theorem payReference_books (f : RxFrame) (s : State) : (payReference f s).books = s.books := by
  have refer : ∀ n bs, (s.stu.tenders.map (TenderEntry.refer n bs)).map (·.tender.amount)
      = s.stu.tenders.map (·.tender.amount) := fun n bs => by
    rw [List.map_map]
    refine List.map_congr_left fun e _ => ?_
    dsimp only [Function.comp_apply, TenderEntry.refer]
    split <;> rfl
  unfold payReference
  dsimp only
  split
  · rename_i a ha
    exact setAttempt_books (Option.filter_eq_some_iff.1 ha).1 rfl
  · split
    · exact setStu_books _ _ rfl (refer _ _) rfl rfl
    · split
      · exact mapEntry_books _ _ fun _ => rfl
      · rfl

/-! ### A window end, but for the FEN and what was due -/

@[simp] theorem shiftWindow_books (w : WindowRecord) (s : State) : (shiftWindow w s).books = s.books := by
  unfold shiftWindow
  split
  · refine setSau_books _ _ rfl ?_ rfl rfl
    unfold Counters.addWindow
    dsimp only
    split <;> rfl
  · rfl

@[simp] theorem tripWindow_books (w : WindowRecord) (s : State) : (tripWindow w s).books = s.books := by
  unfold tripWindow
  split
  · simp [Function.comp_def, TripRecord.count]
  · split
    · exact report_books (g := Counters.addUnmetered) (fun _ => rfl) s
    · rfl

@[simp] theorem settlementTimers_books (s : State) : (settlementTimers s).books = s.books := by
  unfold settlementTimers
  split
  · rfl
  · exact setStu_books _ _ rfl rfl (Option.map_map _ _ _)
      List.map_map

@[simp] theorem windowTimers_books (closed : Bool) (s : State) : (windowTimers closed s).books = s.books := by
  have switch : (switchSample closed s).books = s.books := by
    unfold switchSample
    split <;> simp
  have repeated : ∀ t, (repeatTick t).books = t.books := fun t => by
    unfold repeatTick
    split <;> simp
  have totals : ∀ t, (totalsTick t).books = t.books := fun t => setSau_books t _ rfl rfl rfl rfl
  simp [windowTimers, listenTick, lampTestTick, totals, repeated, switch]

@[simp] theorem placeTotals_books (s : State) : (placeTotals s).books = s.books := by simp [placeTotals]

@[simp] theorem windowRetries_books (s : State) : (windowRetries s).books = s.books := by
  have parts : ∀ k t, (partRetry k t).books = t.books := fun k t => by
    unfold partRetry
    split <;> simp
  have totals : ∀ t, (totalsRetry t).books = t.books := fun t => by
    unfold totalsRetry
    split <;> simp
  have topics : (windowTalkState (windowShiftState (windowMeterState s))).books = s.books := by
    unfold windowTalkState windowShiftState windowMeterState
    dsimp only
    split <;> split <;> split <;> simp
  rw [windowRetries, parts, parts, totals, settlementRetries_books, topics]

@[simp] theorem dormancyTick_books (s : State) : (dormancyTick s).books = s.books := by
  unfold dormancyTick
  split <;> simp

end Sys2Proof.Machine

/-! 05: the operations that move the books. -/

namespace Sys2Proof.Machine

/-! ### Held states, answers, and a fresh fare -/

/-- A meter state other than INOPERATIVE shows the held state. -/
theorem State.held_of_meter {s : State} (x : HeldState) (h : s.meter = x.meter) : s.trc.held = x := by
  have held := (Trc.meter_held (t := s.trc) h (by cases x <;> simp [HeldState.meter])).2
  cases x <;> cases hh : s.trc.held <;> simp [hh, HeldState.meter] at held ⊢

/-- Two meter states show two held states. -/
theorem State.held_of_meters {s : State} (x y : HeldState) (h : s.meter = x.meter ∨ s.meter = y.meter) :
    s.trc.held = x ∨ s.trc.held = y := h.imp (State.held_of_meter x) (State.held_of_meter y)

namespace State.Booked

variable {s t : State}

theorem answered (h : s.Booked t) (topic : Nat) (f : RxFrame) (code : ResultCode) : s.Booked (answer topic f code t) :=
  h.trans (.of_eq (answer_books topic f code t))

theorem refused (s : State) (topic : Nat) (f : RxFrame) (code : ResultCode) : s.Booked (answer topic f code s) :=
  (refl s).answered topic f code

/-- The interface is no part of the books. -/
theorem after_setCbi {c : Cbi} (h : (s.setCbi c).Booked t) : s.Booked t := h

theorem reported (h : s.Booked t) : s.Booked (settleReport t) := h.trans (.of_eq (settleReport_books t))

/-- Only the FEN has changed for the books. -/
theorem fare (same : t.books = { s.books with fare := t.books.fare }) (sound : FareSound s.fen → FareSound t.fen)
    (kept : s.trc.held = .settling → t.fen.record.total = s.fen.record.total) : s.Booked t :=
  .of_move (.fare t.books.fare sound kept) same

end State.Booked

/-! ### The FEN -/

@[simp] theorem setFen_books (s : State) (x : Fen) :
    (s.setFen x).books = { s.books with fare := { x with owed := false } } := rfl

@[simp] theorem windowFareStatus_books (s : State) : (windowFareStatus s).books = s.books :=
  State.books_congr (by simp [windowFareStatus]) (by simp [windowFareStatus]) (by simp [windowFareStatus])
    (by simp [windowFareStatus])

theorem tariffSelect_booked (f : RxFrame) (s : State) : s.Booked (tariffSelect f s) := by
  have selected : (tariffSelected (field f.payload 0 1) s).books
      = { s.books with fare := (tariffSelected (field f.payload 0 1) s).books.fare } := by
    unfold tariffSelected
    split <;> rfl
  have total : (tariffSelected (field f.payload 0 1) s).fen.record.total = s.fen.record.total := by
    unfold tariffSelected
    split <;> rfl
  refine .fare ?_ (tariffSelect_sound f) fun _ => ?_
  all_goals
    rw [tariffSelect_eq]
    repeat' split
  all_goals simp [total]
  exact selected

/-- Extras move only in HIRED and STOPPED. -/
theorem State.extrasOpen_held {s : State} (h : s.extrasOpen = true) : s.trc.held ≠ .settling := by
  obtain held | held := State.held_of_meters .hired .stopped ((State.extrasOpen_iff s).1 h) <;> simp [held]

theorem extraAdd_booked (f : RxFrame) (s : State) : s.Booked (extraAdd f s) := by
  by_cases open_ : s.extrasOpen = true
  · refine .fare ?_ (extraAdd_sound f) fun settling => absurd settling (State.extrasOpen_held open_)
    unfold extraAdd
    dsimp only
    repeat' split
    all_goals simp
  · simp only [extraAdd, open_, Bool.not_false, if_true]
    exact .refused s _ f _

theorem extraRemove_booked (f : RxFrame) (s : State) : s.Booked (extraRemove f s) := by
  by_cases open_ : s.extrasOpen = true
  · refine .fare ?_ (extraRemove_sound f) fun settling => absurd settling (State.extrasOpen_held open_)
    unfold extraRemove
    dsimp only
    repeat' split
    all_goals simp
  · simp only [extraRemove, open_, Bool.not_false, if_true]
    exact .refused s _ f _

theorem fareWindow_booked (w : WindowRecord) (s : State) : s.Booked (fareWindow w s) := by
  refine .fare ?_ (fareWindow_sound w) fun settling => ?_
  · have limited : ∀ t, (report Counters.addRateLimited t).books = t.books := report_books fun _ => rfl
    unfold fareWindow
    split
    · dsimp only
      split <;> split <;> split <;> simp [limited]
    · split <;> simp
  · rw [fareWindow_record, if_neg]
    intro hired
    simp [State.held_of_meter .hired hired] at settling

/-! ### The requests of the TRC -/

/-- The start of a fare moves the fare alone. -/
theorem hireStart_books (trip index : Nat) (booked : Bool) (s : State) :
    (hireStart trip index booked s).books
      = { s.books with fare := (hireStart trip index booked s).books.fare } := by
  rw [hireStart, enqueueFareStatus_books]
  rfl

theorem hire_booked (f : RxFrame) (s : State) : s.Booked (hire f s) := by
  unfold hire
  iterate 6 (split; · exact .refused s _ f _)
  rename_i meter _ _ full top
  have was := State.held_of_meters .free .booked (not_not.1 meter)
  have hire := Books.Move.hire (b := s.books) was (by simpa [State.books, Config.maxUnsettled] using full)
    (by simpa [State.books, Config.max16] using top)
  refine State.Booked.answered ?_ _ f _
  refine (Relation.ReflTransGen.single hire).tail (b := _) ?_
  have books : (hired s).books = { s.books with
      held := .hired
      lastTrip := s.trc.lastTrip + 1
      record := some (s.trc.lastTrip + 1)
      fare := (hired s).books.fare } := by
    rw [hired, hireStart_books, setHeld_books]
    rfl
  rw [books]
  exact .fare _ (fun h => hired_sound (s := s) h) (by simp)

/-- A new held state beside the trip as it stands. -/
theorem setHeld_trip_books (h : HeldState) (s : State) (x : Trc) (last : x.lastTrip = s.trc.lastTrip)
    (record : x.record.map (·.trip) = s.trc.record.map (·.trip)) :
    (setHeld h (s.setTrc x)).books = { s.books with held := h } := by
  rw [setHeld_books]
  simp only [State.books, State.setTrc_fen, State.setTrc_trc, State.setTrc_stu, State.setTrc_sau, last, record]

theorem halted_booked {s : State} (x : HeldState) (was : s.trc.held = .hired ∨ s.trc.held = .stopped)
    (is : x = .hired ∨ x = .stopped) : s.Booked (setHeld x s) := .of_move (.halt x was is) (setHeld_books x s)

theorem stop_booked (f : RxFrame) (s : State) : s.Booked (stop f s) := by
  unfold stop
  iterate 3 (split; · exact .refused s _ f _)
  rename_i meter _
  refine State.Booked.answered
      (.of_move (.halt .stopped (.inl (State.held_of_meter .hired (not_not.1 meter))) (.inr rfl)) ?_) _ f _
  exact setHeld_trip_books _ _ _ rfl (by simp [Function.comp_def, TripRecord.stampStop])

theorem resume_booked (f : RxFrame) (s : State) : s.Booked (resume f s) := by
  unfold resume
  iterate 3 (split; · exact .refused s _ f _)
  rename_i meter _
  exact (halted_booked .hired (.inr (State.held_of_meter .stopped (not_not.1 meter))) (.inl rfl)).answered _ f _

theorem bookingAssign_booked (f : RxFrame) (s : State) : s.Booked (bookingAssign f s) := by
  unfold bookingAssign
  dsimp only
  iterate 4 (split; · exact .refused s _ f _)
  rename_i meter _
  refine State.Booked.answered
      (.of_move (.book .booked (.inl (State.held_of_meter .free (not_not.1 meter))) (.inr rfl)) ?_) _ f _
  exact setHeld_trip_books _ _ _ rfl rfl

theorem bookingCancel_booked (f : RxFrame) (s : State) : s.Booked (bookingCancel f s) := by
  unfold bookingCancel
  iterate 2 (split; · exact .refused s _ f _)
  split
  · rename_i meter _
    refine State.Booked.answered
        (.of_move (.book .free (.inr (State.held_of_meter .booked (not_not.1 meter))) (.inl rfl)) ?_) _ f _
    exact setHeld_trip_books _ _ _ rfl rfl
  · exact .refused s _ f _

/-! ### The close of a trip -/

theorem complete_files {s : State} {r : TripRecord} (hr : s.trc.record = some r) (o : TripOutcome) :
    s.books.Files (r.complete s.fen.record s.stu.tenders o) :=
  ⟨by simp [State.books, hr, TripRecord.complete], rfl, by simp [State.books, TripRecord.complete, Function.comp_def]⟩

theorem closeTrip_books {s : State} {r : TripRecord} (hr : s.trc.record = some r) (o : TripOutcome) (waived : Nat) :
    (closeTrip o waived s).books = s.books.close (r.complete s.fen.record s.stu.tenders o) waived := by
  simp [closeTrip, hr, tripCloseArrival, State.books, Books.close]
  rfl

theorem closeTrip_booked {s : State} {o : TripOutcome} {waived : Nat} (outcome : o ≠ .unsettled)
    (none : s.stu.attempt = none ∨ s.trc.held = .stopped) (covers : s.books.Covers waived) :
    s.Booked (closeTrip o waived s) := by
  cases hr : s.trc.record with
  | none =>
    rw [closeTrip, hr]
    exact .refl s
  | some r =>
    exact .of_move (.close _ waived (complete_files hr o) (none.imp_left fun h => by simp [State.books, h])
      (by simpa [TripRecord.complete] using outcome) covers) (closeTrip_books hr o waived)

theorem closeIfPaid_booked {s : State} (none : s.stu.attempt = none) : s.Booked (closeIfPaid s) := by
  unfold closeIfPaid
  split
  · rename_i paid
    refine closeTrip_booked (by simp) (.inl none) (.inr ⟨rfl, .inr ⟨?_, ?_⟩⟩)
    · simpa [State.books] using paid.1
    · simpa using paid.2
  · exact .refl s

theorem settle_booked (f : RxFrame) (s : State) : s.Booked (settle f s) := by
  unfold settle
  iterate 3 (split; · exact .refused s _ f _)
  rename_i meter _
  have was := State.held_of_meter .stopped (not_not.1 meter)
  refine State.Booked.answered ?_ _ f _
  unfold settled
  split
  · rename_i zero
    exact closeTrip_booked (by simp) (.inr was) (.inr ⟨rfl, .inl zero⟩)
  · split
    · exact .refl s
    · rename_i r hr
      refine .of_move (.settle r.trip was (by simp [State.books, hr])) ?_
      simp [openSession, State.books, settleReport, Session.figures]

theorem void_booked (f : RxFrame) (s : State) : s.Booked (void f s) := by
  unfold void
  iterate 3 (split; · exact .refused s _ f _)
  rename_i meter busy
  refine (closeTrip_booked ?_ ?_ (.inl rfl)).answered _ f _
  · split <;> simp
  · obtain stopped | settling := not_not.1 meter
    · exact .inr (State.held_of_meter .stopped stopped)
    · exact .inl (by simpa [settling] using busy)

/-! ### Tenders and attempts -/

theorem tenderCash_booked (f : RxFrame) (s : State) : s.Booked (tenderCash f s) := by
  unfold tenderCash
  dsimp only
  iterate 5 (split; · exact .refused s _ f _)
  rename_i meter busy _ _
  have none : s.stu.attempt = none := by simpa using busy
  have was := State.held_of_meter .settling (not_not.1 meter)
  refine State.Booked.answered (.trans (t := settleReport (s.setStu _)) (.of_move (.cash (min (field f.payload 0 3) s.stu.due)
    was (by simp [State.books, none]) ?_) ?_) (closeIfPaid_booked ?_)) _ f _
  · rw [State.books_due]
    exact Nat.min_le_right _ _
  · rw [settleReport_books]
    simp [State.books]
  · simpa [settleReport] using none

theorem tenderCard_booked (f : RxFrame) (s : State) : s.Booked (tenderCard f s) := by
  unfold tenderCard
  dsimp only
  iterate 8 (split; · exact .refused s _ f _)
  rename_i meter _ busy _ _ x hx _ within
  have none : s.stu.attempt = none := by simpa using busy
  have was := State.held_of_meter .settling (not_not.1 meter)
  refine State.Booked.answered (.of_move (.present x.figures
    (if field f.payload 0 3 = 0 then s.stu.due else field f.payload 0 3) was (by simp [State.books, none])
    (by simp [State.books, hx]) ?_) ?_) _ f _
  · rw [State.books_due]
    split
    · exact le_rfl
    · exact Nat.not_lt.1 within
  · simp only [openAttempt, settleReport_books, placeRequest_books]
    simp [State.books, hx, Session.figures, Attempt.figures]

theorem dropAttempt_books (e : Ending) (a : Attempt) (s : State) :
    (dropAttempt e a s).books = { s.books with attempt := none } := by
  simp [dropAttempt, abortAttemptFrames]
  rfl

theorem dropAttempt_booked (e : Ending) (a : Attempt) (s : State) : s.Booked (dropAttempt e a s) :=
  .of_move .drop (dropAttempt_books e a s)

theorem endAttempt_booked (e : Ending) (a : Attempt) (s : State) : s.Booked (endAttempt e a s) :=
  (dropAttempt_booked e a s).reported

theorem cancelQueued_booked {a : Attempt} {s : State} (ha : s.stu.attempt = some a) : s.Booked (cancelQueued a s) := by
  have requested : (s.setAttempt { a with cancelRequested := true }).books = s.books := setAttempt_books ha rfl
  unfold cancelQueued
  dsimp only
  split
  · exact endAttempt_booked _ a s
  · split
    · exact .trans (.of_eq (by simp [requested])) (endAttempt_booked _ a _)
    · exact .of_eq (by simp [requested])

theorem payCancel_booked (f : RxFrame) (s : State) : s.Booked (payCancel f s) := by
  unfold payCancel
  iterate 3 (split; · exact .refused s _ f _)
  rename_i a ha
  split
  · split
    · exact .refused s _ f _
    · exact (cancelQueued_booked ha).answered _ f _
  · exact (State.Booked.of_eq (enterCancelling_books ha)).reported.answered _ f _
  · exact (State.Booked.of_eq (enterCancelling_books ha)).reported.answered _ f _
  · exact .refused s _ f _
  · exact .refused s _ f _

theorem payRequestOutcome_booked (payload : List Byte) (o : BoxOutcome) (s : State) :
    s.Booked (payRequestOutcome payload o s) := by
  unfold payRequestOutcome
  split
  · exact .refl s
  rename_i a ha
  split
  · split
    · split
      · exact (State.Booked.of_eq (enterCancelling_books ha)).reported
      · refine (State.Booked.of_eq (setAttempt_books ha ?_)).reported
        exact rfl
    · exact endAttempt_booked _ a s
    · exact endAttempt_booked _ a s
  · exact .refl s

/-- A deferral is one move: the entry joins the list and the trip closes UNSETTLED (R84). -/
theorem deferred_booked {a : Attempt} {s : State} (ha : s.stu.attempt = some a) : s.Booked (deferred a s) := by
  have attempt : s.books.attempt = some a.figures := by simp [State.books, ha]
  have listed : (settleReport (s.setStu { s.stu with attempt := none, unsettled := s.stu.unsettled ++ [a.entry] })).books
      = { s.books with attempt := none, unsettled := s.books.unsettled ++ [a.figures] } := by
    simp [State.books, settleReport, Attempt.figures, UnsettledEntry.figures, Attempt.entry]
  unfold deferred
  cases hr : s.trc.record with
  | none =>
    refine .of_move (.adrift a.figures (by simp [State.books, hr]) attempt) ?_
    rw [← listed]
    simp [closeTrip, settleReport, hr]
  | some r =>
    refine .of_move (.defer _ a.figures (complete_files hr .unsettled) attempt rfl) ?_
    rw [State.books_due, ← listed]
    refine (closeTrip_books (by simpa [settleReport] using hr) _ _).trans ?_
    simp [settleReport, Attempt.figures]

theorem settleDefer_booked (f : RxFrame) (s : State) : s.Booked (settleDefer f s) := by
  unfold settleDefer
  iterate 2 (split; · exact .refused s _ f _)
  rename_i a ha
  split
  · exact (deferred_booked ha).answered _ f _
  · exact .refused s _ f _

theorem offerExpiry_booked (s : State) : s.Booked (offerExpiry s) := by
  unfold offerExpiry
  split
  · exact endAttempt_booked _ _ s
  · exact .refl s

/-! ### Terminal frames -/

theorem State.openAttemptOf_attempt {s : State} {trip number : Nat} {a : Attempt}
    (h : s.openAttemptOf trip number = some a) : s.stu.attempt = some a := (Option.filter_eq_some_iff.1 h).1

theorem accepted_booked {a : Attempt} {s : State} (ha : s.stu.attempt = some a) : s.Booked (accepted a s) := by
  have terminal : (s.setAttempt { a with state := .atTerminal, timer := some Config.resultTimer }).books = s.books :=
    setAttempt_books ha rfl
  unfold accepted
  split
  · dsimp only
    split
    · exact .of_eq (by simp [enterCancelling_books ha])
    · exact .of_eq (by simp [terminal])
  · exact .of_eq (by simp [terminal])
  · exact .refl s
  · exact .refl s
  · exact .refl s

theorem payAccepted_booked (f : RxFrame) (s : State) : s.Booked (payAccepted f s) := by
  unfold payAccepted
  dsimp only
  split
  · rename_i a ha
    split
    · exact .refl s
    · exact accepted_booked (State.openAttemptOf_attempt ha)
  · split
    · exact .refl s
    · exact .of_eq (stray_books s)

theorem excessReported_books (s : State) (requested approved : Nat) :
    (s.excessReported requested approved).books = s.books := by
  unfold State.excessReported
  split
  · exact report_books (g := Counters.addExcess _) (fun _ => rfl) s
  · rfl

theorem approved_booked {a : Attempt} {s : State} (ha : s.stu.attempt = some a) (amount tip : Nat) :
    s.Booked (s.approved a amount tip) := by
  refine .of_move (.approve a.figures (min amount a.requested) (by simp [State.books, ha]) (Nat.min_le_right _ _)) ?_
  simp [State.approved, abortAttemptFrames, State.books, Stu.approved]

theorem approveAttempt_booked {a : Attempt} {s : State} (ha : s.stu.attempt = some a) (amount tip : Nat) :
    s.Booked (approveAttempt a amount tip s) := by
  have attempt : (s.excessReported a.requested amount).stu.attempt = some a := by simpa using ha
  have approved := State.Booked.reported
    ((State.Booked.of_eq (excessReported_books s a.requested amount)).trans (approved_booked attempt amount tip))
  rw [approveAttempt_eq]
  split
  · exact (approved.trans (.of_eq (requestChime_books .paid _))).trans (closeIfPaid_booked (by
      simp [settleReport, State.approved, abortAttemptFrames, Stu.approved]))
  · exact approved

theorem attemptResult_booked {a : Attempt} {s : State} (ha : s.stu.attempt = some a) (outcome amount tip : Nat) :
    s.Booked (attemptResult a outcome amount tip s) := by
  unfold attemptResult
  split
  · exact approveAttempt_booked ha amount tip
  · split
    · exact endAttempt_booked _ a s
    · exact (endAttempt_booked _ a s).trans (.of_eq (requestChime_books _ _))

theorem Counters.resolve_money (c : Counters) (x : Resolution) : (c.resolve x).money = (c.money.resolve x).money := by
  unfold Counters.resolve
  split <;> rfl

/-- An entry resolved is one move (R86, R87). -/
theorem resolution_booked {e : UnsettledEntry} {x : Resolution} {s : State} (he : e ∈ s.stu.unsettled)
    (figures : (x.trip, x.requested) = e.figures) (within : x.recorded ≤ x.requested) :
    s.Booked (resolution x (dropEntry e s)) := by
  have trip : x.trip = e.trip := congrArg Prod.fst figures
  refine .of_move (.resolve x ?_ within) ?_
  · rw [figures]
    exact List.mem_map_of_mem he
  · have money := Counters.resolve_money s.sau.counters x
    simp [resolution, dropEntry, State.books, Books.resolve, money, List.eraseP_map, trip]
    rfl

theorem resolveEntry_booked {e : UnsettledEntry} {s : State} (he : e ∈ s.stu.unsettled) (ok : Bool) (approved tip : Nat) :
    s.Booked (resolveEntry e ok approved tip s) := by
  unfold resolveEntry
  dsimp only
  split
  · exact (resolution_booked he rfl (Nat.min_le_right _ _)).reported
  · exact (resolution_booked he rfl (Nat.zero_le _)).reported

theorem payResult_booked (f : RxFrame) (s : State) : s.Booked (payResult f s) := by
  unfold payResult
  dsimp only
  split
  · exact .of_eq (stray_books s)
  split
  · rename_i a ha
    split
    · exact .refl s
    · exact attemptResult_booked (State.openAttemptOf_attempt ha) _ _ _
  · split
    · rename_i e he
      exact resolveEntry_booked (List.mem_of_find?_eq_some he) _ _ _
    · exact .of_eq (stray_books s)

/-! ### The shift -/

theorem convertAll_booked (s : State) : s.Booked (convertAll s) ∧ (convertAll s).stu.unsettled = [] := by
  generalize hu : s.stu.unsettled = l
  induction l generalizing s with
  | nil =>
    rw [convertAll, hu]
    exact ⟨.refl s, hu⟩
  | cons e l ih =>
    have first : s.Booked (convertEntry e s) := by
      rw [convertEntry_eq]
      exact ((resolution_booked (x := ⟨e.trip, e.requested, false, 0, 0, 0, none⟩) (by simp [hu]) rfl
        (Nat.zero_le _)).trans (.of_eq (abortWhere_books _ _))).reported
    have rest := ih (convertEntry e s) (by rw [convertEntry_unsettled hu])
    rw [convertAll_cons hu]
    exact ⟨first.trans rest.1, rest.2⟩

theorem State.reconciled_books (terminal : Option (Nat × Nat)) (s : State) : (s.reconciled terminal).books = s.books := by
  have stage : (s.setSau { s.sau with totalsTimer := none, totalsWaits := false }).books = s.books :=
    setSau_books s _ rfl rfl rfl rfl
  refine (setSau_books (endStage2 s) _ rfl rfl rfl rfl).trans ?_
  rw [endStage2, abortWhere_books, stage]

/-- Stages 3 to 5: every entry is converted, and the shift is CLOSED. -/
theorem finishClosing_booked (terminal : Option (Nat × Nat)) {s : State} (was : s.sau.shift = .closing) :
    s.Booked (finishClosing terminal s) := by
  obtain ⟨converted, none⟩ := convertAll_booked (s.reconciled terminal)
  refine ((State.Booked.of_eq (s.reconciled_books terminal)).trans converted).trans
    (.of_move (.endClosing (convertAll (s.reconciled terminal)).sau.counters ?_ (by simp [State.books, none])) ?_)
  · simpa [State.books, convertAll_accounts, State.reconciled, endStage2] using was
  · rw [finishClosing_eq, enqueueShiftState_books, enqueueMeterState_books]
    exact setTrc_books _ _ rfl rfl rfl

theorem awaitTotals_books (s : State) : (awaitTotals s).books = s.books := by
  have staged : ∀ t : State, (t.setSau { t.sau with stage := 2 }).books = t.books := fun t =>
    setSau_books t _ rfl rfl rfl rfl
  refine (setSau_books _ _ rfl rfl rfl rfl).trans ?_
  rw [placeTotals_books, staged, queryAllEntries_books]

theorem runClosing_booked {s : State} (was : s.sau.shift = .closing) : s.Booked (runClosing s) := by
  unfold runClosing
  split
  · exact .of_eq (awaitTotals_books s)
  · exact finishClosing_booked none was

theorem shiftOpen_booked (f : RxFrame) (s : State) : s.Booked (shiftOpen f s) := by
  unfold shiftOpen
  iterate 3 (split; · exact .refused s _ f _)
  rename_i was _
  refine State.Booked.answered (.of_move (.openShift (not_not.1 was)) ?_) _ f _
  simp only [shiftOpened, enqueueShiftState_books, setHeld_books]
  rfl

theorem shiftClose_booked (f : RxFrame) (s : State) : s.Booked (shiftClose f s) := by
  unfold shiftClose
  iterate 3 (split; · exact .refused s _ f _)
  rename_i was meter
  have begun := Books.Move.beginClosing (b := s.books) (not_not.1 was) (State.held_of_meter .free (not_not.1 meter))
  have closing : ∀ {t : State}, t.books = { s.books with shift := .closing, held := .offDuty } →
      s.Booked (runClosing t) := fun ht => .trans (.of_move begun ht) (runClosing_booked (congrArg Books.shift ht))
  refine State.Booked.answered ?_ _ f _
  unfold shiftClosed
  dsimp only
  split
  · refine closing ?_
    rw [enqueueShiftState_books, setHeld_books]
    rfl
  · refine closing ?_
    rw [enqueueShiftState_books, updateLamp_books]
    rfl

theorem State.stage2Lasts_shift {s : State} (h : s.stage2Lasts = true) : s.sau.shift = .closing := by
  simp only [State.stage2Lasts, Bool.and_eq_true, beq_iff_eq] at h
  exact h.1.1

theorem terminalTotals_booked (f : RxFrame) (s : State) : s.Booked (terminalTotals f s) := by
  unfold terminalTotals
  split
  · exact finishClosing_booked _ (State.stage2Lasts_shift ‹_›)
  · exact .refl s

theorem totalsExpiry_booked (s : State) : s.Booked (totalsExpiry s) := by
  unfold totalsExpiry
  split
  · rename_i due
    exact finishClosing_booked none (State.stage2Lasts_shift due.2.1)
  · exact .refl s

/-! ### The outcomes of mailboxes -/

theorem mailboxOutcome_booked (box : Nat) (f : TxFrame) (o : BoxOutcome) (s : State) :
    s.Booked (mailboxOutcome box f o s) := by
  unfold mailboxOutcome
  cases f.owner with
  | fen => exact .of_eq (by dsimp only; split <;> rfl)
  | trc => exact .of_eq (by dsimp only; split; exacts [setTrc_books _ _ rfl rfl rfl, rfl])
  | cau => exact .of_eq (by dsimp only; split <;> rfl)
  | sau => exact .of_eq (sauOutcome_books box f o s)
  | stu =>
    dsimp only
    split
    · exact payRequestOutcome_booked _ o s
    · exact .refl s
  | alm => exact .of_eq (noticeOutcome_books s)
  | odu | rsd | cbi => exact .refl s

theorem reportAll_booked (l : List (Nat × TxFrame × BoxOutcome)) (s : State) : s.Booked (reportAll l s) := by
  unfold reportAll
  induction l generalizing s with
  | nil => exact .refl s
  | cons x l ih => exact (mailboxOutcome_booked _ _ _ s).trans (ih _)

theorem enterOffline_booked (s : State) : s.Booked (enterOffline s) :=
  .after_setCbi (reportAll_booked _ _)

theorem sentOne_booked (i : Nat) (s : State) : s.Booked (sentOne i s) :=
  .after_setCbi (mailboxOutcome_booked _ _ _ _)

theorem failedOne_booked (i : Nat) (x : TransmitFault) (s : State) : s.Booked (failedOne i x s) := by
  have offline : ∀ c : Cbi, s.Booked (enterOffline (s.setCbi c)) := fun c =>
    .after_setCbi (enterOffline_booked _)
  unfold failedOne
  dsimp only
  split
  · exact offline _
  · split <;> split
    · exact (offline _).trans (mailboxOutcome_booked _ _ _ _)
    · exact .after_setCbi (mailboxOutcome_booked _ _ _ _)
    · exact offline _
    · exact .of_eq rfl

theorem lostOne_booked (i : Nat) (s : State) : s.Booked (lostOne i s) := by
  unfold lostOne
  dsimp only
  split
  · exact .after_setCbi (mailboxOutcome_booked _ _ _ _)
  · exact .of_eq rfl

theorem endAttemptWith_booked {act : Nat → State → State} (h : ∀ i s, State.Booked s (act i s)) (idle : Nat)
    (receiving : Bool) (s : State) : s.Booked (endAttemptWith act idle receiving s) := by
  unfold endAttemptWith
  split
  · exact .refl s
  · split
    · exact .refl s
    · split
      · exact .of_eq rfl
      · exact h _ s

/-! ### Window ends, supplies and starts -/

theorem settleDue_booked (s : State) : s.Booked (settleDue s) :=
  .trans (.of_eq (by simp)) <| .trans (offerExpiry_booked (repeatExpiry (alarmEntry (secondEnd s)))) <|
    .trans (.of_eq (by simp)) <| .trans (totalsExpiry_booked (entryExpiries (queryExpiry (cancelExpiry (resultExpiry
      (offerExpiry (repeatExpiry (alarmEntry (secondEnd s))))))))) <| .of_eq (by simp [settleDue])

theorem windowEnd_booked (closed : Bool) (s : State) : s.Booked (windowEnd closed s) := by
  unfold windowEnd
  split
  · refine (settleDue_booked s).trans ?_
    generalize settleDue s = t
    refine .trans (.of_eq (setOdu_books t (t.odu.close t.hasGateway).1)) <|
      .trans (fareWindow_booked (t.odu.close t.hasGateway).2 _) <| .of_eq ?_
    simp only [windowClosed, windowRecord, dormancyTick_books, windowRetries_books, windowTimers_books,
      tripWindow_books, shiftWindow_books]
  · exact .refl s

theorem retainedOnly_booked (s : State) (main : Bool) (kind : StartKind) : s.Booked (s.retainedOnly main kind) :=
  .fare rfl (fun h => retainedOnly_sound h main kind) fun _ => rfl

theorem supplyLoss_booked (s : State) : s.Booked (supplyLoss s) := by
  unfold supplyLoss
  split
  · exact (settleDue_booked s).trans (retainedOnly_booked _ _ _)
  · exact .refl s

theorem supplyReturn_booked (s : State) : s.Booked (supplyReturn s) := by
  unfold supplyReturn
  split
  · exact .refl s
  · exact retainedOnly_booked s _ _

theorem resetPin_booked (s : State) : s.Booked (resetPin s) := by
  unfold resetPin
  split
  · exact (settleDue_booked s).trans (retainedOnly_booked _ _ _)
  · exact .refl s

theorem deliverImage_booked (img : List Byte) (s : State) : s.Booked (deliverImage img s) := by
  refine .fare rfl (fun h => ?_) fun _ => ?_
  · exact (fareSound_iff _).2 ⟨by simpa [deliverImage] using ((fareSound_iff _).1 h).1, Fen.start_tables _ _ _⟩
  · simp [deliverImage]

theorem startTrips_booked (s : State) : s.Booked (startTrips s) := by
  have gap : ∀ t, (report Counters.addPowerGap t).books = t.books := report_books fun _ => rfl
  have restricted : ∀ (t : State) (b : Bool), (t.setTrc { t.trc with restricted := b }).books = t.books := fun t b =>
    setTrc_books t _ rfl rfl rfl
  unfold startTrips
  split
  · dsimp only
    split
    · rename_i hired
      refine .of_move (.halt .stopped (.inl hired) (.inr rfl)) ?_
      rw [restricted, gap]
      simp [State.books, Function.comp_def, TripRecord.stampStop]
    · exact .of_eq (restricted s _)
  · exact .refl s

theorem startAttempt_booked (s : State) : s.Booked (startAttempt s) := by
  unfold startAttempt
  split
  · exact .refl s
  rename_i a ha
  split
  · exact dropAttempt_booked _ a s
  · exact .of_eq (enterUncertain_books ha)
  · exact .of_eq (enterUncertain_books ha)
  · exact .of_eq (enterUncertain_books ha)
  · refine .of_eq (setAttempt_books ha ?_)
    exact rfl

theorem startSettlement_booked (s : State) : s.Booked (startSettlement s) := by
  have restarted : (s.setStu { s.stu with unsettled := s.stu.unsettled.map (·.restart) }).books = s.books :=
    setStu_books _ _ rfl rfl rfl List.map_map
  unfold startSettlement
  split
  · have started := (State.Booked.of_eq restarted).trans (startAttempt_booked _)
    dsimp only
    split
    · exact started.reported
    · exact started
  · exact .of_eq (stopSettlementTimers_books s)

theorem startShift_booked (s : State) : s.Booked (startShift s) := by
  unfold startShift
  split
  · rename_i again
    have staged : (enqueueShiftState (s.setSau { s.sau with stage := 1, reconciliation := none })).books = s.books :=
      (enqueueShiftState_books _).trans (setSau_books s _ rfl rfl rfl rfl)
    exact .trans (.of_eq staged) (runClosing_booked ((congrArg Books.shift staged).trans again.2))
  · exact .of_eq (enqueueShiftState_books s)

@[simp] theorem startAlarm_books (s : State) : (startAlarm s).books = s.books := by
  unfold startAlarm
  dsimp only
  split <;> simp

theorem startBlocks_booked (s : State) : s.Booked (startBlocks s) :=
  .trans (startTrips_booked s) <| .trans (.of_eq (by simp)) <|
    .trans (startSettlement_booked (enqueueMeterState (updateLamp (startTrips s)))) <|
    .trans (startShift_booked _) <| .of_eq (by simp [startBlocks])

/-- A load completion that is taken: a cold start sets the records first. -/
theorem loadCompletion_booked (img : List Byte) (s : State) : s.Booked (loadCompletion img s)
    ∨ (s.pld.kind = .cold ∧ (coldRecords s).Booked (loadCompletion img s)) := by
  have started : ∀ t : State, t.Booked (startBlocks (deliverImage img t)) := fun t =>
    (deliverImage_booked img t).trans (startBlocks_booked _)
  unfold loadCompletion
  split
  · split
    · exact .inr ⟨‹_›, started _⟩
    · exact .inl (started s)
  · exact .inl (.refl s)

/-! ### Every frame and every command -/

theorem frameComplete_booked {d : State → State} (hd : ∀ t : State, t.Booked (d t)) (topic : Nat) (f : RxFrame) (s : State) :
    s.Booked (frameComplete topic f d s) := by
  have passed : ∀ {t}, (received s).Booked t → s.Booked t := fun h => .trans (.of_eq (received_books s)) h
  unfold frameComplete
  split
  · exact .refl s
  split
  · exact .of_eq (wakeOnEdge_books s)
  split
  · exact .refl s
  dsimp only
  split
  · exact passed (.of_eq (duplicateStation_books _))
  split
  · exact passed (.refl _)
  split
  · exact passed (hd _)
  · exact passed (.refused _ _ f _)
  · exact passed (.refl _)

end Sys2Proof.Machine

/-! 05: every command moves the books, and what follows for a step (R97, R101, R113). -/

namespace Sys2Proof.Machine

/-! ### Every command -/

/-- Every topic's delivery moves the books. -/
theorem deliver_booked (topic : Nat) (f : RxFrame) (s : State) : s.Booked (deliver topic f s) := by
  have quiet : ∀ {t : State}, t.books = s.books → s.Booked t := State.Booked.of_eq
  unfold deliver
  split
  · exact quiet (alarmAck_books f s)
  · exact quiet (alarmClear_books f s)
  · exact hire_booked f s
  · exact stop_booked f s
  · exact resume_booked f s
  · exact settle_booked f s
  · exact void_booked f s
  · exact bookingAssign_booked f s
  · exact bookingCancel_booked f s
  · exact tariffSelect_booked f s
  · exact extraAdd_booked f s
  · exact extraRemove_booked f s
  · exact tenderCash_booked f s
  · exact tenderCard_booked f s
  · exact payCancel_booked f s
  · exact settleDefer_booked f s
  · exact shiftOpen_booked f s
  · exact shiftClose_booked f s
  · exact quiet (journalRead_books f s)
  · exact quiet (summaryRead_books f s)
  · exact quiet (talkPress_books f s)
  · exact quiet (talkRelease_books f s)
  · exact quiet (callPress_books f s)
  · exact quiet (callRelease_books f s)
  · exact quiet (signTest_books f s)
  · exact quiet (signWrite_books f s)
  · exact quiet (statusRead_books f s)
  · exact quiet (clockSet_books f s)
  · exact payAccepted_booked f s
  · exact payResult_booked f s
  · exact quiet (payReference_books f s)
  · exact terminalTotals_booked f s
  · exact quiet (setOdu_books s _)
  · exact .refl s

/-- A command with a frame of topic `topic` is the delivery of that topic. -/
theorem frame_booked (topic : Nat) (f : RxFrame) (s : State) :
    s.Booked (frameComplete topic f (deliver topic f) s) := frameComplete_booked (deliver_booked topic f) topic f s

/-- Every command but a load completion moves the books, by the rows of the table. -/
theorem exec_booked (c : Instr) {s t : State} (other : ∀ img, c ≠ .loadCompletion img) (he : exec c s = .next t) :
    s.Booked t := by
  have quiet : ∀ {u : State}, u.books = s.books → s.Booked u := State.Booked.of_eq
  cases c <;> obtain ⟨rfl⟩ := he
  case wheelInputChange l x => exact quiet (wheelInput_books l x s)
  case filterWidthElapsed l => exact quiet (filterElapsed_books l s)
  case windowEnd x => exact windowEnd_booked x s
  case secondEnd => exact quiet (secondEnd_books s)
  case retainedSecondsTick => exact quiet (retainedTick_books s)
  case alarmEntry => exact quiet (alarmEntry_books s)
  case repeatTimerExpiry => exact quiet (repeatExpiry_books s)
  case alarmAck f => exact frame_booked 2 f s
  case alarmClear f => exact frame_booked 3 f s
  case hire f => exact frame_booked 32 f s
  case stop f => exact frame_booked 33 f s
  case resume f => exact frame_booked 34 f s
  case settle f => exact frame_booked 35 f s
  case void f => exact frame_booked 36 f s
  case bookingAssign f => exact frame_booked 38 f s
  case bookingCancel f => exact frame_booked 39 f s
  case tariffSelect f => exact frame_booked 40 f s
  case extraAdd f => exact frame_booked 41 f s
  case extraRemove f => exact frame_booked 42 f s
  case tenderCash f => exact frame_booked 44 f s
  case tenderCard f => exact frame_booked 45 f s
  case payCancel f => exact frame_booked 46 f s
  case settleDefer f => exact frame_booked 47 f s
  case payAccepted f => exact frame_booked 64 f s
  case payResult f => exact frame_booked 65 f s
  case payReference f => exact frame_booked 66 f s
  case offerTimerExpiry => exact offerExpiry_booked s
  case resultTimerExpiry => exact quiet (resultExpiry_books s)
  case cancelTimerExpiry => exact quiet (cancelExpiry_books s)
  case queryTimerExpiry => exact quiet (queryExpiry_books s)
  case entryQueryTimerExpiry trip => exact quiet (entryExpiry_books _ s)
  case shiftOpen f => exact frame_booked 48 f s
  case shiftClose f => exact frame_booked 49 f s
  case terminalTotals f => exact frame_booked 68 f s
  case totalsTimerExpiry => exact totalsExpiry_booked s
  case journalRead f => exact frame_booked 50 f s
  case summaryRead f => exact frame_booked 51 f s
  case talkPress f => exact frame_booked 52 f s
  case talkRelease f => exact frame_booked 53 f s
  case callPress f => exact frame_booked 54 f s
  case callRelease f => exact frame_booked 55 f s
  case signTest f => exact frame_booked 56 f s
  case lampTestEnd => exact quiet (lampTestEnd_books s)
  case signWrite f => exact frame_booked 57 f s
  case refreshPass => exact quiet (refreshPass_books s)
  case scrollStep => exact quiet (scrollStep_books s)
  case samplePeriod x y z => exact quiet (samplePeriod_books x y z s)
  case slotEnd => exact quiet (slotEnd_books s)
  case chimeEnd => exact quiet (chimeEnd_books s)
  case statusRead f => exact frame_booked 58 f s
  case clockSet f => exact frame_booked 59 f s
  case vehicleState f => exact frame_booked 72 f s
  case receiveFault x => exact quiet (receiveFault_books x s)
  case unmatchedFrame topic f => exact frame_booked _ f s
  case ownNumberFrame topic cls payload => exact frame_booked _ (s.ownFrame cls payload) s
  case transmitAttempt => exact quiet (transmitAttempt_books s)
  case attemptSucceeded => exact endAttemptWith_booked sentOne_booked _ _ s
  case attemptFailed x => exact endAttemptWith_booked (failedOne_booked · x) _ _ s
  case arbitrationLost => exact endAttemptWith_booked lostOne_booked _ _ s
  case offlineRecovery => exact quiet (offlineRecovery_books s)
  case listenPhaseEnd => exact quiet (listenEnd_books s)
  case dormancyEntry => exact quiet (dormancyEntry_books s)
  case wakeByLine => exact quiet (wakeOnEdge_books s)
  case mainSupplyLoss => exact supplyLoss_booked s
  case backupSupplyFail => exact quiet (backupFail_books s)
  case mainSupplyReturn => exact supplyReturn_booked s
  case resetPin => exact resetPin_booked s
  case loadCompletion img => exact absurd rfl (other img)
  case lineIdle => exact quiet (lineIdle_books s)
  case startMark => exact quiet (startMark_books s)

/-- A step moves the books, or it is the load completion of a cold start, which first sets them anew. -/
theorem step_booked {s t : State} (h : step s = .next t) : s.Booked t
    ∨ ((∃ img rest, s.pending = .loadCompletion img :: rest ∧ s.pld.kind = .cold)
      ∧ ∃ rest, (coldRecords (s.setPending rest)).Booked t) := by
  unfold step at h
  split at h
  · obtain ⟨rfl⟩ := h
    exact .inl (.refl s)
  · rename_i c rest front
    by_cases load : ∃ img, c = .loadCompletion img
    · obtain ⟨img, rfl⟩ := load
      obtain ⟨rfl⟩ := h
      obtain warm | ⟨cold, moved⟩ := loadCompletion_booked img (s.setPending rest)
      · exact .inl warm
      · exact .inr ⟨⟨img, rest, front, cold⟩, rest, moved⟩
    · exact .inl (exec_booked c (s := s.setPending rest) (fun img hc => load ⟨img, hc⟩) h)

/-! ### The records of a cold start (R194) -/

theorem coldRecords_ledger (s : State) : LedgerSound (coldRecords s) := by
  refine ⟨⟨?_, ?_, ?_, ?_, ?_, ?_⟩, ?_, ?_, ?_, ?_, ?_, ?_, ?_⟩ <;>
    simp [coldRecords, Trc.initial, Stu.initial, Sau.initial, HeldState.meter, MeterState.inTrip]

theorem coldRecords_fare {s : State} (h : FareSound s.fen) : FareSound (coldRecords s).fen :=
  h.of_record FareRecord.empty_balanced rfl rfl

theorem coldRecords_money (s : State) : MoneySound (coldRecords s) := by
  refine ⟨rfl, ?_, ?_, ?_, ?_, ?_, ?_, ?_⟩ <;>
    simp [coldRecords, Trc.initial, Stu.initial, Sau.initial, Counters.zero]

theorem coldRecords_lifetime (s : State) : LifetimeInRange (coldRecords s).sau.lifetime := by
  simp [coldRecords, Sau.initial, LifetimeInRange]

/-! ### The statements -/

/-- Every step keeps the ledger sound. -/
theorem step_ledger {s t : State} (h : LedgerSound s) (hs : step s = .next t) : LedgerSound t := by
  obtain moved | ⟨-, rest, moved⟩ := step_booked hs
  · exact moved.ledger h
  · exact moved.ledger (coldRecords_ledger _)

/-- Settles O36: every move of the books keeps their ledger, and so does a cold start. -/
theorem stepKeepsLedgerSound : Obligations.StepKeepsLedgerSound := by
  unfold Obligations.StepKeepsLedgerSound
  exact fun s t h hs => step_ledger h hs

/-- Every step keeps the money sound, where the fare and the ledger are. -/
theorem step_money {s t : State} (fare : FareSound s.fen) (ledger : LedgerSound s) (h : MoneySound s)
    (hs : step s = .next t) : MoneySound t := by
  obtain moved | ⟨-, rest, moved⟩ := step_booked hs
  · exact moved.money fare ledger h
  · exact moved.money (coldRecords_fare fare) (coldRecords_ledger _) (coldRecords_money _)

/-- With the list empty, as in CLOSED, nothing is outstanding. -/
theorem outstanding_of_closed {s : State} (ledger : LedgerSound s) (h : MoneySound s) (closed : s.sau.shift = .closed) :
    s.sau.counters.outstanding = 0 := by
  have empty := ((ledgerSound_iff s).1 ledger).closed closed
  have unsettled : s.stu.unsettled = [] := by simpa [State.books] using empty
  rw [h.2.1, unsettled]
  rfl

theorem addTrip_eq (c : Counters) (r : TripRecord) (waived : Nat) {sum : TenderKind → (Tender → Nat) → Nat}
    (hsum : sum = fun k g => ((r.tenders.filter (·.kind == k)).map g).sum) : c.addTrip r waived = { c with
      tripsClosed := min (c.tripsClosed + 1) 65535
      paid := if r.outcome = some .paid then min (c.paid + 1) 65535 else c.paid
      waivedCount := if r.outcome = some .waived then min (c.waivedCount + 1) 65535 else c.waivedCount
      partWaivedCount :=
        if r.outcome = some .partWaived then min (c.partWaivedCount + 1) 65535 else c.partWaivedCount
      unsettledCount :=
        if r.outcome = some .unsettled then min (c.unsettledCount + 1) 65535 else c.unsettledCount
      fareTotals := min (c.fareTotals + r.total) 281474976710655
      meteredSum := min (c.meteredSum + r.metered) 281474976710655
      extrasSum := min (c.extrasSum + (r.extras.map (·.amount)).sum) 281474976710655
      bookingFees := min (c.bookingFees + r.bookingFee) 281474976710655
      cash := min (c.cash + sum .cash (·.amount)) 281474976710655
      cashTips := min (c.cashTips + sum .cash (·.tip)) 281474976710655
      card := min (c.card + sum .card (·.amount)) 281474976710655
      cardTips := min (c.cardTips + sum .card (·.tip)) 281474976710655
      cardApprovals := min (c.cardApprovals + sum .card (fun _ => 1)) 16777215
      waived := min (c.waived + waived) 281474976710655
      outstanding := if r.outcome = some .unsettled
        then min (c.outstanding + (r.total - (r.tenders.map (·.amount)).sum - waived)) 281474976710655
        else c.outstanding } := by
  have approvals : (r.tenders.filter (·.kind == .card)).length = sum .card fun _ => 1 := by
    simp [hsum]
  unfold Counters.addTrip
  rw [approvals, hsum]
  rfl

theorem resolve_approved (c : Counters) {x : Resolution} (h : x.approved = true) : c.resolve x = { c with
    outstanding := c.outstanding - x.requested
    card := min (c.card + x.recorded) 281474976710655
    cardTips := min (c.cardTips + x.tip) 281474976710655
    cardApprovals := min (c.cardApprovals + 1) 16777215
    unpaid := min (c.unpaid + (x.requested - x.recorded)) 281474976710655
    terminalExcess := min (c.terminalExcess + x.excess) 281474976710655
    unsettledCount := c.unsettledCount - 1
    paid := min (c.paid + 1) 65535
    lateSettled := min (c.lateSettled + 1) 65535 } := if_pos h

theorem resolve_unpaid (c : Counters) {x : Resolution} (h : x.approved = false) : c.resolve x = { c with
    outstanding := c.outstanding - x.requested
    unpaid := min (c.unpaid + x.requested) 281474976710655
    unsettledCount := c.unsettledCount - 1
    unpaidCount := min (c.unpaidCount + 1) 65535 } := if_neg (by simp [h])

/-- Settles O35: the sums are those of the counters' own definitions, and every move of the books keeps their balance. -/
theorem moneyStaysBalanced : Obligations.MoneyStaysBalanced := by
  unfold Obligations.MoneyStaysBalanced
  refine ⟨fun c r waived => Counters.addTrip_balanced, fun c x => Counters.resolve_balanced,
    fun c r waived sum => addTrip_eq c r waived, fun c x => ⟨resolve_approved c, resolve_unpaid c⟩, fun l c => rfl, ?_⟩
  intro s t fare ledger h hs
  have money := step_money fare ledger h hs
  exact ⟨money, outstanding_of_closed (step_ledger ledger hs) money⟩

/-- Settles O37: a move of the books keeps the totalizers or adds to them; a cold start sets them to 0. -/
theorem lifetimeTotalsNeverFall : Obligations.LifetimeTotalsNeverFall := by
  unfold Obligations.LifetimeTotalsNeverFall
  intro s t h hs
  obtain moved | ⟨⟨img, rest, front, cold⟩, kept, moved⟩ := step_booked hs
  · obtain ⟨range, le⟩ := moved.lifetime h
    exact ⟨range, fun _ => le⟩
  · refine ⟨(moved.lifetime (coldRecords_lifetime _)).1, fun warm => ?_⟩
    exact absurd (cold.symm.trans (warm img rest front)) (by simp)

/-- Settles O34: what the append keeps, and which record a full journal loses. -/
theorem journalKeepsItsLimit : Obligations.JournalKeepsItsLimit := by
  unfold Obligations.JournalKeepsItsLimit
  intro j r limit removable
  obtain ⟨kept, append, -, unsettled⟩ := journalAppend_eq j r
  refine ⟨journalAppend_limit r limit removable, ?_, fun x hx outcome => ?_, journalAppend_room r,
    fun front x back hj full hx hf => journalAppend_full r hj full hx hf⟩
  · rw [append, List.getLast?_concat]
  · rw [append]
    exact List.mem_append_left _ (unsettled x hx outcome)

end Sys2Proof.Machine

/-! 05: the answers to JOURNAL_READ and SUMMARY_READ (R104 to R106). -/

namespace Sys2Proof.Machine

/-! ### The answer of a kind -/

@[simp] theorem Sau.answerOf_setAnswer (x : Sau) (k : AnswerKind) (a : Option Answer) :
    (x.setAnswer k a).answerOf k = a := by
  cases k <;> rfl

@[simp] theorem Sau.setAnswer_setAnswer (x : Sau) (k : AnswerKind) (a b : Option Answer) :
    (x.setAnswer k a).setAnswer k b = x.setAnswer k b := by
  cases k <;> rfl

/-! ### A part is enqueued -/

/-- The state in which the part an answer stands at was enqueued, and its mailbox noted where one took it. -/
def State.withPart (s : State) (k : AnswerKind) (a : Answer) : State :=
  (s.setCbi (s.cbi.enqueue (k.partFrame a)).1).setSau (s.sau.setAnswer k (some { a with box := s.cbi.firstEmpty }))

theorem placePart_awake {s : State} {k : AnswerKind} {a : Answer} (hd : s.cbi.dormant = false)
    (ha : s.sau.answerOf k = some a) : placePart k s = s.withPart k a := by
  have event := s.cbi.enqueue_event (k.partFrame_routed a) rfl
  have placed : placePart k s = (enqueue s (k.partFrame a)).1.setSau
      (s.sau.setAnswer k (some { a with box := (enqueue s (k.partFrame a)).2 })) := by
    simp [placePart, ha, AnswerKind.partFrame]
  rw [placed, enqueue_eq _ hd, event]
  rfl

/-- An EMPTY mailbox takes the part (R106). -/
theorem State.withPart_carries {s : State} (k : AnswerKind) (a : Answer) (he : s.cbi.firstEmpty.isSome = true)
    (hl : s.cbi.boxes.length = 8) : (s.withPart k a).cbi.carries k.topic a.payload := by
  have event := s.cbi.enqueue_event (k.partFrame_routed a) rfl
  exact (s.cbi.enqueue_enqueued (k.partFrame_routed a) hl).1 (event ▸ he)

theorem State.withPart_only (s : State) (k : AnswerKind) (a : Answer) :
    s.cbi.onlyMailboxes (s.withPart k a).cbi := s.cbi.enqueue_only _

/-- The abort of a discarded part touches mailboxes alone. -/
theorem abortPart_eq (k : AnswerKind) (s : State) :
    ∃ c, abortPart k s = s.setCbi c ∧ s.cbi.onlyMailboxes c := by
  unfold abortPart
  split
  · exact ⟨_, rfl, s.cbi.abortBox_only _ _⟩
  · exact ⟨s.cbi, rfl, s.cbi.onlyMailboxes_refl⟩

/-- A new answer stands at part 1 of its copy; besides it mailboxes alone change. -/
theorem startAnswer_awake {s : State} (k : AnswerKind) (number : Nat) (bytes : List Byte)
    (hd : s.cbi.dormant = false) : ∃ c box, s.cbi.onlyMailboxes c
      ∧ startAnswer k number bytes s
        = (s.setCbi c).setSau (s.sau.setAnswer k (some ⟨number, bytes, 1, box⟩)) := by
  obtain ⟨c, aborted, only⟩ := abortPart_eq k s
  have hc : c.dormant = false := (Cbi.onlyMailboxes_dormant only).trans hd
  refine ⟨_, c.firstEmpty, Cbi.onlyMailboxes_trans only (c.enqueue_only (k.partFrame ⟨number, bytes, 1, none⟩)), ?_⟩
  unfold startAnswer
  rw [aborted, placePart_awake hc (Sau.answerOf_setAnswer ..)]
  simp only [State.withPart, State.setSau_sau, Sau.setAnswer_setAnswer]
  rfl

/-! ### A read (R104, R105) -/

/-- A read that is answered DONE and begins its answer leaves of the state what is neither a mailbox nor that answer. -/
theorem startAnswer_answer_received {s : State} {topic : Nat} {f : RxFrame} (hd : s.delivers topic f = true)
    (k : AnswerKind) (number : Nat) (bytes : List Byte) :
    ∃ u box, u = startAnswer k number bytes (answer topic f .done (received s))
      ∧ u.sau = s.sau.setAnswer k (some ⟨number, bytes, 1, box⟩)
      ∧ (received s).cbi.onlyMailboxes u.cbi ∧ u = { s with sau := u.sau, cbi := u.cbi } := by
  have awake := State.delivers_awake hd
  obtain ⟨c, answered, only⟩ := answer_awake topic f .done awake
  have hc : c.dormant = false := (Cbi.onlyMailboxes_dormant only).trans awake
  obtain ⟨d, box, started, begun⟩ := startAnswer_awake (s := (received s).setCbi c) k number bytes hc
  obtain ⟨e, footing, -⟩ := received_eq s
  refine ⟨_, box, rfl, ?_⟩
  rw [answered, begun]
  refine ⟨?_, Cbi.onlyMailboxes_trans only started, ?_⟩
  · rw [footing]; rfl
  · rw [footing]; rfl

theorem exec_journalRead {s : State} {f : RxFrame} (hd : s.delivers 50 f = true) :
    exec (.journalRead f) s = .next (journalRead f (received s)) :=
  congrArg Host.Outcome.next (frameComplete_delivers (journalRead f) hd)

theorem exec_summaryRead {s : State} {f : RxFrame} (hd : s.delivers 51 f = true) :
    exec (.summaryRead f) s = .next (summaryRead f (received s)) :=
  congrArg Host.Outcome.next (frameComplete_delivers (summaryRead f) hd)

/-- The record a JOURNAL_READ names: index 0 is the newest, the last of the journal (R104). -/
theorem journalRead_of_record {s : State} {f : RxFrame} {b : Byte} {front back : List TripRecord} {r : TripRecord}
    (hp : f.payload = [b]) (hj : s.sau.journal = front ++ r :: back) (hb : back.length = b.toNat) :
    journalRead f s = startAnswer .journal r.trip r.bytes (answer 50 f .done s) := by
  have named : s.sau.journal.reverse[field f.payload 0 1]? = some r := by
    rw [hp, field_one rfl, hj, ← hb]
    simp
  unfold journalRead
  rw [named]
  rfl

theorem journalRead_of_absent {s : State} {f : RxFrame} {b : Byte} (hp : f.payload = [b])
    (h : s.sau.journal.length ≤ b.toNat) : journalRead f s = answer 50 f .refusedAbsent s := by
  have absent : s.sau.journal.reverse[field f.payload 0 1]? = none := by
    rw [hp, field_one rfl]
    simpa using h
  unfold journalRead
  rw [absent]
  rfl

/-! ### The outcome of a part (R106) -/

theorem mailboxOutcome_part {f : TxFrame} {k : AnswerKind} (ho : f.owner = .sau) (ht : f.topic = k.topic) (i : Nat)
    (o : BoxOutcome) (s : State) : mailboxOutcome i f o s = partOutcome k i o s := by
  cases k with
  | journal => simp [mailboxOutcome, ho, sauOutcome, ht, AnswerKind.topic, Topic.journalPart, Topic.shiftState]
  | summary =>
    simp [mailboxOutcome, ho, sauOutcome, ht, AnswerKind.topic, Topic.summaryPart, Topic.journalPart, Topic.shiftState]

section
variable {s : State} {k : AnswerKind} {a : Answer} {i : Nat}

theorem partOutcome_sent_more (hd : s.cbi.dormant = false) (ha : s.sau.answerOf k = some a) (hb : a.box = some i)
    (more : a.part < partCount a.bytes) :
    partOutcome k i .sent s = s.withPart k { a with part := a.part + 1 } := by
  have next := placePart_awake (s := s.setSau (s.sau.setAnswer k (some { a with part := a.part + 1, box := none })))
    (k := k) hd (Sau.answerOf_setAnswer ..)
  simp only [partOutcome, ha, hb, if_true, more, next]
  simp only [State.withPart, State.setSau_sau, Sau.setAnswer_setAnswer]
  rfl

theorem partOutcome_sent_last (ha : s.sau.answerOf k = some a) (hb : a.box = some i)
    (last : partCount a.bytes ≤ a.part) : partOutcome k i .sent s = s.setSau (s.sau.setAnswer k none) := by
  simp [partOutcome, ha, hb, Nat.not_lt.2 last]

theorem partOutcome_failed (ha : s.sau.answerOf k = some a) (hb : a.box = some i) :
    partOutcome k i .failed s = s.setSau (s.sau.setAnswer k none) := by
  simp [partOutcome, ha, hb]

theorem partOutcome_other (ha : s.sau.answerOf k = some a) (hb : a.box ≠ some i) (o : BoxOutcome) :
    partOutcome k i o s = s := by
  simp [partOutcome, ha, hb]

end

/-- Settles O32: both reads are a start of an answer after the result, and the owner of a part is its own kind of answer. -/
theorem readsBeginAnAnswer : Obligations.ReadsBeginAnAnswer := by
  unfold Obligations.ReadsBeginAnAnswer
  refine ⟨fun s f b hd hp => ⟨fun absent => ?_, fun front r back hj hb => ?_⟩, fun s f x hd hx => ?_,
    fun s i f topic put a hd ho ht kind => ?_⟩
  · rw [exec_journalRead hd, journalRead_of_absent hp (by simpa using absent)]
  · obtain ⟨u, box, hu, after⟩ := startAnswer_answer_received hd .journal r.trip r.bytes
    refine ⟨u, box, ?_, hu, after⟩
    rw [exec_journalRead hd, journalRead_of_record hp (by simpa using hj) hb, hu]
  · obtain ⟨u, box, hu, after⟩ := startAnswer_answer_received hd .summary x.number (summaryBytes x s.sau.lifetime)
    have live : (received s).sau.liveSummary = x := by rw [hx]; simp [Sau.liveSummary]
    refine ⟨u, box, ?_, hu, after⟩
    rw [exec_summaryRead hd, hu, summaryRead, live]
    simp [Topic.summaryRead]
  · obtain ⟨k, hk, ha, rfl⟩ : ∃ k : AnswerKind, topic = k.topic ∧ s.sau.answerOf k = some a
        ∧ put = s.sau.setAnswer k := by
      obtain ⟨ht, ha, hput⟩ | ⟨ht, ha, hput⟩ := kind
      · exact ⟨.journal, ht, ha, hput⟩
      · exact ⟨.summary, ht, ha, hput⟩
    have owner := mailboxOutcome_part ho (ht.trans hk) i (s := s)
    refine ⟨fun hb more => ?_, fun hb last => ?_, fun hb => ?_, fun o hb => ?_⟩
    · refine ⟨_, (owner .sent).trans (partOutcome_sent_more hd ha hb more), rfl, fun he hl => ?_,
        s.withPart_only .., rfl⟩
      exact hk ▸ State.withPart_carries k { a with part := a.part + 1 } he hl
    · rw [owner, partOutcome_sent_last ha hb last]
    · rw [owner, partOutcome_failed ha hb]
    · rw [owner, partOutcome_other ha hb]

end Sys2Proof.Machine

/-! 06: what the FREE lamp and the legend hang on, through the operations the blocks share (R118, R119, R126). -/

namespace Sys2Proof.Machine

/-! ### What the sign keeps between starts -/

/-- What a start alone sets: the image and the supply, and what the sign has of them. -/
structure SignBase where
  pld : Pld
  supply : Supply
  legendPages : List (List Nat)
  map : LegendMap
  mirror : Bool
  scrollStep : Nat

def State.signBase (s : State) : SignBase :=
  ⟨s.pld, s.supply, s.rsd.legendPages, s.rsd.map, s.rsd.mirror, s.rsd.scrollStep⟩

/-- Between two states no start has come, and an INOPERATIVE reason has not gone. -/
def State.SameSign (s t : State) : Prop :=
  t.signBase = s.signBase ∧ (s.trc.reason ≠ .none → t.trc.reason ≠ .none)

/-- The FREE lamp shows its condition (R126). -/
def State.LampTrue (s : State) : Prop := s.rsd.freeLamp = s.freeLampOf

/-- Between two states no start has come, and a lamp that showed its condition still does. -/
def State.Signed (s t : State) : Prop := s.SameSign t ∧ (s.LampTrue → t.LampTrue)

variable {s t : State}

theorem State.SameSign.refl (s : State) : s.SameSign s := ⟨rfl, id⟩

theorem State.SameSign.trans {u : State} (h : s.SameSign t) (g : t.SameSign u) : s.SameSign u :=
  ⟨g.1.trans h.1, g.2 ∘ h.2⟩

theorem State.Signed.refl (s : State) : s.Signed s := ⟨.refl s, id⟩

theorem State.Signed.trans {u : State} (h : s.Signed t) (g : t.Signed u) : s.Signed u := ⟨h.1.trans g.1, g.2 ∘ h.2⟩

/-- Of the interface the lamp reads the dormancy alone. -/
theorem State.Signed.setCbi {c : Cbi} (h : s.Signed t) (hd : c.dormant = t.cbi.dormant) : s.Signed (t.setCbi c) := by
  refine ⟨h.1, fun lamp => (h.2 lamp).trans ?_⟩
  simp only [State.freeLampOf, State.setCbi_cbi, hd]
  rfl

/-- Whatever the lamp showed, it shows its condition when it is set again. -/
theorem updateLamp_signed (h : s.SameSign t) : s.Signed (updateLamp t) := ⟨h, fun _ => rfl⟩

/-! ### Shared operations -/

theorem wake_signed (h : s.Signed t) : s.Signed (wake t) := by
  unfold wake
  split
  · exact updateLamp_signed (t := t.setCbi _) h.1
  · exact h

theorem enqueue_signed {f : TxFrame} (h : s.Signed t) : s.Signed (enqueue t f).1 := by
  have taken : s.Signed (t.setCbi (t.cbi.enqueue f).1) := h.setCbi (Cbi.enqueue_dormant _ f)
  unfold enqueue
  dsimp only
  split
  · exact wake_signed taken
  · exact taken

theorem enqueueCounted_signed {f : TxFrame} (h : s.Signed t) : s.Signed (enqueueCounted t f) := by
  unfold enqueueCounted
  dsimp only
  split <;> exact enqueue_signed h

theorem answer_signed {topic : Nat} {f : RxFrame} {code : ResultCode} (h : s.Signed t) :
    s.Signed (answer topic f code t) := enqueueCounted_signed h

theorem settleReport_signed (h : s.Signed t) : s.Signed (settleReport t) := enqueueCounted_signed h

theorem enqueueMeterState_signed (h : s.Signed t) : s.Signed (enqueueMeterState t) := by
  unfold enqueueMeterState
  dsimp only
  split <;> exact enqueue_signed h

theorem enqueueTalkState_signed (h : s.Signed t) : s.Signed (enqueueTalkState t) := enqueue_signed h

theorem enqueueShiftState_signed (h : s.Signed t) : s.Signed (enqueueShiftState t) := enqueue_signed h

theorem enqueueFareStatus_signed (h : s.Signed t) : s.Signed (enqueueFareStatus t) := by
  unfold enqueueFareStatus
  dsimp only
  split <;> exact enqueue_signed h

theorem setRouting_signed (h : s.Signed t) : s.Signed (setRouting t) := h

theorem changeFloor_signed {x : Floor} {w : Bool} (h : s.Signed t) : s.Signed (changeFloor x w t) := by
  unfold changeFloor
  split
  · exact h
  · exact enqueueTalkState_signed (setRouting_signed (t := t.setCau _) h)

theorem clearFloor_signed (h : s.Signed t) : s.Signed (clearFloor t) := changeFloor_signed (t := t.setCau _) h

theorem requestChime_signed {k : ChimeKind} (h : s.Signed t) : s.Signed (requestChime k t) := by
  unfold requestChime
  split
  · exact h
  · split <;> exact h

theorem report_signed {g : Counters → Counters} (h : s.Signed t) : s.Signed (report g t) := by
  unfold report
  split <;> exact h

/-- A change of the meter state sets the lamp again. -/
theorem meterChanged_signed {old : MeterState} (h : s.SameSign t) : s.Signed (meterChanged old t) := by
  have relit := updateLamp_signed (h.trans (enqueueMeterState_signed (.refl t)).1)
  unfold meterChanged
  dsimp only
  split
  · split <;> exact clearFloor_signed relit
  · exact relit

theorem setHeld_signed {x : HeldState} (h : s.Signed t) : s.Signed (setHeld x t) :=
  meterChanged_signed (t := t.setTrc _) h.1

/-- The lamp test's end sets the lamp again. -/
theorem endLampTest_signed (h : s.Signed t) : s.Signed (endLampTest t) := updateLamp_signed (t := t.setRsd _) h.1

/-! ### Reception -/

theorem offlineRecovery_signed (h : s.Signed t) : s.Signed (offlineRecovery t) := by
  unfold offlineRecovery
  split <;> exact h

theorem lineIdle_signed (h : s.Signed t) : s.Signed (lineIdle t) := by
  unfold lineIdle
  split
  · exact offlineRecovery_signed h
  · exact h

theorem endReception_signed {idle : Nat} {ack : Bool} (h : s.Signed t) : s.Signed (endReception idle ack t) := by
  unfold endReception impliedIdle
  dsimp only
  split
  · exact offlineRecovery_signed (lineIdle_signed h)
  · exact h

theorem wakeOnEdge_signed (h : s.Signed t) : s.Signed (wakeOnEdge t) := by
  unfold wakeOnEdge
  split
  · exact wake_signed h
  · exact h

/-- DUPLICATE_STATION is a reason as well. -/
theorem duplicateStation_signed (h : s.Signed t) : s.Signed (duplicateStation t) := by
  unfold duplicateStation
  dsimp only
  split
  · exact h
  · exact meterChanged_signed (t := stopSettlementTimers _) ⟨h.1.1, fun _ => by simp [stopSettlementTimers]⟩

theorem frameComplete_signed {topic : Nat} {f : RxFrame} {d : State → State} (hd : ∀ {u}, s.Signed u → s.Signed (d u))
    (h : s.Signed t) : s.Signed (frameComplete topic f d t) := by
  have passed : s.Signed (received t) := endReception_signed h
  unfold frameComplete
  split
  · exact h
  split
  · exact wakeOnEdge_signed h
  split
  · exact h
  dsimp only
  split
  · exact duplicateStation_signed passed
  split
  · exact passed
  split
  · exact hd passed
  · exact answer_signed passed
  · exact passed

theorem receiveFault_signed {x : ReceiveFault} (h : s.Signed t) : s.Signed (receiveFault x t) := by
  unfold receiveFault
  split
  · exact h
  split
  · exact wakeOnEdge_signed h
  split
  · exact (endReception_signed h).setCbi rfl
  · exact h

theorem startMark_signed (h : s.Signed t) : s.Signed (startMark t) := by
  unfold startMark
  split
  · exact h
  split
  · exact wakeOnEdge_signed h
  split
  · exact h
  · split <;> exact h

end Sys2Proof.Machine

/-! 06: every operation of the blocks keeps what the FREE lamp and the legend hang on (R118, R119, R126). -/

namespace Sys2Proof.Machine

variable {s t : State} {f : RxFrame}

/-! ### CAU, RSD, ODU and ALM -/

theorem giveUpFloor_signed (h : s.Signed t) : s.Signed (giveUpFloor t) := by
  unfold giveUpFloor
  split <;> exact changeFloor_signed h

theorem floorRequest_signed {topic : Nat} {act : State → State} (ha : s.Signed (act t)) (h : s.Signed t) :
    s.Signed (floorRequest topic f act t) := by
  unfold floorRequest
  split
  · exact answer_signed h
  · split
    · exact answer_signed h
    · exact answer_signed ha

theorem talkPress_signed (h : s.Signed t) : s.Signed (talkPress f t) := by
  refine floorRequest_signed ?_ h
  unfold talkPressed
  dsimp only
  split
  · exact changeFloor_signed (t := t.setCau _) h
  · exact changeFloor_signed (t := t.setCau _) h
  · exact h

theorem talkRelease_signed (h : s.Signed t) : s.Signed (talkRelease f t) := by
  refine floorRequest_signed ?_ h
  unfold talkReleased
  dsimp only
  split
  · exact giveUpFloor_signed (t := t.setCau _) h
  · exact h

theorem callPress_signed (h : s.Signed t) : s.Signed (callPress f t) := by
  refine floorRequest_signed ?_ h
  unfold callPressed
  dsimp only
  split
  · exact changeFloor_signed (t := t.setCau _) h
  · split
    · exact h
    · exact requestChime_signed (changeFloor_signed (t := t.setCau _) h)
  · exact h

theorem callRelease_signed (h : s.Signed t) : s.Signed (callRelease f t) := by
  refine floorRequest_signed ?_ h
  unfold callReleased
  dsimp only
  split
  · exact changeFloor_signed (t := t.setCau _) h
  · split
    · exact h
    · exact changeFloor_signed (t := t.setCau _) h
  · exact h

theorem voxAction_signed {slot : Nat} {before : SourceLevel} (h : s.Signed t) : s.Signed (voxAction slot before t) := by
  unfold voxAction
  dsimp only
  split
  · split <;> split
    · exact changeFloor_signed h
    · exact h
    · exact giveUpFloor_signed h
    · exact h
  · exact h

theorem slotEnd_signed (h : s.Signed t) : s.Signed (slotEnd t) := by
  unfold slotEnd
  split
  · split
    · dsimp only
      split
      · exact h
      · exact voxAction_signed (t := setRouting (t.setCau _)) h
    · exact h
  · exact h

theorem chimeEnd_signed (h : s.Signed t) : s.Signed (chimeEnd t) := by
  unfold chimeEnd
  split
  · split <;> exact h
  · exact h

theorem samplePeriod_signed {front rear radio : Sample} (h : s.Signed t) :
    s.Signed (samplePeriod front rear radio t) := by
  unfold samplePeriod
  split
  · exact chimeEnd_signed (slotEnd_signed h)
  · exact h

theorem signTest_signed (h : s.Signed t) : s.Signed (signTest f t) := by
  unfold signTest
  split
  · exact answer_signed h
  · split
    · exact answer_signed h
    · exact answer_signed (updateLamp_signed (t := t.setRsd _) h.1)

theorem lampTestEnd_signed (h : s.Signed t) : s.Signed (lampTestEnd t) := by
  unfold lampTestEnd
  split
  · exact endLampTest_signed h
  · exact h

/-- A window end at the lamp test leaves it running or ended as it was. -/
theorem lampTestTick_signed (h : s.Signed t) : s.Signed (lampTestTick t) := by
  refine ⟨h.1, fun lamp => (h.2 lamp).trans ?_⟩
  simp [lampTestTick, tick, State.freeLampOf, State.meter]

theorem signWrite_signed (h : s.Signed t) : s.Signed (signWrite f t) := by
  unfold signWrite
  dsimp only
  split
  · exact answer_signed (t := t.setRsd _) h
  · exact answer_signed (t := t.setRsd _) h

theorem scrollStep_signed (h : s.Signed t) : s.Signed (scrollStep t) := by
  unfold scrollStep
  split <;> exact h

theorem refreshPass_signed (h : s.Signed t) : s.Signed (refreshPass t) := by
  have pass : ∀ {u : State} (src : LegendSource) (ambient : Nat), s.Signed u →
      s.Signed (u.setRsd (u.rsd.pass src ambient)) := fun src ambient hu => by
    unfold Rsd.pass Rsd.choose
    dsimp only
    split <;> exact hu
  unfold refreshPass
  split
  · exact pass _ _ (scrollStep_signed h)
  · exact h

theorem wheelInput_signed {l : WheelLine} {level : Bool} (h : s.Signed t) : s.Signed (wheelInput l level t) := by
  unfold wheelInput
  split
  · split <;> exact h
  · exact h

theorem filterElapsed_signed {l : WheelLine} (h : s.Signed t) : s.Signed (filterElapsed l t) := by
  unfold filterElapsed
  split
  · split <;> exact h
  · exact h

theorem secondEnd_signed (h : s.Signed t) : s.Signed (secondEnd t) := by
  unfold secondEnd
  split <;> exact h

theorem retainedTick_signed (h : s.Signed t) : s.Signed (retainedTick t) := by
  unfold retainedTick
  split <;> exact h

theorem clockSet_signed (h : s.Signed t) : s.Signed (clockSet f t) := answer_signed (t := t.setOdu _) h

theorem placeNotice_signed (h : s.Signed t) : s.Signed (placeNotice t) := by
  unfold placeNotice
  dsimp only
  split <;> exact enqueue_signed h

theorem noticeOutcome_signed (h : s.Signed t) : s.Signed (noticeOutcome t) := by
  unfold noticeOutcome
  split
  · dsimp only
    split
    · exact placeNotice_signed (t := t.setAlm _) h
    · exact h
  · exact h

theorem alarmEntered_signed (h : s.Signed t) : s.Signed (alarmEntered t) := by
  have marked : ∀ {u : State}, s.Signed u → s.Signed (markAlarm u) := id
  have heard : ∀ {u : State}, s.Signed u → s.Signed (audioAlarmEntry u) := fun {u} hu =>
    clearFloor_signed (t := u.setCau _) hu
  exact heard (endLampTest_signed (report_signed (marked (placeNotice_signed (wake_signed (t := t.setAlm _) h)))))

theorem alarmEntry_signed (h : s.Signed t) : s.Signed (alarmEntry t) := by
  unfold alarmEntry
  split
  · exact alarmEntered_signed h
  · exact h

theorem repeatExpiry_signed (h : s.Signed t) : s.Signed (repeatExpiry t) := by
  unfold repeatExpiry
  split
  · exact placeNotice_signed h
  · exact h

theorem alarmAck_signed (h : s.Signed t) : s.Signed (alarmAck f t) := by
  unfold alarmAck
  split
  · exact answer_signed h
  · exact answer_signed (t := t.setAlm _) h

theorem alarmClear_signed (h : s.Signed t) : s.Signed (alarmClear f t) := by
  have cleared : s.Signed (alarmCleared t) := by
    unfold alarmCleared audioAlarmCleared
    dsimp only
    split <;> exact h
  unfold alarmClear
  split
  · exact answer_signed h
  · exact answer_signed cleared

/-! ### FEN -/

theorem tariffSelect_signed (h : s.Signed t) : s.Signed (tariffSelect f t) := by
  have selected : s.Signed (tariffSelected (field f.payload 0 1) t) := by
    unfold tariffSelected
    split <;> exact h
  rw [tariffSelect_eq]
  iterate 3 (split; · exact answer_signed h)
  exact answer_signed selected

theorem extraAdd_signed (h : s.Signed t) : s.Signed (extraAdd f t) := by
  unfold extraAdd
  dsimp only
  iterate 3 (split; · exact answer_signed h)
  exact answer_signed (enqueueFareStatus_signed (t := t.setFen _) h)

theorem extraRemove_signed (h : s.Signed t) : s.Signed (extraRemove f t) := by
  unfold extraRemove
  dsimp only
  iterate 2 (split; · exact answer_signed h)
  exact answer_signed (enqueueFareStatus_signed (t := t.setFen _) h)

theorem windowFareStatus_signed (h : s.Signed t) : s.Signed (windowFareStatus t) := enqueue_signed h

theorem fareWindow_signed {w : WindowRecord} (h : s.Signed t) : s.Signed (fareWindow w t) := by
  unfold fareWindow
  split
  · extract_lets before d c charge s1 s2 s3
    have charged : s.Signed s1 := h
    have limited : s.Signed s2 := by
      show s.Signed (if d.2 then report Counters.addRateLimited s1 else s1)
      split
      · exact report_signed charged
      · exact charged
    have changed : s.Signed s3 := by
      show s.Signed (if c.2 then requestChime .tariffChanged s2 else s2)
      split
      · exact requestChime_signed limited
      · exact limited
    split
    · exact windowFareStatus_signed changed
    · exact changed
  · split
    · exact windowFareStatus_signed h
    · exact h

/-! ### TRC -/

theorem hire_signed (h : s.Signed t) : s.Signed (hire f t) := by
  unfold hire
  iterate 6 (split; · exact answer_signed h)
  exact answer_signed (enqueueFareStatus_signed (t := State.setFen _ _) (setHeld_signed (t := t.setTrc _) h))

theorem stop_signed (h : s.Signed t) : s.Signed (stop f t) := by
  unfold stop
  iterate 3 (split; · exact answer_signed h)
  exact answer_signed (setHeld_signed (t := t.setTrc _) h)

theorem resume_signed (h : s.Signed t) : s.Signed (resume f t) := by
  unfold resume
  iterate 3 (split; · exact answer_signed h)
  exact answer_signed (setHeld_signed h)

theorem bookingAssign_signed (h : s.Signed t) : s.Signed (bookingAssign f t) := by
  unfold bookingAssign
  dsimp only
  iterate 4 (split; · exact answer_signed h)
  exact answer_signed (setHeld_signed (t := t.setTrc _) h)

theorem bookingCancel_signed (h : s.Signed t) : s.Signed (bookingCancel f t) := by
  unfold bookingCancel
  iterate 2 (split; · exact answer_signed h)
  split
  · exact answer_signed (setHeld_signed (t := t.setTrc _) h)
  · exact answer_signed h

theorem tripWindow_signed {w : WindowRecord} (h : s.Signed t) : s.Signed (tripWindow w t) := by
  unfold tripWindow
  split
  · exact h
  · split
    · exact report_signed h
    · exact h

theorem closeTrip_signed {o : TripOutcome} {waived : Nat} (h : s.Signed t) : s.Signed (closeTrip o waived t) := by
  unfold closeTrip
  split
  · exact h
  · exact setHeld_signed (t := (tripCloseArrival _ waived t).setTrc _) h

theorem closeIfPaid_signed (h : s.Signed t) : s.Signed (closeIfPaid t) := by
  unfold closeIfPaid
  split
  · exact closeTrip_signed h
  · exact h

theorem settle_signed (h : s.Signed t) : s.Signed (settle f t) := by
  unfold settle settled
  iterate 3 (split; · exact answer_signed h)
  split
  · exact answer_signed (closeTrip_signed h)
  · split
    · exact answer_signed h
    · exact answer_signed (settleReport_signed (t := State.setStu _ _) (setHeld_signed h))

theorem void_signed (h : s.Signed t) : s.Signed (void f t) := by
  unfold void
  iterate 3 (split; · exact answer_signed h)
  exact answer_signed (closeTrip_signed h)

/-! ### STU -/

theorem tenderCash_signed (h : s.Signed t) : s.Signed (tenderCash f t) := by
  unfold tenderCash
  dsimp only
  iterate 5 (split; · exact answer_signed h)
  exact answer_signed (closeIfPaid_signed (settleReport_signed (t := t.setStu _) h))

theorem placeRequest_signed (h : s.Signed t) : s.Signed (placeRequest t) := by
  unfold placeRequest
  split
  · exact h
  · exact enqueue_signed h

theorem placeCancel_signed (h : s.Signed t) : s.Signed (placeCancel t) := by
  unfold placeCancel
  split
  · exact h
  · exact enqueue_signed h

theorem placeQuery_signed (h : s.Signed t) : s.Signed (placeQuery t) := by
  unfold placeQuery
  split
  · exact h
  · dsimp only
    split <;> exact enqueue_signed h

theorem enterCancelling_signed {a : Attempt} (h : s.Signed t) : s.Signed (enterCancelling a t) :=
  placeCancel_signed (t := t.setAttempt _) h

theorem enterUncertain_signed {a : Attempt} (h : s.Signed t) : s.Signed (enterUncertain a t) :=
  placeQuery_signed (t := (t.setAttempt _).abortWhere _) h

theorem endAttempt_signed {e : Ending} {a : Attempt} (h : s.Signed t) : s.Signed (endAttempt e a t) :=
  settleReport_signed (t := dropAttempt e a t) h

theorem approveAttempt_signed {a : Attempt} {approved tip : Nat} (h : s.Signed t) :
    s.Signed (approveAttempt a approved tip t) := by
  have excess : s.Signed (t.excessReported a.requested approved) := by
    unfold State.excessReported
    split
    · exact report_signed h
    · exact h
  rw [approveAttempt_eq]
  split
  · exact closeIfPaid_signed (requestChime_signed (settleReport_signed (t := State.approved _ _ _ _) excess))
  · exact settleReport_signed (t := State.approved _ _ _ _) excess

theorem tenderCard_signed (h : s.Signed t) : s.Signed (tenderCard f t) := by
  unfold tenderCard
  dsimp only
  iterate 8 (split; · exact answer_signed h)
  exact answer_signed (settleReport_signed (placeRequest_signed (t := t.setStu _) h))

theorem cancelQueued_signed {a : Attempt} (h : s.Signed t) : s.Signed (cancelQueued a t) := by
  unfold cancelQueued
  dsimp only
  split
  · exact endAttempt_signed h
  · split
    · exact endAttempt_signed (t := (t.setAttempt _).abortWhere _) h
    · exact h

theorem payCancel_signed (h : s.Signed t) : s.Signed (payCancel f t) := by
  unfold payCancel
  iterate 3 (split; · exact answer_signed h)
  split
  · split
    · exact answer_signed h
    · exact answer_signed (cancelQueued_signed h)
  · exact answer_signed (settleReport_signed (enterCancelling_signed h))
  · exact answer_signed (settleReport_signed (enterCancelling_signed h))
  · exact answer_signed h
  · exact answer_signed h

theorem payRequestOutcome_signed {payload : List Byte} {o : BoxOutcome} (h : s.Signed t) :
    s.Signed (payRequestOutcome payload o t) := by
  unfold payRequestOutcome
  split
  · exact h
  split
  · split
    · split
      · exact settleReport_signed (enterCancelling_signed h)
      · exact settleReport_signed (t := t.setAttempt _) h
    · exact endAttempt_signed h
    · exact endAttempt_signed h
  · exact h

theorem settleDefer_signed (h : s.Signed t) : s.Signed (settleDefer f t) := by
  unfold settleDefer
  iterate 2 (split; · exact answer_signed h)
  split
  · exact answer_signed (closeTrip_signed (settleReport_signed (t := t.setStu _) h))
  · exact answer_signed h

theorem placeEntryQuery_signed {e : UnsettledEntry} (h : s.Signed t) : s.Signed (placeEntryQuery e t) := by
  unfold placeEntryQuery
  dsimp only
  split <;> exact enqueue_signed h

theorem placeClosingQuery_signed {e : UnsettledEntry} (h : s.Signed t) : s.Signed (placeClosingQuery e t) :=
  enqueue_signed h

theorem queryAllEntries_signed (h : s.Signed t) : s.Signed (queryAllEntries t) :=
  List.foldlRecOn _ _ h fun _ hu _ _ => placeClosingQuery_signed hu

theorem convertAll_signed (h : s.Signed t) : s.Signed (convertAll t) :=
  List.foldlRecOn _ _ h fun _ hu _ _ => settleReport_signed (t := State.abortWhere _ _) hu

theorem payAccepted_signed (h : s.Signed t) : s.Signed (payAccepted f t) := by
  have taken : ∀ a, s.Signed (accepted a t) := fun a => by
    unfold accepted
    split
    · dsimp only
      split
      · exact settleReport_signed (t := State.abortWhere _ _) (enterCancelling_signed h)
      · exact settleReport_signed (t := State.abortWhere _ _) h
    · exact settleReport_signed (t := t.setAttempt _) h
    · exact h
    · exact h
    · exact h
  unfold payAccepted
  dsimp only
  split
  · split
    · exact h
    · exact taken _
  · split
    · exact h
    · exact report_signed h

theorem payResult_signed (h : s.Signed t) : s.Signed (payResult f t) := by
  have attempted : ∀ a outcome amount tip, s.Signed (attemptResult a outcome amount tip t) := fun a outcome amount tip => by
    unfold attemptResult
    split
    · exact approveAttempt_signed h
    · split
      · exact endAttempt_signed h
      · exact requestChime_signed (endAttempt_signed h)
  unfold payResult
  dsimp only
  split
  · exact report_signed h
  split
  · split
    · exact h
    · exact attempted _ _ _ _
  · split
    · exact settleReport_signed (t := resolution _ _) h
    · exact report_signed h

theorem payReference_signed (h : s.Signed t) : s.Signed (payReference f t) := by
  unfold payReference
  dsimp only
  split
  · exact h
  · split
    · exact h
    · split <;> exact h

theorem offerExpiry_signed (h : s.Signed t) : s.Signed (offerExpiry t) := by
  unfold offerExpiry
  split
  · exact endAttempt_signed h
  · exact h

theorem resultExpiry_signed (h : s.Signed t) : s.Signed (resultExpiry t) := by
  unfold resultExpiry
  split
  · exact settleReport_signed (enterUncertain_signed h)
  · exact h

theorem cancelExpiry_signed (h : s.Signed t) : s.Signed (cancelExpiry t) := by
  unfold cancelExpiry
  split
  · exact settleReport_signed (enterUncertain_signed h)
  · exact h

theorem queryExpiry_signed (h : s.Signed t) : s.Signed (queryExpiry t) := by
  unfold queryExpiry
  split
  · split
    · exact placeQuery_signed (t := t.setAttempt _) h
    · exact h
  · exact h

theorem entryExpiry_signed {trip : Nat} (h : s.Signed t) : s.Signed (entryExpiry trip t) := by
  unfold entryExpiry
  split
  · split
    · dsimp only
      split
      · exact h
      · exact placeEntryQuery_signed (t := t.mapEntry _ _) h
    · exact h
  · exact h

theorem entryExpiries_signed (h : s.Signed t) : s.Signed (entryExpiries t) :=
  List.foldlRecOn _ _ h fun _ hu _ _ => entryExpiry_signed hu

theorem settlementRetries_signed (h : s.Signed t) : s.Signed (settlementRetries t) := by
  have attempt : s.Signed (retryAttempt t) := by
    unfold retryAttempt
    split
    · split
      · exact placeRequest_signed h
      split
      · exact placeCancel_signed h
      split
      · exact placeQuery_signed h
      · exact h
    · exact h
  have entry : ∀ (e : UnsettledEntry) {u : State}, s.Signed u → s.Signed (retryEntry e u) := fun e u hu => by
    have own : s.Signed (if e.waits then placeEntryQuery e u else u) := by
      split
      · exact placeEntryQuery_signed hu
      · exact hu
    unfold retryEntry
    dsimp only
    split
    · exact placeClosingQuery_signed own
    · exact own
  rw [settlementRetries_eq]
  split
  · exact h
  · exact List.foldlRecOn _ _ attempt fun _ hu e _ => entry e hu

/-! ### SAU -/

theorem finishClosing_signed {terminal : Option (Nat × Nat)} (h : s.Signed t) : s.Signed (finishClosing terminal t) :=
  enqueueShiftState_signed (enqueueMeterState_signed (t := State.setTrc _ _)
    (convertAll_signed (t := (endStage2 t).setSau _) h))

theorem placeTotals_signed (h : s.Signed t) : s.Signed (placeTotals t) := enqueue_signed h

theorem runClosing_signed (h : s.Signed t) : s.Signed (runClosing t) := by
  unfold runClosing
  split
  · exact placeTotals_signed (t := State.setSau _ _) (queryAllEntries_signed h)
  · exact finishClosing_signed h

theorem shiftOpen_signed (h : s.Signed t) : s.Signed (shiftOpen f t) := by
  unfold shiftOpen
  iterate 3 (split; · exact answer_signed h)
  exact answer_signed (enqueueShiftState_signed (setHeld_signed (t := (t.setSau _).setTrc _) h))

theorem shiftClose_signed (h : s.Signed t) : s.Signed (shiftClose f t) := by
  have closed : s.Signed (shiftClosed t) := by
    unfold shiftClosed
    dsimp only
    split
    · exact runClosing_signed (enqueueShiftState_signed (setHeld_signed (t := enterClosing t) h))
    · exact runClosing_signed (enqueueShiftState_signed (updateLamp_signed (t := (enterClosing t).setTrc _) h.1))
  unfold shiftClose
  iterate 3 (split; · exact answer_signed h)
  exact answer_signed closed

theorem terminalTotals_signed (h : s.Signed t) : s.Signed (terminalTotals f t) := by
  unfold terminalTotals
  split
  · exact finishClosing_signed h
  · exact h

theorem totalsExpiry_signed (h : s.Signed t) : s.Signed (totalsExpiry t) := by
  unfold totalsExpiry
  split
  · exact finishClosing_signed h
  · exact h

theorem placePart_signed {k : AnswerKind} (h : s.Signed t) : s.Signed (placePart k t) := by
  unfold placePart
  split
  · exact h
  · exact enqueue_signed h

theorem startAnswer_signed {k : AnswerKind} {number : Nat} {bytes : List Byte} (h : s.Signed t) :
    s.Signed (startAnswer k number bytes t) := by
  obtain ⟨c, aborted, only⟩ := abortPart_eq k t
  unfold startAnswer
  rw [aborted]
  exact placePart_signed (t := State.setSau _ _) (h.setCbi (Cbi.onlyMailboxes_dormant only))

theorem journalRead_signed (h : s.Signed t) : s.Signed (journalRead f t) := by
  unfold journalRead
  split
  · exact answer_signed h
  · exact startAnswer_signed (answer_signed h)

theorem summaryRead_signed (h : s.Signed t) : s.Signed (summaryRead f t) := startAnswer_signed (answer_signed h)

theorem partOutcome_signed {k : AnswerKind} {box : Nat} {o : BoxOutcome} (h : s.Signed t) :
    s.Signed (partOutcome k box o t) := by
  unfold partOutcome
  split
  · exact h
  split
  · split
    · split
      · exact placePart_signed (t := t.setSau _) h
      · exact h
    · exact h
    · exact h
  · exact h

/-! ### CBI -/

theorem statusRead_signed (h : s.Signed t) : s.Signed (statusRead f t) := by
  unfold statusRead
  dsimp only
  split
  · exact answer_signed h
  · exact enqueueCounted_signed (answer_signed h)

theorem transmitAttempt_signed (h : s.Signed t) : s.Signed (transmitAttempt t) := by
  unfold transmitAttempt
  split
  · split <;> exact h
  · exact h

theorem mailboxOutcome_signed {box : Nat} {x : TxFrame} {o : BoxOutcome} (h : s.Signed t) :
    s.Signed (mailboxOutcome box x o t) := by
  unfold mailboxOutcome
  cases x.owner with
  | fen | trc | cau =>
    dsimp only
    split <;> exact h
  | sau =>
    dsimp only
    unfold sauOutcome
    split
    · split <;> exact h
    split
    · exact partOutcome_signed h
    split
    · exact partOutcome_signed h
    · exact h
  | stu =>
    dsimp only
    split
    · exact payRequestOutcome_signed h
    · exact h
  | alm => exact noticeOutcome_signed h
  | odu | rsd | cbi => exact h

theorem enterOffline_signed (h : s.Signed t) : s.Signed (enterOffline t) := by
  have emptied : (t.cbi.filled.foldl (fun c i => c.setBox i Mailbox.empty) t.cbi).dormant = t.cbi.dormant :=
    List.foldlRecOn (motive := fun c : Cbi => c.dormant = t.cbi.dormant) _ _ rfl fun _ hc _ _ => hc
  exact List.foldlRecOn _ _ (h.setCbi emptied) fun _ hu _ _ => mailboxOutcome_signed hu

theorem Cbi.unsent_dormant (c : Cbi) (i : Nat) : (c.unsent i).1.dormant = c.dormant := by
  unfold Cbi.unsent
  dsimp only
  split
  · rfl
  · split <;> rfl
  · rfl
  · rfl

theorem Cbi.quietEnd_dormant (c : Cbi) (i : Nat) : (c.quietEnd i).dormant = c.dormant := by
  unfold Cbi.quietEnd
  dsimp only
  split <;> rfl

theorem sentOne_signed {i : Nat} (h : s.Signed t) : s.Signed (sentOne i t) := mailboxOutcome_signed (h.setCbi rfl)

theorem failedOne_signed {i : Nat} {x : TransmitFault} (h : s.Signed t) : s.Signed (failedOne i x t) := by
  have offline : ∀ {u : State}, s.Signed u → s.Signed (if u.cbi.standing = .offline then enterOffline u else u) := by
    intro u hu
    split
    · exact enterOffline_signed hu
    · exact hu
  unfold failedOne
  dsimp only
  split
  · exact enterOffline_signed (h.setCbi rfl)
  · split
    · exact mailboxOutcome_signed (offline (h.setCbi (Cbi.unsent_dormant _ i)))
    · exact offline (h.setCbi (Cbi.unsent_dormant _ i))

theorem lostOne_signed {i : Nat} (h : s.Signed t) : s.Signed (lostOne i t) := by
  have ended := h.setCbi (Cbi.unsent_dormant (t.cbi.attemptOver 0 true) i)
  unfold lostOne
  dsimp only
  split
  · exact mailboxOutcome_signed ended
  · exact ended

theorem endAttemptWith_signed {act : Nat → State → State} {idle : Nat} {receiving : Bool}
    (ha : ∀ i, s.Signed (act i t)) (h : s.Signed t) : s.Signed (endAttemptWith act idle receiving t) := by
  unfold endAttemptWith
  split
  · exact h
  split
  · exact h
  split
  · exact h.setCbi (Cbi.quietEnd_dormant _ _)
  · exact ha _

theorem listenEnd_signed (h : s.Signed t) : s.Signed (listenEnd t) := by
  unfold listenEnd
  split <;> exact h

theorem dormancyEntry_signed (h : s.Signed t) : s.Signed (dormancyEntry t) := by
  unfold dormancyEntry
  split
  · exact updateLamp_signed (t := (t.setCbi _).setRsd _) h.1
  · exact h

theorem backupFail_signed (h : s.Signed t) : s.Signed (backupFail t) := by
  unfold backupFail
  split <;> exact h

/-! ### Window ends -/

theorem settleDue_signed (h : s.Signed t) : s.Signed (settleDue t) :=
  dormancyEntry_signed <| listenEnd_signed <| lampTestEnd_signed <| totalsExpiry_signed <| entryExpiries_signed <|
    queryExpiry_signed <| cancelExpiry_signed <| resultExpiry_signed <| offerExpiry_signed <| repeatExpiry_signed <|
    alarmEntry_signed <| secondEnd_signed h

theorem shiftWindow_signed {w : WindowRecord} (h : s.Signed t) : s.Signed (shiftWindow w t) := by
  unfold shiftWindow
  split <;> exact h

theorem windowTimers_signed {closed : Bool} (h : s.Signed t) : s.Signed (windowTimers closed t) := by
  have sampled : s.Signed (switchSample closed t) := by
    unfold switchSample
    split <;> exact h
  have repeated : ∀ {u : State}, s.Signed u → s.Signed (repeatTick u) := fun hu => by
    unfold repeatTick
    split <;> exact hu
  have settled : ∀ {u : State}, s.Signed u → s.Signed (settlementTimers u) := fun hu => by
    unfold settlementTimers
    split <;> exact hu
  have counted : ∀ {u : State}, s.Signed u → s.Signed (totalsTick u) := id
  exact (lampTestTick_signed (counted (settled (repeated sampled)))).setCbi rfl

theorem windowRetries_signed (h : s.Signed t) : s.Signed (windowRetries t) := by
  have part : ∀ (k : AnswerKind) {u : State}, s.Signed u → s.Signed (partRetry k u) := fun k u hu => by
    unfold partRetry
    split
    · exact placePart_signed hu
    · exact hu
  have totals : ∀ {u : State}, s.Signed u → s.Signed (totalsRetry u) := fun hu => by
    unfold totalsRetry
    split
    · exact placeTotals_signed hu
    · exact hu
  have meter : s.Signed (windowMeterState t) := by
    unfold windowMeterState
    split
    · exact enqueue_signed h
    · exact h
  have shift : ∀ {u : State}, s.Signed u → s.Signed (windowShiftState u) := fun hu => by
    unfold windowShiftState
    split
    · exact enqueueShiftState_signed hu
    · exact hu
  have talk : ∀ {u : State}, s.Signed u → s.Signed (windowTalkState u) := fun hu => by
    unfold windowTalkState
    split
    · exact enqueueTalkState_signed hu
    · exact hu
  exact part _ (part _ (totals (settlementRetries_signed (talk (shift meter)))))

theorem dormancyTick_signed (h : s.Signed t) : s.Signed (dormancyTick t) := by
  unfold dormancyTick
  split <;> exact h

theorem windowEnd_signed {closed : Bool} (h : s.Signed t) : s.Signed (windowEnd closed t) := by
  unfold windowEnd
  split
  · exact dormancyTick_signed (windowRetries_signed (windowTimers_signed (tripWindow_signed (shiftWindow_signed
      (fareWindow_signed (t := State.setOdu _ _) (settleDue_signed h))))))
  · exact h

end Sys2Proof.Machine

/-! 06: every command keeps what the FREE lamp and the legend hang on, a part that does not run keeps its sign as it stands, and
a start sets both anew (R118, R119, R126). -/

namespace Sys2Proof.Machine

/-! ### Every command between starts -/

/-- The commands that begin or end a start. -/
def IsStart (c : Instr) : Prop :=
  (∃ img, c = .loadCompletion img) ∨ c = .mainSupplyLoss ∨ c = .mainSupplyReturn ∨ c = .resetPin

section Frames

variable {s t : State} {f : RxFrame}

theorem deliver_signed {topic : Nat} (h : s.Signed t) : s.Signed (deliver topic f t) := by
  unfold deliver
  split
  · exact alarmAck_signed h
  · exact alarmClear_signed h
  · exact hire_signed h
  · exact stop_signed h
  · exact resume_signed h
  · exact settle_signed h
  · exact void_signed h
  · exact bookingAssign_signed h
  · exact bookingCancel_signed h
  · exact tariffSelect_signed h
  · exact extraAdd_signed h
  · exact extraRemove_signed h
  · exact tenderCash_signed h
  · exact tenderCard_signed h
  · exact payCancel_signed h
  · exact settleDefer_signed h
  · exact shiftOpen_signed h
  · exact shiftClose_signed h
  · exact journalRead_signed h
  · exact summaryRead_signed h
  · exact talkPress_signed h
  · exact talkRelease_signed h
  · exact callPress_signed h
  · exact callRelease_signed h
  · exact signTest_signed h
  · exact signWrite_signed h
  · exact statusRead_signed h
  · exact clockSet_signed h
  · exact payAccepted_signed h
  · exact payResult_signed h
  · exact payReference_signed h
  · exact terminalTotals_signed h
  · exact h
  · exact h

/-- A command with a frame of topic `topic` is the delivery of that topic. -/
theorem frame_signed (topic : Nat) (f : RxFrame) (s : State) :
    s.Signed (frameComplete topic f (deliver topic f) s) := frameComplete_signed deliver_signed (.refl s)

end Frames

theorem exec_signed (c : Instr) {s t : State} (other : ¬IsStart c) (he : exec c s = .next t) : s.Signed t := by
  have same := State.Signed.refl s
  have starts : IsStart c → s.Signed t := fun h => absurd h other
  cases c <;> obtain ⟨rfl⟩ := he
  case wheelInputChange l x => exact wheelInput_signed same
  case filterWidthElapsed l => exact filterElapsed_signed same
  case windowEnd x => exact windowEnd_signed same
  case secondEnd => exact secondEnd_signed same
  case retainedSecondsTick => exact retainedTick_signed same
  case alarmEntry => exact alarmEntry_signed same
  case repeatTimerExpiry => exact repeatExpiry_signed same
  case alarmAck f => exact frame_signed 2 f s
  case alarmClear f => exact frame_signed 3 f s
  case hire f => exact frame_signed 32 f s
  case stop f => exact frame_signed 33 f s
  case resume f => exact frame_signed 34 f s
  case settle f => exact frame_signed 35 f s
  case void f => exact frame_signed 36 f s
  case bookingAssign f => exact frame_signed 38 f s
  case bookingCancel f => exact frame_signed 39 f s
  case tariffSelect f => exact frame_signed 40 f s
  case extraAdd f => exact frame_signed 41 f s
  case extraRemove f => exact frame_signed 42 f s
  case tenderCash f => exact frame_signed 44 f s
  case tenderCard f => exact frame_signed 45 f s
  case payCancel f => exact frame_signed 46 f s
  case settleDefer f => exact frame_signed 47 f s
  case payAccepted f => exact frame_signed 64 f s
  case payResult f => exact frame_signed 65 f s
  case payReference f => exact frame_signed 66 f s
  case offerTimerExpiry => exact offerExpiry_signed same
  case resultTimerExpiry => exact resultExpiry_signed same
  case cancelTimerExpiry => exact cancelExpiry_signed same
  case queryTimerExpiry => exact queryExpiry_signed same
  case entryQueryTimerExpiry trip => exact entryExpiry_signed same
  case shiftOpen f => exact frame_signed 48 f s
  case shiftClose f => exact frame_signed 49 f s
  case terminalTotals f => exact frame_signed 68 f s
  case totalsTimerExpiry => exact totalsExpiry_signed same
  case journalRead f => exact frame_signed 50 f s
  case summaryRead f => exact frame_signed 51 f s
  case talkPress f => exact frame_signed 52 f s
  case talkRelease f => exact frame_signed 53 f s
  case callPress f => exact frame_signed 54 f s
  case callRelease f => exact frame_signed 55 f s
  case signTest f => exact frame_signed 56 f s
  case lampTestEnd => exact lampTestEnd_signed same
  case signWrite f => exact frame_signed 57 f s
  case refreshPass => exact refreshPass_signed same
  case scrollStep => exact scrollStep_signed same
  case samplePeriod x y z => exact samplePeriod_signed same
  case slotEnd => exact slotEnd_signed same
  case chimeEnd => exact chimeEnd_signed same
  case statusRead f => exact frame_signed 58 f s
  case clockSet f => exact frame_signed 59 f s
  case vehicleState f => exact frame_signed 72 f s
  case receiveFault x => exact receiveFault_signed same
  case unmatchedFrame topic f => exact frame_signed _ f s
  case ownNumberFrame topic cls payload => exact frame_signed _ (s.ownFrame cls payload) s
  case transmitAttempt => exact transmitAttempt_signed same
  case attemptSucceeded => exact endAttemptWith_signed (fun _ => sentOne_signed same) same
  case attemptFailed x => exact endAttemptWith_signed (fun _ => failedOne_signed same) same
  case arbitrationLost => exact endAttemptWith_signed (fun _ => lostOne_signed same) same
  case offlineRecovery => exact offlineRecovery_signed same
  case listenPhaseEnd => exact listenEnd_signed same
  case dormancyEntry => exact dormancyEntry_signed same
  case wakeByLine => exact wakeOnEdge_signed same
  case backupSupplyFail => exact backupFail_signed same
  case lineIdle => exact lineIdle_signed same
  case startMark => exact startMark_signed same
  all_goals exact starts (by simp [IsStart])

/-! ### A part that does not run -/

section Stopped

variable {s : State}

theorem State.busOn_stopped (h : s.running = false) : s.busOn = false := by simp [State.busOn, h]

theorem frameComplete_stopped (h : s.running = false) (topic : Nat) (f : RxFrame) (d : State → State) :
    frameComplete topic f d s = s := by
  simp [frameComplete, State.busOn_stopped h]

theorem endAttemptWith_stopped (h : s.running = false) (act : Nat → State → State) (idle : Nat) (receiving : Bool) :
    endAttemptWith act idle receiving s = s := by
  unfold endAttemptWith
  split
  · rfl
  · simp [State.busOn_stopped h]

theorem wheelInput_rsd (l : WheelLine) (level : Bool) (s : State) : (wheelInput l level s).rsd = s.rsd := by
  unfold wheelInput
  split
  · split <;> rfl
  · rfl

theorem filterElapsed_rsd (l : WheelLine) (s : State) : (filterElapsed l s).rsd = s.rsd := by
  unfold filterElapsed
  split
  · split <;> rfl
  · rfl

theorem slotEnd_stopped (h : s.running = false) : slotEnd s = s := by
  unfold slotEnd
  split
  · simp [h]
  · rfl

theorem chimeEnd_rsd (s : State) : (chimeEnd s).rsd = s.rsd := by
  unfold chimeEnd
  split
  · split <;> rfl
  · rfl

theorem retainedTick_rsd (s : State) : (retainedTick s).rsd = s.rsd := by
  unfold retainedTick
  split <;> rfl

theorem backupFail_rsd (s : State) : (backupFail s).rsd = s.rsd := by
  unfold backupFail
  split <;> rfl

/-- Without the supply, or during the image read, nothing but a start touches the sign (R188). -/
theorem exec_stopped (c : Instr) {t : State} (other : ¬IsStart c) (h : s.running = false) (he : exec c s = .next t) :
    t.rsd = s.rsd := by
  have bus := State.busOn_stopped h
  have starts : IsStart c → t.rsd = s.rsd := fun h => absurd h other
  have frame : ∀ topic f d, (frameComplete topic f d s).rsd = s.rsd := fun topic f d => by rw [frameComplete_stopped h]
  have attempt : ∀ act idle receiving, (endAttemptWith act idle receiving s).rsd = s.rsd := fun act idle receiving => by
    rw [endAttemptWith_stopped h]
  cases c <;> obtain ⟨rfl⟩ := he
  case wheelInputChange l x => exact wheelInput_rsd l x s
  case filterWidthElapsed l => exact filterElapsed_rsd l s
  case retainedSecondsTick => exact retainedTick_rsd s
  case backupSupplyFail => exact backupFail_rsd s
  case chimeEnd => exact chimeEnd_rsd s
  case slotEnd => rw [slotEnd_stopped h]
  case windowEnd x => simp [windowEnd, h]
  case secondEnd => simp [secondEnd, h]
  case alarmEntry => simp [alarmEntry, State.alarmDue, h]
  case repeatTimerExpiry => simp [repeatExpiry, State.repeatDue, h]
  case offerTimerExpiry => simp [offerExpiry, State.expired_stopped h]
  case resultTimerExpiry => simp [resultExpiry, State.expired_stopped h]
  case cancelTimerExpiry => simp [cancelExpiry, State.expired_stopped h]
  case queryTimerExpiry => simp [queryExpiry, State.expired_stopped h]
  case entryQueryTimerExpiry trip => rw [entryExpiry_stopped h]
  case totalsTimerExpiry => simp [totalsExpiry, h]
  case lampTestEnd => simp [lampTestEnd, h]
  case refreshPass => simp [refreshPass, h]
  case scrollStep => simp [scrollStep, h]
  case samplePeriod x y z => simp [samplePeriod, h]
  case receiveFault x => simp [receiveFault, bus]
  case transmitAttempt => simp [transmitAttempt, State.mayTransmit, bus]
  case offlineRecovery => simp [offlineRecovery, bus]
  case listenPhaseEnd => simp [listenEnd, bus]
  case dormancyEntry => simp [dormancyEntry, h]
  case wakeByLine => simp [wakeOnEdge, bus]
  case lineIdle => simp [lineIdle, bus]
  case startMark => simp [startMark, bus]
  case attemptSucceeded | attemptFailed | arbitrationLost => exact attempt _ _ _
  case loadCompletion | mainSupplyLoss | mainSupplyReturn | resetPin => exact starts (by simp [IsStart])
  all_goals exact frame _ _ _

end Stopped

/-! ### Starts -/

theorem State.meter_inoperative_iff (s : State) : s.meter = .inoperative ↔ s.trc.reason ≠ .none := by
  unfold State.meter Trc.meter
  split
  · cases h : s.trc.held <;> simp [HeldState.meter, *]
  · simp [*]

/-- A start begins with the sign dark and the part not running. -/
theorem retainedOnly_lamp (s : State) (main : Bool) (kind : StartKind) : LampSound (s.retainedOnly main kind) := by
  have stopped : (s.retainedOnly main kind).running = false := Bool.and_false _
  exact ⟨by rw [stopped]; rfl, fun running => absurd (running.symm.trans stopped) (by simp)⟩

section Started

variable {s t : State}

theorem startSettlement_signed (h : s.Signed t) : s.Signed (startSettlement t) := by
  have attempt : s.Signed (startAttempt (t.setStu { t.stu with unsettled := t.stu.unsettled.map (·.restart) })) := by
    unfold startAttempt
    split
    · exact h
    split
    · exact h
    · exact enterUncertain_signed (t := t.setStu _) h
    · exact enterUncertain_signed (t := t.setStu _) h
    · exact enterUncertain_signed (t := t.setStu _) h
    · exact h
  unfold startSettlement
  split
  · dsimp only
    split
    · exact settleReport_signed attempt
    · exact attempt
  · exact h

theorem startShift_signed (h : s.Signed t) : s.Signed (startShift t) := by
  unfold startShift
  split
  · exact runClosing_signed (enqueueShiftState_signed (t := t.setSau _) h)
  · exact enqueueShiftState_signed h

theorem startAlarm_signed (h : s.Signed t) : s.Signed (startAlarm t) := by
  unfold startAlarm
  dsimp only
  split
  · exact placeNotice_signed (t := (t.setAlm _).setAlm _) h
  · exact h

/-- The blocks set the lamp once the TRC has started, and keep it from then on. -/
theorem startBlocks_lampTrue (s : State) : (startBlocks s).LampTrue := by
  have rest : (updateLamp (startTrips s)).Signed (startBlocks s) :=
    enqueueTalkState_signed (setRouting_signed (startAlarm_signed (startShift_signed (startSettlement_signed
      (enqueueMeterState_signed (.refl _))))))
  exact rest.2 rfl

end Started

/-- A load completion ends with the lamp showing its condition, and INOPERATIVE for an image that is INVALID. -/
theorem startBlocks_lamp (img : List Byte) {s : State} (hm : s.supply.main = true) :
    LampSound (startBlocks (s.loaded img)) := by
  obtain ⟨-, -, -, ⟨-, -, pld, -, supply, -⟩, -⟩ := startBlocks_blocks (loaded_delivered img s)
  obtain ⟨lpld, lsupply, -⟩ := loaded_frame img s
  have running : (startBlocks (s.loaded img)).running = true := by
    rw [State.running, pld, supply, lpld, lsupply, hm]
    rfl
  refine ⟨?_, fun _ invalid => ?_⟩
  · rw [running, Bool.true_and]
    exact startBlocks_lampTrue _
  · rw [pld, lpld] at invalid
    exact started_inoperative (imageReason_ne_none_of_unusable ((imageState_invalid_iff img).1 invalid))

section Commands

variable {s : State}

theorem loadCompletion_lamp (img : List Byte) (hs : LampSound s) : LampSound (loadCompletion img s) := by
  unfold loadCompletion
  split
  · rename_i reading
    exact startBlocks_lamp img (Bool.and_eq_true _ _ ▸ reading).1
  · exact hs

theorem supplyLoss_lamp (hs : LampSound s) : LampSound (supplyLoss s) := by
  unfold supplyLoss
  split
  · exact retainedOnly_lamp _ _ _
  · exact hs

theorem supplyReturn_lamp (hs : LampSound s) : LampSound (supplyReturn s) := by
  unfold supplyReturn
  split
  · exact hs
  · exact retainedOnly_lamp _ _ _

theorem resetPin_lamp (hs : LampSound s) : LampSound (resetPin s) := by
  unfold resetPin
  split
  · exact retainedOnly_lamp _ _ _
  · exact hs

end Commands

/-! ### The statement -/

/-- Between starts the lamp is what it is by the part's running, or stays dark. -/
theorem State.Signed.lampSound {s t : State} (h : s.Signed t) (stopped : s.running = false → t.rsd = s.rsd)
    (hs : LampSound s) : LampSound t := by
  obtain ⟨⟨base, reason⟩, lamp⟩ := h
  obtain ⟨lit, invalid⟩ := hs
  have pld : t.pld = s.pld := congrArg SignBase.pld base
  have supply : t.supply = s.supply := congrArg SignBase.supply base
  have same : t.running = s.running := by rw [State.running, pld, supply]; rfl
  refine ⟨?_, fun running image => ?_⟩
  · cases running : s.running with
    | true =>
      rw [same, running, Bool.true_and]
      refine lamp ?_
      rw [running, Bool.true_and] at lit
      exact lit
    | false =>
      rw [same, running, stopped running, lit, running]
      rfl
  · rw [same] at running
    rw [pld] at image
    have inoperative := invalid running image
    rw [State.meter_inoperative_iff] at inoperative ⊢
    exact reason inoperative

/-- Every command keeps the lamp sound. -/
theorem exec_lamp (c : Instr) {s t : State} (hs : LampSound s) (he : exec c s = .next t) : LampSound t := by
  by_cases start : IsStart c
  · obtain ⟨img, rfl⟩ | rfl | rfl | rfl := start
    · exact Host.Outcome.next.inj he ▸ loadCompletion_lamp img hs
    · exact Host.Outcome.next.inj he ▸ supplyLoss_lamp hs
    · exact Host.Outcome.next.inj he ▸ supplyReturn_lamp hs
    · exact Host.Outcome.next.inj he ▸ resetPin_lamp hs
  · exact (exec_signed c start he).lampSound (fun stopped => exec_stopped c start stopped he) hs

/-- A lit lamp means FREE (R126). -/
theorem LampSound.dark {s : State} (h : LampSound s) (free : s.meter ≠ .free) : s.rsd.freeLamp = false := by
  rw [h.1]
  simp [free]

/-- Settles O44: every command keeps the lamp sound, and a sound lamp is lit in FREE alone. -/
theorem stepKeepsFreeLampHonest : Obligations.StepKeepsFreeLampHonest := by
  unfold Obligations.StepKeepsFreeLampHonest
  intro s t hs h
  have sound : LampSound t := by
    unfold step at h
    split at h
    · obtain ⟨rfl⟩ := h
      exact hs
    · rename_i rest _
      exact exec_lamp _ (s := s.setPending rest) hs h
  refine ⟨sound, fun meter => sound.dark fun free => ?_⟩
  simp [free] at meter

end Sys2Proof.Machine

/-! 06: the legend as a load completion takes it from the image, and as no other command changes it (R118, R119, R136). -/

namespace Sys2Proof.Machine

/-! ### Bytes of the image -/

/-- A byte past the end reads as 0 (log 24). -/
theorem field_byte (bs : List Byte) (i : Nat) : field bs i 1 = (bs[i]?.getD 0).toNat := by
  cases hb : bs[i]? with
  | some b => rw [field_one hb, Option.getD_some]
  | none =>
    have past : bs.drop i = [] := List.drop_eq_nil_of_le (List.getElem?_eq_none_iff.1 hb)
    simp [field, slice, past, ofBytes]

theorem slice_getElem? (bs : List Byte) (start : Nat) {n k : Nat} (hk : k < n) :
    (slice bs start n)[k]? = some (bs[start + k]?.getD 0) := by
  unfold slice
  dsimp only
  by_cases inside : start + k < bs.length
  · rw [List.getElem?_append_left (by simp; omega), List.getElem?_take_of_lt hk, List.getElem?_drop,
      List.getElem?_eq_getElem inside, Option.getD_some]
  · rw [List.getElem?_append_right (by simp; omega), List.getElem?_replicate, if_pos (by simp; omega),
      List.getElem?_eq_none (Nat.not_lt.1 inside), Option.getD_none]

/-- Two values from each entry of a list stand side by side. -/
theorem flatMap_pair_getElem? {α β : Type} (g h : α → β) (l : List α) (k : Nat) :
    (l.flatMap fun a => [g a, h a])[2 * k]? = l[k]?.map g
      ∧ (l.flatMap fun a => [g a, h a])[2 * k + 1]? = l[k]?.map h := by
  induction l generalizing k with
  | nil => simp
  | cons a l ih =>
    cases k with
    | zero => simp
    | succ k => simpa [Nat.mul_succ] using ih k

/-! ### The legend pages and the legend map (R118, R119) -/

theorem imagePage_length (img : List Byte) (i : Nat) : (imagePage img i).length = 960 := by
  simp [imagePage, slice]
  omega

/-- Two pixels a byte, the high half first. -/
theorem imagePage_getElem? (img : List Byte) (i : Nat) {k : Nat} (hk : k < 480) :
    (imagePage img i)[2 * k]? = some (field img (173 + 480 * i + k) 1 / 16)
      ∧ (imagePage img i)[2 * k + 1]? = some (field img (173 + 480 * i + k) 1 % 16) := by
  rw [field_byte]
  have pair := flatMap_pair_getElem? (fun b : Byte => b.toNat / 16) (fun b => b.toNat % 16)
    (slice img (173 + 480 * i) 480) k
  rwa [slice_getElem? img _ hk] at pair

theorem imageMap_entries (img : List Byte) :
    [(imageMap img).offDuty, (imageMap img).free, (imageMap img).booked, (imageMap img).hired,
      (imageMap img).stopped, (imageMap img).settling, (imageMap img).inoperative, (imageMap img).alarm]
      = (List.range 8).map (imageLegend img) := rfl

theorem imageLegend_out {img : List Byte} {i : Nat} (h : ¬LegendInRange img i) :
    imageLegend img i = ⟨none, .steady, 0⟩ := by
  rw [imageLegend, Option.isNone_iff_eq_none.1 ((imageLegend_none_iff img i).2 h)]
  rfl

theorem imageLegendPage_eq {n : Nat} (h : n ≤ 3 ∨ n = 255) :
    imageLegendPage n = some (if n = 255 then none else some n) := by
  unfold imageLegendPage
  split
  · rw [if_neg (by omega)]
  · rw [if_pos (by omega), if_pos (by omega)]

theorem imageLegendMode_eq {n : Nat} (h : n ≤ 2) :
    imageLegendMode n = some (if n = 0 then .steady else if n = 1 then .blink else .scroll) := by
  match n with
  | 0 | 1 | 2 => rfl

theorem imageLegend_in {img : List Byte} {i : Nat} (h : LegendInRange img i) : imageLegend img i =
    ⟨if field img (147 + 3 * i) 1 = 255 then none else some (field img (147 + 3 * i) 1),
      if field img (148 + 3 * i) 1 = 0 then .steady else if field img (148 + 3 * i) 1 = 1 then .blink else .scroll,
      field img (149 + 3 * i) 1⟩ := by
  obtain ⟨page, mode⟩ := h
  unfold imageLegend imageLegend?
  simp only [Nat.add_right_comm 147, Nat.reduceAdd, imageLegendPage_eq page, imageLegendMode_eq mode, Option.getD_some]

/-! ### The sign after a load completion (R136) -/

/-- Besides the lamp, the sign is as the image is delivered. -/
theorem started_rsd (img : List Byte) (s : State) : (startBlocks (s.loaded img)).rsd =
    { Rsd.start img with freeLamp := (startBlocks (s.loaded img)).rsd.freeLamp } := by
  have ds := loaded_delivered img s
  obtain ⟨-, -, -, -, -, -, rsd, -⟩ := loaded_frame img s
  obtain ⟨-, -, -, -, -, ended, -⟩ := ended_blocks (accounted_awake ds) (accounted_first ds)
  obtain ⟨-, -, -, accounted⟩ := accounted_frame ds
  rw [rsd] at accounted
  rw [startBlocks_eq, ended, accounted]

theorem Rsd.start_of_unusable {img : List Byte} (h : imageUsable img = false) : Rsd.start img = Rsd.initial :=
  if_neg (by simp [h])

theorem Rsd.start_of_usable {img : List Byte} (h : imageUsable img = true) : Rsd.start img = { Rsd.initial with
    legendPages := [imagePage img 0, imagePage img 1, imagePage img 2]
    map := imageMap img
    mirror := yes img 171
    scrollStep := max 1 (field img 172 1) } := if_pos h

/-- What a start gives the sign whatever the image. -/
theorem Rsd.start_kept (img : List Byte) : Rsd.start img = { Rsd.initial with
    legendPages := (Rsd.start img).legendPages
    map := (Rsd.start img).map
    mirror := (Rsd.start img).mirror
    scrollStep := (Rsd.start img).scrollStep } := by
  unfold Rsd.start
  split <;> rfl

/-- Settles O43: a load completion gives the sign what the image says, and every other command but a start keeps it. -/
theorem legendPagesAreSealed : Obligations.LegendPagesAreSealed := by
  unfold Obligations.LegendPagesAreSealed
  refine ⟨fun s img hm hp => ⟨_, loads hm hp, ?_⟩, fun c s t he load loss supply reset => ?_⟩
  · rw [started_rsd]
    have kept := Rsd.start_kept img
    refine ⟨by rw [kept]; rfl, by rw [kept]; rfl, by rw [kept]; rfl, by rw [kept]; rfl, by rw [kept]; rfl,
      fun unusable => ?_, fun usable => ?_⟩
    · rw [Rsd.start_of_unusable unusable]
      exact ⟨rfl, rfl, rfl, rfl⟩
    · rw [Rsd.start_of_usable usable]
      refine ⟨?_, ?_, rfl,
        fun i hi => ⟨imagePage img i, ?_, imagePage_length img i, fun k hk => imagePage_getElem? img i hk⟩,
        fun i e he => ?_⟩
      · show yes img 171 = _
        rw [yes, Bool.eq_iff_iff, bne_iff_ne, decide_eq_true_iff]
      · show max 1 (field img 172 1) = _
        split <;> omega
      · match i with
        | 0 | 1 | 2 => rfl
      · rw [imageMap_entries, List.getElem?_map, Option.map_eq_some_iff] at he
        obtain ⟨j, hj, rfl⟩ := he
        obtain ⟨-, rfl⟩ := List.getElem?_eq_some_iff.1 hj
        rw [List.getElem_range]
        refine ⟨imageLegend_out, fun inRange => ?_⟩
        rw [imageLegend_in inRange]
        exact ⟨rfl, rfl, rfl⟩
  · have other : ¬IsStart c := by
      rintro (⟨img, hc⟩ | hc | hc | hc)
      exacts [load img hc, loss hc, supply hc, reset hc]
    obtain ⟨⟨base, -⟩, -⟩ := exec_signed c other he
    exact ⟨congrArg SignBase.legendPages base, congrArg SignBase.map base, congrArg SignBase.mirror base,
      congrArg SignBase.scrollStep base⟩

end Sys2Proof.Machine

/-! 06 and 09: the lamp test begins and ends (R127, R128), and the phases of the interface end (R172, R181, R183, R184). -/

namespace Sys2Proof.Machine

/-! ### The lamp test (R127, R128) -/

/-- A lamp test darkens the FREE lamp (R126). -/
theorem lampTestStarted_eq (s : State) :
    lampTestStarted s = s.setRsd { s.rsd with lampTest := some 12, freeLamp := false } := by
  simp [lampTestStarted, updateLamp, State.freeLampOf, Config.lampTestTimer, State.setRsd]

theorem endLampTest_eq (s : State) : endLampTest s = s.setRsd
    { s.rsd with lampTest := none, freeLamp := s.meter == .free && !s.cbi.dormant } := by
  simp [endLampTest, updateLamp, State.freeLampOf, State.setRsd, State.meter]

theorem exec_signTest {s : State} {f : RxFrame} (hd : s.delivers 56 f = true) :
    exec (.signTest f) s = .next (signTest f (received s)) :=
  congrArg Host.Outcome.next (frameComplete_delivers (signTest f) hd)

/-- Settles O40: each check is met with the ones before it passed; and the end that is due. -/
theorem lampTestRunsAndEnds : Obligations.LampTestRunsAndEnds := by
  unfold Obligations.LampTestRunsAndEnds
  refine ⟨fun s f hd => ?_, fun s running due => ?_⟩
  · rw [exec_signTest hd]
    refine ⟨fun alarm => ?_, fun clear duty => ?_, fun clear duty => ?_⟩
    · simp [signTest, alarm, Topic.signTest]
    · simp [signTest, clear, duty, Topic.signTest]
    · simp [signTest, clear, duty, lampTestStarted_eq, Topic.signTest]
  · show Host.Outcome.next (lampTestEnd s) = _
    simp [lampTestEnd, running, due, endLampTest_eq]

/-! ### Recovery, the listen phase, dormancy and the wake (R172, R181, R183, R184) -/

/-- Entry into dormancy: the lamp test ends and the lamp is dark (R135), and the CAU falls silent (R158). -/
theorem dormancyEntry_eq {s : State} (running : s.running = true) (awake : s.cbi.dormant = false)
    (timer : s.cbi.dormancyTimer = 240) (quiet : s.quiet = true) : dormancyEntry s = { s with
      cbi := { s.cbi with dormant := true }
      rsd := { s.rsd with lampTest := none, freeLamp := false }
      cau := { s.cau with
        chime := none
        queue := []
        scan := none
        frontMic := SourceLevel.silent
        rearMic := SourceLevel.silent
        radio := SourceLevel.silent
        frontSpk := 0
        rearSpk := 0
        radioOut := 0
        routing := Routing.zero } } := by
  have dark : endLampTest (s.setCbi { s.cbi with dormant := true })
      = (s.setCbi { s.cbi with dormant := true }).setRsd { s.rsd with lampTest := none, freeLamp := false } := by
    simp [endLampTest_eq]
  rw [dormancyEntry, if_pos (by simp [running, awake, timer, quiet, Config.dormancyWindows]), dark]
  rfl

/-- A wake by a dominant edge (R184): the lamp shows its condition again, and the CAU scans from slot 0. -/
theorem wakeOnEdge_dormant {s : State} (bus : s.busOn = true) (dormant : s.cbi.dormant = true) :
    wakeOnEdge s = { s with
      cbi := { s.cbi with
        dormant := false
        dormancyTimer := 0
        idleCount := 0
        inFrame := false
        ackDriven := false }
      rsd := { s.rsd with freeLamp := s.meter == .free && s.rsd.lampTest.isNone }
      cau := { s.cau with
        scan := some ⟨0, 0, 0, s.cau.thresholds.getD 0 ⟨0, 0⟩, false⟩
        routing := routingOf s.cau false s.alm.state } } := by
  have lit : updateLamp (s.setCbi { s.cbi with dormant := false, dormancyTimer := 0 })
      = (s.setCbi { s.cbi with dormant := false, dormancyTimer := 0 }).setRsd
          { s.rsd with freeLamp := s.meter == .free && s.rsd.lampTest.isNone } := by
    simp [updateLamp, State.freeLampOf, State.meter]
  rw [wakeOnEdge, if_pos (by simp [bus, dormant]), wake, if_pos dormant]
  dsimp only
  rw [lit]
  rfl

/-- Settles O55: each end that is due, and the wake. -/
theorem interfacePhasesEnd : Obligations.InterfacePhasesEnd := by
  unfold Obligations.InterfacePhasesEnd
  refine ⟨fun s bus offline gaps => ?_, fun s bus listen => ?_, fun s running awake timer quiet => ⟨_, rfl, ?_⟩,
    fun s bus dormant => ⟨_, rfl, ?_⟩⟩
  · show Host.Outcome.next (offlineRecovery s) = _
    simp [offlineRecovery, bus, offline, gaps, Config.recoveryGaps]
  · show Host.Outcome.next (listenEnd s) = _
    simp [listenEnd, bus, listen, Config.listenWindows]
  · rw [dormancyEntry_eq running awake timer quiet]
    exact ⟨rfl, rfl, rfl, rfl, rfl, rfl, rfl, rfl, rfl, rfl, rfl, rfl, rfl⟩
  · rw [wakeOnEdge_dormant bus dormant]
    exact ⟨rfl, rfl, rfl, rfl⟩

end Sys2Proof.Machine

/-! 06: the refresh pass and the scroll step (R120 to R125). -/

namespace Sys2Proof.Machine

/-! ### The 1,920 intensities of a pass (R122, R123) -/

/-- Pieces of one length stand at the multiples of that length. -/
theorem flatMap_getElem?_of_length {α β : Type} {g : α → List β} {n : Nat} (hg : ∀ a, (g a).length = n) {row : Nat}
    (hr : row < n) {l : List α} {k : Nat} {a : α} (ha : l[k]? = some a) : (l.flatMap g)[k * n + row]? = (g a)[row]? := by
  induction l generalizing k with
  | nil => simp at ha
  | cons b l ih =>
    rw [List.flatMap_cons]
    cases k with
    | zero =>
      obtain rfl : b = a := by simpa using ha
      rw [Nat.zero_mul, Nat.zero_add, List.getElem?_append_left (by rwa [hg])]
    | succ k =>
      rw [List.getElem?_append_right (by rw [hg, Nat.succ_mul]; omega), ← ih (by simpa using ha), hg]
      congr 1
      rw [Nat.succ_mul]
      omega

theorem faceColumn_length (page : List Nat) (eff column : Nat) : (faceColumn page eff column).length = 12 := by
  simp [faceColumn, Config.rows]

theorem faceColumn_getElem? (page : List Nat) (eff column : Nat) {row : Nat} (hr : row < 12) :
    (faceColumn page eff column)[row]? = some (page.getD (row * 80 + column) 0 * eff) := by
  simp [faceColumn, Config.rows, Config.columns, hr]

/-- A face: its columns in the order in which they are sent. -/
def faceOf (page : List Nat) (eff scroll : Nat) (mode : LegendMode) (order : List Nat) : List Nat :=
  order.flatMap fun k => faceColumn page eff (pageColumn mode scroll k)

section Chain

variable (page : List Nat) (eff scroll : Nat) (mode : LegendMode) (mirror : Bool)

theorem chainOf_eq : chainOf page eff scroll mode mirror
    = faceOf page eff scroll mode (List.range 80) ++ faceOf page eff scroll mode (faceBOrder mirror) := rfl

theorem faceOf_length (order : List Nat) : (faceOf page eff scroll mode order).length = order.length * 12 := by
  simp [faceOf, List.length_flatMap, faceColumn_length]

theorem faceOf_getElem? {order : List Nat} {j k row : Nat} (hk : order[j]? = some k) (hr : row < 12) :
    (faceOf page eff scroll mode order)[j * 12 + row]?
      = some (page.getD (row * 80 + pageColumn mode scroll k) 0 * eff) := by
  rw [faceOf, flatMap_getElem?_of_length (fun _ => faceColumn_length ..) hr hk, faceColumn_getElem? _ _ _ hr]

theorem faceBOrder_length : (faceBOrder mirror).length = 80 := by
  cases mirror <;> simp [faceBOrder, Config.columns]

/-- The mirror sends face B's columns from the last to the first. -/
theorem faceBOrder_getElem? {k : Nat} (hk : k < 80) : (faceBOrder mirror)[if mirror then 79 - k else k]? = some k := by
  cases mirror with
  | false => simp [faceBOrder, Config.columns, hk]
  | true =>
    have last : 79 - (79 - k) = k := by omega
    have inside : 79 - k < 80 := by omega
    simp [faceBOrder, Config.columns, last, inside]

theorem chainOf_length : (chainOf page eff scroll mode mirror).length = 1920 := by
  simp [chainOf_eq, faceOf_length, faceBOrder_length]

theorem chainOf_faceA {k row : Nat} (hk : k < 80) (hr : row < 12) : (chainOf page eff scroll mode mirror)[k * 12 + row]?
    = some (page.getD (row * 80 + pageColumn mode scroll k) 0 * eff) := by
  rw [chainOf_eq, List.getElem?_append_left (by rw [faceOf_length, List.length_range]; omega),
    faceOf_getElem? _ _ _ _ (List.getElem?_range hk) hr]

theorem chainOf_faceB {k row : Nat} (hk : k < 80) (hr : row < 12) :
    (chainOf page eff scroll mode mirror)[960 + (if mirror then 79 - k else k) * 12 + row]?
      = some (page.getD (row * 80 + pageColumn mode scroll k) 0 * eff) := by
  have first : (faceOf page eff scroll mode (List.range 80)).length = 960 := by
    rw [faceOf_length, List.length_range]
  rw [chainOf_eq, Nat.add_assoc, List.getElem?_append_right (by rw [first]; omega), first, Nat.add_sub_cancel_left,
    faceOf_getElem? _ _ _ _ (faceBOrder_getElem? mirror hk) hr]

end Chain

/-! ### The pass at the RSD (R121, R124, R125) -/

theorem Rsd.choose_eq (x : Rsd) (src : LegendSource) : x.choose src = { x with
    chosen := some src
    scrollColumn := if x.chosen = some src then x.scrollColumn else 0
    scrollCount := if x.chosen = some src then x.scrollCount else 0
    blink := if x.chosen = some src then x.blink else 0 } := by
  unfold Rsd.choose
  split
  · rename_i same
    rw [← same]
  · rfl

theorem Rsd.choose_legend (x : Rsd) (src shown : LegendSource) : (x.choose src).legend shown = x.legend shown := by
  rw [Rsd.choose_eq]
  rfl

/-- A page is shown outside the dark half of a BLINK (R124). -/
theorem shown_iff (mode : LegendMode) (blink : Nat) : shown mode blink = true ↔ ¬(mode = .blink ∧ 50 ≤ blink) := by
  rw [shown, Bool.or_eq_true, bne_iff_ne, decide_eq_true_iff, Config.blinkShown, not_and_or, Nat.not_le]

section Pass

variable {x : Rsd} {src : LegendSource} {page : Option (List Nat)} {mode : LegendMode} {level : Nat}
  (hl : x.legend src = (page, mode, level)) (ambient : Nat)

include hl

/-- What a pass does besides its intensities. -/
theorem Rsd.pass_eq : x.pass src ambient = { x.choose src with
    chain := (x.pass src ambient).chain
    blink := if (x.choose src).blink + 1 < 100 then (x.choose src).blink + 1 else 0
    scrollCount := (x.choose src).scrollCount + if mode = .scroll then 1 else 0 } := by
  have count : (if mode = .scroll then (x.choose src).scrollCount + 1 else (x.choose src).scrollCount)
      = (x.choose src).scrollCount + if mode = .scroll then 1 else 0 := by split <;> rfl
  rw [← count]
  simp only [Rsd.pass, Rsd.choose_legend, hl]
  rfl

theorem Rsd.pass_chain_dark (dark : page = none ∨ (mode = .blink ∧ 50 ≤ (x.choose src).blink)) :
    (x.pass src ambient).chain = List.replicate 1920 0 := by
  simp only [Rsd.pass, Rsd.choose_legend, hl]
  obtain rfl | ⟨rfl, late⟩ := dark
  · rfl
  · cases page with
    | none => rfl
    | some p => exact if_neg fun lit => (shown_iff _ _).1 lit ⟨rfl, late⟩

theorem Rsd.pass_chain_shown {p : List Nat} (hp : page = some p) (lit : ¬(mode = .blink ∧ 50 ≤ (x.choose src).blink)) :
    (x.pass src ambient).chain
      = chainOf p (effectiveLevel level ambient) (x.choose src).scrollColumn mode x.mirror := by
  have mirror : (x.choose src).mirror = x.mirror := by rw [Rsd.choose_eq]
  simp only [Rsd.pass, Rsd.choose_legend, hl, hp, mirror]
  exact if_pos ((shown_iff _ _).2 lit)

theorem Rsd.pass_chain_length : (x.pass src ambient).chain.length = 1920 := by
  by_cases dark : page = none ∨ (mode = .blink ∧ 50 ≤ (x.choose src).blink)
  · rw [Rsd.pass_chain_dark hl ambient dark, List.length_replicate]
  · obtain ⟨present, lit⟩ := not_or.1 dark
    obtain ⟨p, hp⟩ := Option.ne_none_iff_exists'.1 present
    rw [Rsd.pass_chain_shown hl ambient hp lit, chainOf_length]

end Pass

/-! ### The commands -/

theorem exec_refreshPass {s : State} (running : s.running = true) (due : s.rsd.scrollCount ≠ s.rsd.scrollStep) :
    exec .refreshPass s = .next (s.setRsd (s.rsd.pass s.legendSource s.odu.report.ambient)) := by
  have step : scrollStep s = s := by simp [scrollStep, due]
  show Host.Outcome.next (refreshPass s) = _
  rw [refreshPass, if_pos running, step]

/-- Settles O42: the pass chooses, sends and counts; and the scroll step that is due. -/
theorem refreshPassShowsTheLegend : Obligations.RefreshPassShowsTheLegend := by
  unfold Obligations.RefreshPassShowsTheLegend
  refine ⟨fun s src page mode level blink scroll eff running due hsrc hlegend hblink hscroll heff =>
    ⟨_, exec_refreshPass running due, ?_⟩, fun s running due inside => ?_⟩
  · have source : s.legendSource = src := hsrc.symm
    have hl : s.rsd.legend src = (page, mode, level) := by
      rw [hlegend]
      cases src <;> rfl
    have choice := Rsd.choose_eq s.rsd src
    rw [← hblink, ← hscroll] at choice
    have moved := Rsd.pass_eq hl s.odu.report.ambient
    have dark := Rsd.pass_chain_dark hl s.odu.report.ambient
    have lit := fun {p : List Nat} => Rsd.pass_chain_shown (p := p) hl s.odu.report.ambient
    have length := Rsd.pass_chain_length hl s.odu.report.ambient
    have level' : effectiveLevel level s.odu.report.ambient = eff := heff.symm
    rw [choice] at moved dark lit
    rw [level'] at lit
    rw [source]
    generalize s.rsd.pass src s.odu.report.ambient = after at *
    refine ⟨by rw [State.setRsd_rsd, moved], length, dark, ?shown, ?blink, by rw [State.setRsd_rsd, moved],
      by rw [State.setRsd_rsd, moved], ?frame, rfl⟩
    case shown =>
      intro p hp on k row column hk hr hc
      obtain rfl : column = pageColumn mode scroll k := hc
      rw [State.setRsd_rsd, lit hp on]
      exact ⟨chainOf_faceA _ _ _ _ _ hk hr, chainOf_faceB _ _ _ _ _ hk hr⟩
    case blink =>
      intro below
      rw [State.setRsd_rsd, moved]
      show (if blink + 1 < 100 then blink + 1 else 0) = _
      split <;> omega
    case frame =>
      rw [State.setRsd_rsd, moved]
  · show Host.Outcome.next (scrollStep s) = _
    have next : (if s.rsd.scrollColumn + 1 < 80 then s.rsd.scrollColumn + 1 else 0) = (s.rsd.scrollColumn + 1) % 80 := by
      split <;> omega
    rw [← next, scrollStep, if_pos (by simp [running, due])]
    rfl

end Sys2Proof.Machine

/-! 06: marquee writes (R129 to R133). -/

namespace Sys2Proof.Machine

/-! ### A chain and the pointer it is read with (R130, R133) -/

/-- A chain read from a pointer. -/
def WritePointer.chain (p : WritePointer) (page : List Nat) : Chain := ⟨p.state.start, p.column, p.row, page⟩

/-- What a chain leaves at a frame's end. -/
def Chain.left (c : Chain) : WritePointer × List Nat := (⟨c.column, c.row, c.mode.stop⟩, c.page)

theorem readChain_eq (p : WritePointer) (page : List Nat) (payload : List Byte) :
    readChain p page payload = (payload.foldl Chain.byte (p.chain page)).left := rfl

/-- A pointer left AWAITING reads on where the frame before broke off. -/
theorem PointerOpen.start_stop (x : PointerOpen) : x.start.stop = x := by cases x <;> rfl

theorem WritePointer.chain_closed {p : WritePointer} (h : p.state = .closed) (page : List Nat) :
    p.chain page = ⟨.control, p.column, p.row, page⟩ := by simp [WritePointer.chain, h, PointerOpen.start]

section Modes

variable {b : Byte}

theorem controlMode_onePixel (h7 : b.getLsbD 7 = true) (h6 : b.getLsbD 6 = false) : controlMode b = .onePixel := by
  rw [controlMode, h7, h6]

theorem controlMode_oneColumn (h7 : b.getLsbD 7 = true) (h6 : b.getLsbD 6 = true) : controlMode b = .oneColumn := by
  rw [controlMode, h7, h6]

theorem controlMode_pixels (h7 : b.getLsbD 7 = false) (h6 : b.getLsbD 6 = false) : controlMode b = .pixels := by
  rw [controlMode, h7, h6]

theorem controlMode_columns (h7 : b.getLsbD 7 = false) (h6 : b.getLsbD 6 = true) : controlMode b = .columns := by
  rw [controlMode, h7, h6]

/-- Only a control byte that announces one POINTER unit leaves the pointer AWAITING (log 20). -/
theorem controlMode_stop (b : Byte) :
    (controlMode b).stop = if b.getLsbD 7 = true ∧ b.getLsbD 6 = true then .awaitingColumn else .closed := by
  unfold controlMode
  cases b.getLsbD 7 <;> cases b.getLsbD 6 <;> rfl

end Modes

/-! ### Pixels (R131) -/

/-- A pixel is written in reading order, and the pointer stands at the next one. -/
theorem Chain.pixel_eq (mode : ChainMode) {column row n : Nat} (page : List Nat) (level : Nat) (hc : column < 80)
    (hr : row < 12) (hn : n = row * 80 + column) : Chain.pixel ⟨mode, column, row, page⟩ level
      = ⟨mode, (n + 1) % 960 % 80, (n + 1) % 960 / 80, page.set n level⟩ := by
  subst hn
  by_cases wrap : column + 1 = 80
  · by_cases bottom : row + 1 = 12
    · simp only [Chain.pixel, Config.columns, Config.rows, wrap, bottom, if_true, Chain.mk.injEq, true_and, and_true]
      omega
    · simp only [Chain.pixel, Config.columns, Config.rows, wrap, bottom, if_true, if_false, Chain.mk.injEq, true_and,
        and_true]
      omega
  · simp only [Chain.pixel, Config.columns, wrap, if_false, Chain.mk.injEq, true_and, and_true]
    omega

theorem Chain.pixelByte_eq (mode : ChainMode) {column row n : Nat} (page : List Nat) (b : Byte) (hc : column < 80)
    (hr : row < 12) (hn : n = row * 80 + column) : Chain.pixelByte ⟨mode, column, row, page⟩ b
      = ⟨mode, (n + 2) % 960 % 80, (n + 2) % 960 / 80,
        (page.set n (b.toNat / 16)).set ((n + 1) % 960) (b.toNat % 16)⟩ := by
  rw [Chain.pixelByte, Chain.pixel_eq mode page _ hc hr hn,
    Chain.pixel_eq (n := (n + 1) % 960) mode _ _ (by omega) (by omega) (by omega)]
  have next : ((n + 1) % 960 + 1) % 960 = (n + 2) % 960 := by omega
  rw [next]

/-! ### Runs of units to the end of the frame (R130) -/

/-- Whole POINTER units of a run move the pointer alone. -/
theorem columns_run {rest : List Byte} (even : rest.length % 2 = 0) (column row : Nat) (page : List Nat) :
    ∃ column' row', rest.foldl Chain.byte ⟨.columns, column, row, page⟩ = ⟨.columns, column', row', page⟩ := by
  induction rest using List.twoStepInduction generalizing column row with
  | nil => exact ⟨column, row, rfl⟩
  | singleton c => simp at even
  | cons_cons c r rest ih => exact ih (by simp only [List.length_cons] at even; omega) _ _

/-- A run of pixel bytes stays one. -/
theorem pixels_run (rest : List Byte) (c : Chain) (h : c.mode = .pixels) :
    (rest.foldl Chain.byte c).mode = .pixels := by
  refine List.foldlRecOn (motive := fun c => c.mode = .pixels) rest Chain.byte h fun c hc b _ => ?_
  rw [Chain.byte, hc]
  exact hc

/-! ### What a chain does, unit by unit -/

section Units

variable {p : WritePointer} (page : List Nat) {b : Byte} (c r : Byte) (rest : List Byte)

theorem readChain_nil (p : WritePointer) : readChain p page [] = (p, page) := by
  rw [readChain_eq, List.foldl_nil, WritePointer.chain, Chain.left, PointerOpen.start_stop]

theorem readChain_control (h : p.state = .closed) :
    readChain p page (b :: rest) = (rest.foldl Chain.byte ⟨controlMode b, p.column, p.row, page⟩).left := by
  rw [readChain_eq, WritePointer.chain_closed h]
  rfl

/-- Continuation set: one POINTER unit, and then a control byte. -/
theorem readChain_oneColumn (h : p.state = .closed) (h7 : b.getLsbD 7 = true) (h6 : b.getLsbD 6 = true) :
    readChain p page (b :: rest) = readChain ⟨p.column, p.row, .awaitingColumn⟩ page rest := by
  rw [readChain_control page rest h, controlMode_oneColumn h7 h6]
  rfl

theorem readChain_awaitingColumn (h : p.state = .awaitingColumn) :
    readChain p page (c :: rest) = readChain ⟨p.column, p.row, .awaitingRow (min c.toNat 79)⟩ page rest := by
  rw [readChain_eq, WritePointer.chain, h]
  rfl

theorem readChain_awaitingRow {k : Nat} (h : p.state = .awaitingRow k) :
    readChain p page (r :: rest) = readChain ⟨k, min r.toNat 11, .closed⟩ page rest := by
  rw [readChain_eq, WritePointer.chain, h]
  rfl

/-- Continuation set: one pixel byte, and then a control byte. -/
theorem readChain_onePixel {n : Nat} (h : p.state = .closed) (h7 : b.getLsbD 7 = true) (h6 : b.getLsbD 6 = false)
    (hc : p.column < 80) (hr : p.row < 12) (hn : n = p.row * 80 + p.column) :
    readChain p page (b :: c :: rest) = readChain ⟨(n + 2) % 960 % 80, (n + 2) % 960 / 80, .closed⟩
      ((page.set n (c.toNat / 16)).set ((n + 1) % 960) (c.toNat % 16)) rest := by
  rw [readChain_control page _ h, controlMode_onePixel h7 h6, List.foldl_cons, Chain.byte]
  dsimp only
  rw [Chain.pixelByte_eq _ page c hc hr hn]
  rfl

/-- Where a row has room, the two pixels stand side by side, whatever the row. -/
theorem readChain_onePixel_inRow (h : p.state = .closed) (h7 : b.getLsbD 7 = true) (h6 : b.getLsbD 6 = false)
    (room : p.column < 78) : readChain p page [b, c] = (⟨p.column + 2, p.row, .closed⟩,
      (page.set (p.row * 80 + p.column) (c.toNat / 16)).set (p.row * 80 + p.column + 1) (c.toNat % 16)) := by
  have first : p.column + 1 ≠ 80 := by omega
  have second : p.column + 1 + 1 ≠ 80 := by omega
  rw [readChain_control page _ h, controlMode_onePixel h7 h6]
  simp [Chain.byte, Chain.pixelByte, Chain.pixel, Config.columns, first, second, Chain.left, ChainMode.stop, Nat.add_assoc]

/-- Continuation clear: POINTER units to the end, of which the last counts; cut in the middle it leaves its column. -/
theorem readChain_columns (h : p.state = .closed) (h7 : b.getLsbD 7 = false) (h6 : b.getLsbD 6 = true)
    (even : rest.length % 2 = 0) :
    readChain p page (b :: rest ++ [c, r]) = (⟨min c.toNat 79, min r.toNat 11, .closed⟩, page)
      ∧ (readChain p page (b :: rest ++ [c])).1.state = .awaitingRow (min c.toNat 79) := by
  obtain ⟨column, row, run⟩ := columns_run even p.column p.row page
  rw [List.cons_append, List.cons_append, readChain_control page _ h, readChain_control page _ h,
    controlMode_columns h7 h6, List.foldl_append, List.foldl_append, run]
  exact ⟨rfl, rfl⟩

/-- Continuation clear: pixel bytes to the end, one after the other. -/
theorem readChain_pixels {q : WritePointer} {after : List Nat} {n : Nat} (h : p.state = .closed)
    (h7 : b.getLsbD 7 = false) (h6 : b.getLsbD 6 = false) (before : readChain p page (b :: rest) = (q, after))
    (hc : q.column < 80) (hr : q.row < 12) (hn : n = q.row * 80 + q.column) :
    readChain p page (b :: rest ++ [c]) = (⟨(n + 2) % 960 % 80, (n + 2) % 960 / 80, .closed⟩,
      (after.set n (c.toNat / 16)).set ((n + 1) % 960) (c.toNat % 16)) := by
  rw [List.cons_append, readChain_control page _ h, controlMode_pixels h7 h6, List.foldl_append]
  rw [readChain_control page _ h, controlMode_pixels h7 h6] at before
  have mode := pixels_run rest ⟨.pixels, p.column, p.row, page⟩ rfl
  generalize rest.foldl Chain.byte ⟨.pixels, p.column, p.row, page⟩ = run at *
  obtain ⟨mode', column, row, shown⟩ := run
  obtain rfl : mode' = .pixels := mode
  obtain ⟨rfl, rfl⟩ := Prod.mk.inj before
  rw [List.foldl_cons, List.foldl_nil, Chain.byte]
  dsimp only
  rw [Chain.pixelByte_eq _ shown c hc hr hn]
  rfl

end Units

/-! ### The request (R129) -/

theorem exec_signWrite {s : State} {f : RxFrame} (hd : s.delivers 57 f = true) :
    exec (.signWrite f) s = .next (signWrite f (received s)) :=
  congrArg Host.Outcome.next (frameComplete_delivers (signWrite f) hd)

@[simp] theorem received_fromConsole (s : State) (f : RxFrame) : (received s).fromConsole f = s.fromConsole f := by
  simp [State.fromConsole]

/-- Settles O41: the writer's pointer and page 3, and what the chain makes of them, unit by unit. -/
theorem signWriteActsOnItsPointer : Obligations.SignWriteActsOnItsPointer := by
  unfold Obligations.SignWriteActsOnItsPointer
  refine ⟨fun s f hd => ?request, fun p page b c r closed h7 => ?one,
    fun p page b c r rest n closed hc hr hn => ?units,
    fun p q page after b c rest n closed h7 h6 before hc hr hn =>
      readChain_pixels page c rest closed h7 h6 before hc hr hn,
    fun p page c r rest => ?opened⟩
  case request =>
    rw [exec_signWrite hd]
    exact ⟨fun console => by simp [signWrite, console, Topic.signWrite],
      fun dispatch => by simp [signWrite, dispatch, Topic.signWrite]⟩
  case one =>
    refine ⟨fun h6 => ?_, fun h6 => ?_, fun h6 => ?_, fun h6 room => readChain_onePixel_inRow page c closed h7 h6 room⟩
    · rw [readChain_oneColumn page _ closed h7 h6, readChain_awaitingColumn page c _ rfl, readChain_awaitingRow page r _ rfl,
        readChain_nil]
    · rw [readChain_oneColumn page _ closed h7 h6, readChain_awaitingColumn page c _ rfl, readChain_nil]
    · rw [readChain_oneColumn page _ closed h7 h6, readChain_nil]
  case units =>
    refine ⟨fun h7 h6 => ?_, fun h7 h6 => readChain_onePixel page c rest closed h7 h6 hc hr hn, ?_,
      fun h7 h6 even => readChain_columns page c r rest closed h7 h6 even⟩
    · rw [readChain_oneColumn page _ closed h7 h6, readChain_awaitingColumn page c _ rfl, readChain_awaitingRow page r _ rfl]
    · rw [readChain_control page _ closed, List.foldl_nil, Chain.left, controlMode_stop]
  case opened =>
    refine ⟨readChain_nil page p, fun column => ⟨?_, ?_⟩, fun k row => readChain_awaitingRow page r rest row⟩
    · rw [readChain_awaitingColumn page c _ column, readChain_nil]
    · rw [readChain_awaitingColumn page c _ column, readChain_awaitingRow page r _ rfl]

end Sys2Proof.Machine

/-! 07: what the cabin audio hangs on, through the operations the blocks share (R140, R141, R145, R146, R152). -/

namespace Sys2Proof.Machine

/-! ### The two halves of the invariant -/

/-- The routing matrix is the one of Table 7-3 (R140, R141). -/
def State.Routed (s : State) : Prop := s.cau.routing = routingOf s.cau s.cbi.dormant s.alm.state

/-- The floor and the rear-waiting flag are where R146 to R150 allow them in a meter state `m`. A change of the meter state has
its old value here until the CAU has heard of the new one. -/
def State.Floored (m : MeterState) (s : State) : Prop :=
  (s.cau.floor ≠ .none → m.inTrip = true ∧ s.alm.state = .clear)
    ∧ (s.cau.rearWaiting = true → s.cau.floor = .front ∧ s.cau.rearHeld = true)

variable {s t : State} {m : MeterState}

theorem cabinSound_iff : CabinSound s ↔ s.Routed ∧ s.Floored s.meter := Iff.rfl

theorem CabinSound.routed (h : CabinSound s) : s.Routed := (cabinSound_iff.1 h).1

theorem CabinSound.floored (h : CabinSound s) : s.Floored s.meter := (cabinSound_iff.1 h).2

theorem State.Floored.allowed (h : s.Floored m) : s.cau.floor ≠ .none → m.inTrip = true ∧ s.alm.state = .clear := h.1

theorem State.Floored.waits (h : s.Floored m) :
    s.cau.rearWaiting = true → s.cau.floor = .front ∧ s.cau.rearHeld = true := h.2

/-- With the floor not FRONT nobody waits. -/
theorem State.Floored.waiting_eq_false (h : s.Floored m) (floor : s.cau.floor ≠ .front) : s.cau.rearWaiting = false :=
  Bool.eq_false_of_not_eq_true fun waits => floor (h.waits waits).1

/-- A cleared floor is allowed in every meter state. -/
theorem State.Floored.of_none (floor : s.cau.floor = .none) (waiting : s.cau.rearWaiting = false) : s.Floored m :=
  ⟨fun held => absurd floor held, by simp [waiting]⟩

/-- The floor stays where the meter does not leave the hired states. -/
theorem State.Floored.stays {n : MeterState} (h : s.Floored m) (k : (m.inTrip && !n.inTrip) = false) : s.Floored n := by
  refine ⟨fun held => ?_, h.waits⟩
  obtain ⟨trip, clear⟩ := h.allowed held
  exact ⟨by simpa [trip] using k, clear⟩

theorem State.Floored.congr (h : s.Floored m) (floor : t.cau.floor = s.cau.floor)
    (waiting : t.cau.rearWaiting = s.cau.rearWaiting) (held : t.cau.rearHeld = s.cau.rearHeld) (alm : t.alm = s.alm) :
    t.Floored m := by
  unfold State.Floored
  rwa [floor, waiting, held, alm]

/-- No operation but a change of the meter state needs more than the two halves of its own state. -/
theorem CabinSound.of_halves (routed : s.Routed) (floored : s.Floored m) (meter : s.meter = m) : CabinSound s :=
  ⟨routed, meter ▸ floored⟩

/-! ### The routing matrix through the shared operations -/

theorem setRouting_routed (s : State) : (setRouting s).Routed := rfl

/-- Of the interface the routing reads the dormancy alone. -/
theorem State.Routed.setCbi {c : Cbi} (h : s.Routed) (hd : c.dormant = s.cbi.dormant) : (s.setCbi c).Routed := by
  show s.cau.routing = routingOf s.cau c.dormant s.alm.state
  rw [hd]
  exact h

theorem wake_routed (h : s.Routed) : (wake s).Routed := by
  unfold wake
  split
  · exact setRouting_routed _
  · exact h

theorem enqueue_routed {f : TxFrame} (h : s.Routed) : (enqueue s f).1.Routed := by
  have taken := h.setCbi (Cbi.enqueue_dormant s.cbi f)
  unfold enqueue
  dsimp only
  split
  · exact wake_routed taken
  · exact taken

theorem enqueueTalkState_routed (h : s.Routed) : (enqueueTalkState s).Routed := enqueue_routed h

theorem changeFloor_routed {x : Floor} {w : Bool} (h : s.Routed) : (changeFloor x w s).Routed := by
  unfold changeFloor
  split
  · exact h
  · exact enqueueTalkState_routed (setRouting_routed _)

theorem clearFloor_routed (h : s.Routed) : (clearFloor s).Routed := changeFloor_routed (s := s.setCau _) h

/-! ### The floor through the shared operations -/

@[simp] theorem wake_rearHeld (s : State) : (wake s).cau.rearHeld = s.cau.rearHeld := by
  unfold wake
  split <;> rfl

@[simp] theorem enqueue_rearHeld (s : State) (f : TxFrame) : (enqueue s f).1.cau.rearHeld = s.cau.rearHeld := by
  unfold enqueue
  dsimp only
  split
  · exact wake_rearHeld _
  · rfl

theorem enqueue_floored {f : TxFrame} (h : s.Floored m) : (enqueue s f).1.Floored m :=
  h.congr (by simp) (by simp) (by simp) (by simp)

/-- The floor is the one asked for, changed or not. -/
theorem changeFloor_cau (x : Floor) (w : Bool) (s : State) : (changeFloor x w s).cau.floor = x
    ∧ (changeFloor x w s).cau.rearWaiting = w ∧ (changeFloor x w s).cau.rearHeld = s.cau.rearHeld := by
  unfold changeFloor
  split
  · rename_i same
    exact ⟨same.1, same.2, rfl⟩
  · simp [enqueueTalkState, setRouting]

theorem clearFloor_floored (s : State) : (clearFloor s).Floored m := by
  obtain ⟨floor, waiting, -⟩ := changeFloor_cau .none false (s.setCau { s.cau with frontHeld := false, rearHeld := false })
  exact .of_none floor waiting

/-! ### The invariant through the shared operations -/

theorem wake_cabin (h : CabinSound t) : CabinSound (wake t) :=
  .of_halves (wake_routed h.routed) (h.floored.congr (by simp) (by simp) (by simp) (by simp)) (by simp [State.meter])

theorem enqueue_cabin {f : TxFrame} (h : CabinSound t) : CabinSound (enqueue t f).1 :=
  .of_halves (enqueue_routed h.routed) (enqueue_floored h.floored) (by simp [State.meter])

theorem CabinSound.setCbi {c : Cbi} (h : CabinSound t) (hd : c.dormant = t.cbi.dormant) : CabinSound (t.setCbi c) :=
  ⟨h.routed.setCbi hd, h.2⟩

theorem enqueueCounted_cabin {f : TxFrame} (h : CabinSound t) : CabinSound (enqueueCounted t f) := by
  unfold enqueueCounted
  dsimp only
  split
  · exact enqueue_cabin h
  · exact (enqueue_cabin h).setCbi rfl

theorem answer_cabin {topic : Nat} {f : RxFrame} {code : ResultCode} (h : CabinSound t) :
    CabinSound (answer topic f code t) := enqueueCounted_cabin h

theorem settleReport_cabin (h : CabinSound t) : CabinSound (settleReport t) := enqueueCounted_cabin h

theorem enqueueTalkState_cabin (h : CabinSound t) : CabinSound (enqueueTalkState t) := enqueue_cabin h

theorem enqueueShiftState_cabin (h : CabinSound t) : CabinSound (enqueueShiftState t) := enqueue_cabin h

theorem enqueueFareStatus_cabin (h : CabinSound t) : CabinSound (enqueueFareStatus t) := by
  unfold enqueueFareStatus
  dsimp only
  split <;> exact enqueue_cabin h

theorem enqueueMeterState_routed (h : t.Routed) : (enqueueMeterState t).Routed := by
  unfold enqueueMeterState
  dsimp only
  split <;> exact enqueue_routed h

theorem enqueueMeterState_floored (h : t.Floored m) : (enqueueMeterState t).Floored m := by
  unfold enqueueMeterState
  dsimp only
  split <;> exact enqueue_floored h

theorem enqueueMeterState_cabin (h : CabinSound t) : CabinSound (enqueueMeterState t) :=
  .of_halves (enqueueMeterState_routed h.routed) (enqueueMeterState_floored h.floored) (by simp [State.meter, Trc.meter])

theorem updateLamp_cabin (h : CabinSound t) : CabinSound (updateLamp t) := h

/-- A floor that is given needs the hired states and the alarm CLEAR; a rear that waits needs the floor FRONT and its button. -/
theorem changeFloor_cabin {x : Floor} {w : Bool} (routed : t.Routed)
    (given : x ≠ .none → t.meter.inTrip = true ∧ t.alm.state = .clear)
    (waits : w = true → x = .front ∧ t.cau.rearHeld = true) : CabinSound (changeFloor x w t) := by
  obtain ⟨floor, waiting, held⟩ := changeFloor_cau x w t
  refine .of_halves (m := t.meter) (changeFloor_routed routed) ?_ (by simp [State.meter])
  unfold State.Floored
  rw [floor, waiting, held, (changeFloor_frame x w t).2.2.2.2.2.1]
  exact ⟨given, waits⟩

theorem clearFloor_cabin (h : t.Routed) : CabinSound (clearFloor t) := ⟨clearFloor_routed h, clearFloor_floored t⟩

theorem requestChime_cabin {k : ChimeKind} (h : CabinSound t) : CabinSound (requestChime k t) := by
  rw [requestChime_whole, requestChime_chime]
  exact h

theorem report_cabin {g : Counters → Counters} (h : CabinSound t) : CabinSound (report g t) := by
  unfold report
  split <;> exact h

/-- A meter that leaves the hired states leaves no floor; otherwise the floor was allowed and still is. -/
theorem meterChanged_cabin {old : MeterState} (routed : t.Routed) (floored : t.Floored old) :
    CabinSound (meterChanged old t) := by
  have told : (updateLamp (enqueueMeterState t)).Routed := enqueueMeterState_routed routed
  have kept : (updateLamp (enqueueMeterState t)).Floored old := enqueueMeterState_floored floored
  unfold meterChanged
  dsimp only
  split
  · split <;> exact clearFloor_cabin told
  · rename_i stays
    exact ⟨told, kept.stays (Bool.eq_false_of_not_eq_true stays)⟩

theorem setHeld_cabin {x : HeldState} (h : CabinSound t) : CabinSound (setHeld x t) :=
  meterChanged_cabin (t := t.setTrc _) h.routed h.floored

theorem endLampTest_cabin (h : CabinSound t) : CabinSound (endLampTest t) := h

/-! ### Reception -/

/-- The footing of the receiver is none of the routing's business. -/
theorem CabinSound.setFooting {c : Cbi} (h : CabinSound t) (hc : t.cbi.sameFooting c) : CabinSound (t.setCbi c) :=
  h.setCbi (by rw [hc])

theorem offlineRecovery_cabin (h : CabinSound t) : CabinSound (offlineRecovery t) := by
  obtain ⟨c, e, footing⟩ := offlineRecovery_eq t
  rw [e]
  exact h.setFooting footing

theorem lineIdle_cabin (h : CabinSound t) : CabinSound (lineIdle t) := by
  obtain ⟨c, e, footing⟩ := lineIdle_eq t
  rw [e]
  exact h.setFooting footing

theorem endReception_cabin {idle : Nat} {ack : Bool} (h : CabinSound t) : CabinSound (endReception idle ack t) := by
  unfold endReception impliedIdle
  dsimp only
  split
  · exact (offlineRecovery_cabin (lineIdle_cabin h)).setCbi rfl
  · exact h

theorem wakeOnEdge_cabin (h : CabinSound t) : CabinSound (wakeOnEdge t) := by
  unfold wakeOnEdge
  split
  · exact (wake_cabin h).setCbi rfl
  · exact h

/-- The meter becomes INOPERATIVE, which leaves the hired states where it was in them. -/
theorem duplicateStation_cabin (h : CabinSound t) : CabinSound (duplicateStation t) := by
  unfold duplicateStation
  dsimp only
  split
  · exact h
  · exact meterChanged_cabin (t := stopSettlementTimers _) h.routed h.floored

theorem frameComplete_cabin {topic : Nat} {f : RxFrame} {d : State → State}
    (hd : ∀ {u}, CabinSound u → CabinSound (d u)) (h : CabinSound t) : CabinSound (frameComplete topic f d t) := by
  have passed : CabinSound (received t) := endReception_cabin h
  unfold frameComplete
  split
  · exact h
  split
  · exact wakeOnEdge_cabin h
  split
  · exact h
  dsimp only
  split
  · exact duplicateStation_cabin passed
  split
  · exact passed
  split
  · exact hd passed
  · exact answer_cabin passed
  · exact passed

theorem receiveFault_cabin {x : ReceiveFault} (h : CabinSound t) : CabinSound (receiveFault x t) := by
  unfold receiveFault
  split
  · exact h
  split
  · exact wakeOnEdge_cabin h
  split
  · exact (endReception_cabin h).setCbi rfl
  · exact h

theorem startMark_cabin (h : CabinSound t) : CabinSound (startMark t) := by
  unfold startMark
  split
  · exact h
  split
  · exact wakeOnEdge_cabin h
  split
  · exact h
  · split <;> exact h

end Sys2Proof.Machine

/-! 07: every operation of the blocks keeps the routing matrix and the floor sound (R140, R141, R146 to R152). -/

namespace Sys2Proof.Machine

variable {s t : State} {f : RxFrame}

/-! ### The floor requests (R146 to R151) -/

/-- Outside the hired states there is no floor. -/
theorem CabinSound.floor_eq_none (h : CabinSound t) (trip : t.meter.inTrip = false) : t.cau.floor = .none := by
  by_contra held
  simp [(h.floored.allowed held).1] at trip

/-- The rear's button up, where the rear does not wait. -/
theorem CabinSound.rearReleased (h : CabinSound t) (floor : t.cau.floor ≠ .front) :
    CabinSound (t.setCau { t.cau with rearHeld := false }) :=
  ⟨h.routed, h.floored.allowed, fun waits => absurd (h.floored.waiting_eq_false floor) (by simpa using waits)⟩

theorem giveUpFloor_cabin (h : CabinSound t) : CabinSound (giveUpFloor t) := by
  unfold giveUpFloor
  split
  · rename_i waits
    exact changeFloor_cabin h.routed (fun _ => h.floored.allowed (by simp [waits.1])) nofun
  · rename_i alone
    exact changeFloor_cabin h.routed (by simp) fun waits => absurd ⟨(h.floored.waits waits).1, waits⟩ alone

/-- A request acts in the hired states with the alarm CLEAR alone (R146). -/
theorem floorRequest_cabin {topic : Nat} {act : State → State}
    (ha : t.meter.inTrip = true → t.alm.state = .clear → CabinSound (act t)) (h : CabinSound t) :
    CabinSound (floorRequest topic f act t) := by
  unfold floorRequest
  split
  · exact answer_cabin h
  · split
    · exact answer_cabin h
    · rename_i trip active
      refine answer_cabin (ha (by simpa using trip) ?_)
      cases alarm : t.alm.state <;> simp_all

theorem talkPress_cabin (h : CabinSound t) : CabinSound (talkPress f t) := by
  refine floorRequest_cabin (fun trip clear => ?_) h
  unfold talkPressed
  dsimp only
  split
  · exact changeFloor_cabin (t := t.setCau _) h.routed (fun _ => ⟨trip, clear⟩) fun waits =>
      ⟨rfl, (h.floored.waits waits).2⟩
  · exact changeFloor_cabin (t := t.setCau _) h.routed (fun _ => ⟨trip, clear⟩) fun held => ⟨rfl, held⟩
  · exact h

theorem talkRelease_cabin (h : CabinSound t) : CabinSound (talkRelease f t) := by
  refine floorRequest_cabin (fun _ _ => ?_) h
  unfold talkReleased
  dsimp only
  split
  · exact giveUpFloor_cabin (t := t.setCau _) h
  · exact h

theorem callPress_cabin (h : CabinSound t) : CabinSound (callPress f t) := by
  refine floorRequest_cabin (fun trip clear => ?_) h
  have pressed : CabinSound (t.setCau { t.cau with rearHeld := true }) :=
    ⟨h.routed, h.floored.allowed, fun waits => ⟨(h.floored.waits waits).1, rfl⟩⟩
  unfold callPressed
  dsimp only
  split
  · rename_i floor
    have nobody : t.cau.rearWaiting = false :=
      h.floored.waiting_eq_false (by simp [show t.cau.floor = .none from floor])
    exact changeFloor_cabin pressed.routed (fun _ => ⟨trip, clear⟩) fun waits => absurd nobody (by simpa using waits)
  · split
    · exact pressed
    · exact requestChime_cabin (changeFloor_cabin pressed.routed (fun _ => ⟨trip, clear⟩) fun _ => ⟨rfl, rfl⟩)
  · exact pressed

theorem callRelease_cabin (h : CabinSound t) : CabinSound (callRelease f t) := by
  refine floorRequest_cabin (fun trip clear => ?_) h
  unfold callReleased
  dsimp only
  split
  · exact changeFloor_cabin (t := t.setCau _) h.routed (fun _ => ⟨trip, clear⟩) nofun
  · rename_i floor
    have rear : t.cau.floor ≠ .front := by simp [show t.cau.floor = .rear from floor]
    have released := h.rearReleased rear
    split
    · exact released
    · exact changeFloor_cabin released.routed (by simp) fun waits =>
        absurd (released.floored.waiting_eq_false rear) (by simpa using waits)
  · rename_i floor
    exact h.rearReleased (by simp [show t.cau.floor = .none from floor])

/-- In VOX a source takes a floor that is NONE, and a holder gives its own up (R151). -/
theorem voxAction_cabin {slot : Nat} {before : SourceLevel} (h : CabinSound t) : CabinSound (voxAction slot before t) := by
  unfold voxAction
  dsimp only
  split
  · rename_i allowed
    obtain ⟨-, trip, clear, -⟩ := allowed
    split
    · rename_i floor
      split
      · exact changeFloor_cabin h.routed (fun _ => ⟨trip, clear⟩) fun waits =>
          absurd (h.floored.waiting_eq_false (by simp [floor])) (by simpa using waits)
      · exact h
    · split
      · exact giveUpFloor_cabin h
      · exact h
  · exact h

/-! ### The level scan, the chimes and dormancy (R141 to R145, R155 to R158) -/

/-- A source's level, judged, moves no floor. -/
theorem Cau.setSource_floor (c : Cau) (slot : Nat) (x : SourceLevel) : (c.setSource slot x).floor = c.floor
    ∧ (c.setSource slot x).rearWaiting = c.rearWaiting ∧ (c.setSource slot x).rearHeld = c.rearHeld := by
  unfold Cau.setSource
  split
  · exact ⟨rfl, rfl, rfl⟩
  · split <;> exact ⟨rfl, rfl, rfl⟩

/-- The end of a slot sets the routing again, for the radio's activity (R141). -/
theorem slotEnd_cabin (h : CabinSound t) : CabinSound (slotEnd t) := by
  have judged : ∀ slot x, CabinSound (setRouting (t.setCau (t.cau.setSource slot x))) := fun slot x => by
    obtain ⟨floor, waiting, held⟩ := Cau.setSource_floor t.cau slot x
    exact ⟨setRouting_routed _, h.floored.congr floor waiting held rfl⟩
  unfold slotEnd
  split
  · split
    · dsimp only
      split
      · exact h
      · exact voxAction_cabin (judged _ _)
    · exact h
  · exact h

theorem chimeEnd_cabin (h : CabinSound t) : CabinSound (chimeEnd t) := by
  have next : CabinSound (t.setCau ({ t.cau with chime := none } : Cau).nextChime) := by
    unfold Cau.nextChime
    split <;> exact h
  unfold chimeEnd
  split
  · split
    · exact next
    · exact h
  · exact h

theorem samplePeriod_cabin {front rear radio : Sample} (h : CabinSound t) :
    CabinSound (samplePeriod front rear radio t) := by
  unfold samplePeriod
  split
  · exact chimeEnd_cabin (slotEnd_cabin h)
  · exact h

/-- A dormant part routes nothing. -/
theorem dormancyEntry_cabin (h : CabinSound t) : CabinSound (dormancyEntry t) := by
  unfold dormancyEntry
  split
  · exact ⟨setRouting_routed _, h.floored⟩
  · exact h

/-! ### ALM -/

theorem placeNotice_cabin (h : CabinSound t) : CabinSound (placeNotice t) := by
  unfold placeNotice
  dsimp only
  split <;> exact enqueue_cabin h

theorem noticeOutcome_cabin (h : CabinSound t) : CabinSound (noticeOutcome t) := by
  unfold noticeOutcome
  split
  · dsimp only
    split
    · exact placeNotice_cabin (t := t.setAlm _) h
    · exact h
  · exact h

/-- However the alarm finds the CAU, the floor is cleared and the alarm scene routed (R140, R152). -/
theorem audioAlarmEntry_cabin (t : State) : CabinSound (audioAlarmEntry t) :=
  ⟨setRouting_routed _, clearFloor_floored t.chimesEnded⟩

theorem alarmEntry_cabin (h : CabinSound t) : CabinSound (alarmEntry t) := by
  unfold alarmEntry
  split
  · exact audioAlarmEntry_cabin _
  · exact h

theorem repeatExpiry_cabin (h : CabinSound t) : CabinSound (repeatExpiry t) := by
  unfold repeatExpiry
  split
  · exact placeNotice_cabin h
  · exact h

theorem alarmAck_cabin (h : CabinSound t) : CabinSound (alarmAck f t) := by
  unfold alarmAck
  split
  · exact answer_cabin h
  · exact answer_cabin (t := t.setAlm _) h

/-- The alarm CLEAR again allows no less than before. -/
theorem alarmCleared_cabin (h : CabinSound t) : CabinSound (alarmCleared t) := by
  have floored : t.cau.floor ≠ .none → t.meter.inTrip = true ∧ AlarmState.clear = .clear :=
    fun held => ⟨(h.floored.allowed held).1, rfl⟩
  unfold alarmCleared audioAlarmCleared
  dsimp only
  split <;> exact ⟨setRouting_routed _, floored, h.floored.waits⟩

theorem alarmClear_cabin (h : CabinSound t) : CabinSound (alarmClear f t) := by
  unfold alarmClear
  split
  · exact answer_cabin h
  · exact answer_cabin (alarmCleared_cabin h)

/-! ### RSD and ODU -/

/-- The lamp test's count is the RSD's alone. -/
theorem lampTestTick_cabin (h : CabinSound t) : CabinSound (lampTestTick t) := h

theorem signTest_cabin (h : CabinSound t) : CabinSound (signTest f t) := by
  unfold signTest
  split
  · exact answer_cabin h
  · split
    · exact answer_cabin h
    · exact answer_cabin (updateLamp_cabin (t := t.setRsd _) h)

theorem lampTestEnd_cabin (h : CabinSound t) : CabinSound (lampTestEnd t) := by
  unfold lampTestEnd
  split
  · exact endLampTest_cabin h
  · exact h

theorem signWrite_cabin (h : CabinSound t) : CabinSound (signWrite f t) := by
  unfold signWrite
  dsimp only
  split
  · exact answer_cabin (t := t.setRsd _) h
  · exact answer_cabin (t := t.setRsd _) h

theorem scrollStep_cabin (h : CabinSound t) : CabinSound (scrollStep t) := by
  unfold scrollStep
  split <;> exact h

theorem refreshPass_cabin (h : CabinSound t) : CabinSound (refreshPass t) := by
  unfold refreshPass
  split
  · exact scrollStep_cabin h
  · exact h

theorem wheelInput_cabin {l : WheelLine} {level : Bool} (h : CabinSound t) : CabinSound (wheelInput l level t) := by
  unfold wheelInput
  split
  · split <;> exact h
  · exact h

theorem filterElapsed_cabin {l : WheelLine} (h : CabinSound t) : CabinSound (filterElapsed l t) := by
  unfold filterElapsed
  split
  · split <;> exact h
  · exact h

theorem secondEnd_cabin (h : CabinSound t) : CabinSound (secondEnd t) := by
  unfold secondEnd
  split <;> exact h

theorem retainedTick_cabin (h : CabinSound t) : CabinSound (retainedTick t) := by
  unfold retainedTick
  split <;> exact h

theorem clockSet_cabin (h : CabinSound t) : CabinSound (clockSet f t) := answer_cabin (t := t.setOdu _) h

/-! ### FEN -/

theorem tariffSelect_cabin (h : CabinSound t) : CabinSound (tariffSelect f t) := by
  have selected : CabinSound (tariffSelected (field f.payload 0 1) t) := by
    unfold tariffSelected
    split <;> exact h
  rw [tariffSelect_eq]
  iterate 3 (split; · exact answer_cabin h)
  exact answer_cabin selected

theorem extraAdd_cabin (h : CabinSound t) : CabinSound (extraAdd f t) := by
  unfold extraAdd
  dsimp only
  iterate 3 (split; · exact answer_cabin h)
  exact answer_cabin (enqueueFareStatus_cabin (t := t.setFen _) h)

theorem extraRemove_cabin (h : CabinSound t) : CabinSound (extraRemove f t) := by
  unfold extraRemove
  dsimp only
  iterate 2 (split; · exact answer_cabin h)
  exact answer_cabin (enqueueFareStatus_cabin (t := t.setFen _) h)

theorem windowFareStatus_cabin (h : CabinSound t) : CabinSound (windowFareStatus t) := enqueue_cabin h

theorem fareWindow_cabin {w : WindowRecord} (h : CabinSound t) : CabinSound (fareWindow w t) := by
  unfold fareWindow
  split
  · extract_lets before d c charge s1 s2 s3
    have charged : CabinSound s1 := h
    have limited : CabinSound s2 := by
      show CabinSound (if d.2 then report Counters.addRateLimited s1 else s1)
      split
      · exact report_cabin charged
      · exact charged
    have changed : CabinSound s3 := by
      show CabinSound (if c.2 then requestChime .tariffChanged s2 else s2)
      split
      · exact requestChime_cabin limited
      · exact limited
    split
    · exact windowFareStatus_cabin changed
    · exact changed
  · split
    · exact windowFareStatus_cabin h
    · exact h

/-! ### TRC -/

theorem hire_cabin (h : CabinSound t) : CabinSound (hire f t) := by
  unfold hire
  iterate 6 (split; · exact answer_cabin h)
  exact answer_cabin (enqueueFareStatus_cabin (t := State.setFen _ _) (setHeld_cabin (t := t.setTrc _) h))

theorem stop_cabin (h : CabinSound t) : CabinSound (stop f t) := by
  unfold stop
  iterate 3 (split; · exact answer_cabin h)
  exact answer_cabin (setHeld_cabin (t := t.setTrc _) h)

theorem resume_cabin (h : CabinSound t) : CabinSound (resume f t) := by
  unfold resume
  iterate 3 (split; · exact answer_cabin h)
  exact answer_cabin (setHeld_cabin h)

theorem bookingAssign_cabin (h : CabinSound t) : CabinSound (bookingAssign f t) := by
  unfold bookingAssign
  dsimp only
  iterate 4 (split; · exact answer_cabin h)
  exact answer_cabin (setHeld_cabin (t := t.setTrc _) h)

theorem bookingCancel_cabin (h : CabinSound t) : CabinSound (bookingCancel f t) := by
  unfold bookingCancel
  iterate 2 (split; · exact answer_cabin h)
  split
  · exact answer_cabin (setHeld_cabin (t := t.setTrc _) h)
  · exact answer_cabin h

theorem tripWindow_cabin {w : WindowRecord} (h : CabinSound t) : CabinSound (tripWindow w t) := by
  unfold tripWindow
  split
  · exact h
  · split
    · exact report_cabin h
    · exact h

theorem closeTrip_cabin {o : TripOutcome} {waived : Nat} (h : CabinSound t) : CabinSound (closeTrip o waived t) := by
  unfold closeTrip
  split
  · exact h
  · exact setHeld_cabin (t := (tripCloseArrival _ waived t).setTrc _) h

theorem closeIfPaid_cabin (h : CabinSound t) : CabinSound (closeIfPaid t) := by
  unfold closeIfPaid
  split
  · exact closeTrip_cabin h
  · exact h

theorem settle_cabin (h : CabinSound t) : CabinSound (settle f t) := by
  unfold settle settled
  iterate 3 (split; · exact answer_cabin h)
  split
  · exact answer_cabin (closeTrip_cabin h)
  · split
    · exact answer_cabin h
    · exact answer_cabin (settleReport_cabin (t := State.setStu _ _) (setHeld_cabin h))

theorem void_cabin (h : CabinSound t) : CabinSound (void f t) := by
  unfold void
  iterate 3 (split; · exact answer_cabin h)
  exact answer_cabin (closeTrip_cabin h)

/-! ### STU -/

theorem tenderCash_cabin (h : CabinSound t) : CabinSound (tenderCash f t) := by
  unfold tenderCash
  dsimp only
  iterate 5 (split; · exact answer_cabin h)
  exact answer_cabin (closeIfPaid_cabin (settleReport_cabin (t := t.setStu _) h))

theorem placeRequest_cabin (h : CabinSound t) : CabinSound (placeRequest t) := by
  unfold placeRequest
  split
  · exact h
  · exact enqueue_cabin h

theorem placeCancel_cabin (h : CabinSound t) : CabinSound (placeCancel t) := by
  unfold placeCancel
  split
  · exact h
  · exact enqueue_cabin h

theorem placeQuery_cabin (h : CabinSound t) : CabinSound (placeQuery t) := by
  unfold placeQuery
  split
  · exact h
  · dsimp only
    split <;> exact enqueue_cabin h

theorem enterCancelling_cabin {a : Attempt} (h : CabinSound t) : CabinSound (enterCancelling a t) :=
  placeCancel_cabin (t := t.setAttempt _) h

theorem enterUncertain_cabin {a : Attempt} (h : CabinSound t) : CabinSound (enterUncertain a t) :=
  placeQuery_cabin (t := (t.setAttempt _).abortWhere _) h

theorem endAttempt_cabin {e : Ending} {a : Attempt} (h : CabinSound t) : CabinSound (endAttempt e a t) :=
  settleReport_cabin (t := dropAttempt e a t) h

theorem approveAttempt_cabin {a : Attempt} {approved tip : Nat} (h : CabinSound t) :
    CabinSound (approveAttempt a approved tip t) := by
  have excess : CabinSound (t.excessReported a.requested approved) := by
    unfold State.excessReported
    split
    · exact report_cabin h
    · exact h
  rw [approveAttempt_eq]
  split
  · exact closeIfPaid_cabin (requestChime_cabin (settleReport_cabin (t := State.approved _ _ _ _) excess))
  · exact settleReport_cabin (t := State.approved _ _ _ _) excess

theorem tenderCard_cabin (h : CabinSound t) : CabinSound (tenderCard f t) := by
  unfold tenderCard
  dsimp only
  iterate 8 (split; · exact answer_cabin h)
  exact answer_cabin (settleReport_cabin (placeRequest_cabin (t := t.setStu _) h))

theorem cancelQueued_cabin {a : Attempt} (h : CabinSound t) : CabinSound (cancelQueued a t) := by
  unfold cancelQueued
  dsimp only
  split
  · exact endAttempt_cabin h
  · split
    · exact endAttempt_cabin (t := (t.setAttempt _).abortWhere _) h
    · exact h

theorem payCancel_cabin (h : CabinSound t) : CabinSound (payCancel f t) := by
  unfold payCancel
  iterate 3 (split; · exact answer_cabin h)
  split
  · split
    · exact answer_cabin h
    · exact answer_cabin (cancelQueued_cabin h)
  · exact answer_cabin (settleReport_cabin (enterCancelling_cabin h))
  · exact answer_cabin (settleReport_cabin (enterCancelling_cabin h))
  · exact answer_cabin h
  · exact answer_cabin h

theorem payRequestOutcome_cabin {payload : List Byte} {o : BoxOutcome} (h : CabinSound t) :
    CabinSound (payRequestOutcome payload o t) := by
  unfold payRequestOutcome
  split
  · exact h
  split
  · split
    · split
      · exact settleReport_cabin (enterCancelling_cabin h)
      · exact settleReport_cabin (t := t.setAttempt _) h
    · exact endAttempt_cabin h
    · exact endAttempt_cabin h
  · exact h

theorem settleDefer_cabin (h : CabinSound t) : CabinSound (settleDefer f t) := by
  unfold settleDefer
  iterate 2 (split; · exact answer_cabin h)
  split
  · exact answer_cabin (closeTrip_cabin (settleReport_cabin (t := t.setStu _) h))
  · exact answer_cabin h

theorem placeEntryQuery_cabin {e : UnsettledEntry} (h : CabinSound t) : CabinSound (placeEntryQuery e t) := by
  unfold placeEntryQuery
  dsimp only
  split <;> exact enqueue_cabin h

theorem placeClosingQuery_cabin {e : UnsettledEntry} (h : CabinSound t) : CabinSound (placeClosingQuery e t) :=
  enqueue_cabin h

theorem queryAllEntries_cabin (h : CabinSound t) : CabinSound (queryAllEntries t) :=
  List.foldlRecOn _ _ h fun _ hu _ _ => placeClosingQuery_cabin hu

theorem convertAll_cabin (h : CabinSound t) : CabinSound (convertAll t) :=
  List.foldlRecOn _ _ h fun _ hu _ _ => settleReport_cabin (t := State.abortWhere _ _) hu

theorem payAccepted_cabin (h : CabinSound t) : CabinSound (payAccepted f t) := by
  have taken : ∀ a, CabinSound (accepted a t) := fun a => by
    unfold accepted
    split
    · dsimp only
      split
      · exact settleReport_cabin (t := State.abortWhere _ _) (enterCancelling_cabin h)
      · exact settleReport_cabin (t := State.abortWhere _ _) h
    · exact settleReport_cabin (t := t.setAttempt _) h
    · exact h
    · exact h
    · exact h
  unfold payAccepted
  dsimp only
  split
  · split
    · exact h
    · exact taken _
  · split
    · exact h
    · exact report_cabin h

theorem payResult_cabin (h : CabinSound t) : CabinSound (payResult f t) := by
  have attempted : ∀ a outcome amount tip, CabinSound (attemptResult a outcome amount tip t) := by
    intro a outcome amount tip
    unfold attemptResult
    split
    · exact approveAttempt_cabin h
    · split
      · exact endAttempt_cabin h
      · exact requestChime_cabin (endAttempt_cabin h)
  unfold payResult
  dsimp only
  split
  · exact report_cabin h
  split
  · split
    · exact h
    · exact attempted _ _ _ _
  · split
    · exact settleReport_cabin (t := resolution _ _) h
    · exact report_cabin h

theorem payReference_cabin (h : CabinSound t) : CabinSound (payReference f t) := by
  unfold payReference
  dsimp only
  split
  · exact h
  · split
    · exact h
    · split <;> exact h

theorem offerExpiry_cabin (h : CabinSound t) : CabinSound (offerExpiry t) := by
  unfold offerExpiry
  split
  · exact endAttempt_cabin h
  · exact h

theorem resultExpiry_cabin (h : CabinSound t) : CabinSound (resultExpiry t) := by
  unfold resultExpiry
  split
  · exact settleReport_cabin (enterUncertain_cabin h)
  · exact h

theorem cancelExpiry_cabin (h : CabinSound t) : CabinSound (cancelExpiry t) := by
  unfold cancelExpiry
  split
  · exact settleReport_cabin (enterUncertain_cabin h)
  · exact h

theorem queryExpiry_cabin (h : CabinSound t) : CabinSound (queryExpiry t) := by
  unfold queryExpiry
  split
  · split
    · exact placeQuery_cabin (t := t.setAttempt _) h
    · exact h
  · exact h

theorem entryExpiry_cabin {trip : Nat} (h : CabinSound t) : CabinSound (entryExpiry trip t) := by
  unfold entryExpiry
  split
  · split
    · dsimp only
      split
      · exact h
      · exact placeEntryQuery_cabin (t := t.mapEntry _ _) h
    · exact h
  · exact h

theorem entryExpiries_cabin (h : CabinSound t) : CabinSound (entryExpiries t) :=
  List.foldlRecOn _ _ h fun _ hu _ _ => entryExpiry_cabin hu

theorem settlementRetries_cabin (h : CabinSound t) : CabinSound (settlementRetries t) := by
  have attempt : CabinSound (retryAttempt t) := by
    unfold retryAttempt
    split
    · split
      · exact placeRequest_cabin h
      split
      · exact placeCancel_cabin h
      split
      · exact placeQuery_cabin h
      · exact h
    · exact h
  have entry : ∀ (e : UnsettledEntry) {u : State}, CabinSound u → CabinSound (retryEntry e u) := fun e u hu => by
    have own : CabinSound (if e.waits then placeEntryQuery e u else u) := by
      split
      · exact placeEntryQuery_cabin hu
      · exact hu
    unfold retryEntry
    dsimp only
    split
    · exact placeClosingQuery_cabin own
    · exact own
  rw [settlementRetries_eq]
  split
  · exact h
  · exact List.foldlRecOn _ _ attempt fun _ hu e _ => entry e hu

/-! ### SAU -/

theorem finishClosing_cabin {terminal : Option (Nat × Nat)} (h : CabinSound t) : CabinSound (finishClosing terminal t) :=
  enqueueShiftState_cabin (enqueueMeterState_cabin (t := State.setTrc _ _)
    (convertAll_cabin (t := (endStage2 t).setSau _) h))

theorem placeTotals_cabin (h : CabinSound t) : CabinSound (placeTotals t) := enqueue_cabin h

theorem runClosing_cabin (h : CabinSound t) : CabinSound (runClosing t) := by
  unfold runClosing
  split
  · exact placeTotals_cabin (t := State.setSau _ _) (queryAllEntries_cabin h)
  · exact finishClosing_cabin h

theorem shiftOpen_cabin (h : CabinSound t) : CabinSound (shiftOpen f t) := by
  unfold shiftOpen
  iterate 3 (split; · exact answer_cabin h)
  exact answer_cabin (enqueueShiftState_cabin (setHeld_cabin (t := (t.setSau _).setTrc _) h))

/-- A shift closes in FREE, where there is no floor to take away. -/
theorem shiftClosed_cabin (free : t.meter = .free) (h : CabinSound t) : CabinSound (shiftClosed t) := by
  have floor := h.floor_eq_none (by simp [free, MeterState.inTrip])
  have offDuty : CabinSound ((enterClosing t).setTrc { t.trc with held := .offDuty }) :=
    ⟨h.routed, State.Floored.of_none floor (h.floored.waiting_eq_false (by simp [floor]))⟩
  unfold shiftClosed
  dsimp only
  split
  · exact runClosing_cabin (enqueueShiftState_cabin (setHeld_cabin (t := enterClosing t) h))
  · exact runClosing_cabin (enqueueShiftState_cabin (updateLamp_cabin offDuty))

theorem shiftClose_cabin (h : CabinSound t) : CabinSound (shiftClose f t) := by
  unfold shiftClose
  iterate 2 (split; · exact answer_cabin h)
  split
  · exact answer_cabin h
  · rename_i free
    exact answer_cabin (shiftClosed_cabin (Decidable.of_not_not free) h)

theorem terminalTotals_cabin (h : CabinSound t) : CabinSound (terminalTotals f t) := by
  unfold terminalTotals
  split
  · exact finishClosing_cabin h
  · exact h

theorem totalsExpiry_cabin (h : CabinSound t) : CabinSound (totalsExpiry t) := by
  unfold totalsExpiry
  split
  · exact finishClosing_cabin h
  · exact h

theorem placePart_cabin {k : AnswerKind} (h : CabinSound t) : CabinSound (placePart k t) := by
  unfold placePart
  split
  · exact h
  · exact enqueue_cabin h

theorem startAnswer_cabin {k : AnswerKind} {number : Nat} {bytes : List Byte} (h : CabinSound t) :
    CabinSound (startAnswer k number bytes t) := by
  obtain ⟨c, aborted, only⟩ := abortPart_eq k t
  unfold startAnswer
  rw [aborted]
  exact placePart_cabin (t := State.setSau _ _) (h.setCbi (Cbi.onlyMailboxes_dormant only))

theorem journalRead_cabin (h : CabinSound t) : CabinSound (journalRead f t) := by
  unfold journalRead
  split
  · exact answer_cabin h
  · exact startAnswer_cabin (answer_cabin h)

theorem summaryRead_cabin (h : CabinSound t) : CabinSound (summaryRead f t) := startAnswer_cabin (answer_cabin h)

theorem partOutcome_cabin {k : AnswerKind} {box : Nat} {o : BoxOutcome} (h : CabinSound t) :
    CabinSound (partOutcome k box o t) := by
  unfold partOutcome
  split
  · exact h
  split
  · split
    · split
      · exact placePart_cabin (t := t.setSau _) h
      · exact h
    · exact h
    · exact h
  · exact h

/-! ### CBI -/

theorem statusRead_cabin (h : CabinSound t) : CabinSound (statusRead f t) := by
  unfold statusRead
  dsimp only
  split
  · exact answer_cabin h
  · exact enqueueCounted_cabin (answer_cabin h)

theorem transmitAttempt_cabin (h : CabinSound t) : CabinSound (transmitAttempt t) := by
  unfold transmitAttempt
  split
  · split <;> exact h
  · exact h

theorem mailboxOutcome_cabin {box : Nat} {x : TxFrame} {o : BoxOutcome} (h : CabinSound t) :
    CabinSound (mailboxOutcome box x o t) := by
  unfold mailboxOutcome
  cases x.owner with
  | fen | trc | cau =>
    dsimp only
    split <;> exact h
  | sau =>
    dsimp only
    unfold sauOutcome
    split
    · split <;> exact h
    split
    · exact partOutcome_cabin h
    split
    · exact partOutcome_cabin h
    · exact h
  | stu =>
    dsimp only
    split
    · exact payRequestOutcome_cabin h
    · exact h
  | alm => exact noticeOutcome_cabin h
  | odu | rsd | cbi => exact h

theorem enterOffline_cabin (h : CabinSound t) : CabinSound (enterOffline t) := by
  have emptied : (t.cbi.filled.foldl (fun c i => c.setBox i Mailbox.empty) t.cbi).dormant = t.cbi.dormant :=
    List.foldlRecOn (motive := fun c : Cbi => c.dormant = t.cbi.dormant) _ _ rfl fun _ hc _ _ => hc
  exact List.foldlRecOn _ _ (h.setCbi emptied) fun _ hu _ _ => mailboxOutcome_cabin hu

theorem sentOne_cabin {i : Nat} (h : CabinSound t) : CabinSound (sentOne i t) := mailboxOutcome_cabin (h.setCbi rfl)

theorem failedOne_cabin {i : Nat} {x : TransmitFault} (h : CabinSound t) : CabinSound (failedOne i x t) := by
  have offline : ∀ {u : State}, CabinSound u → CabinSound (if u.cbi.standing = .offline then enterOffline u else u) := by
    intro u hu
    split
    · exact enterOffline_cabin hu
    · exact hu
  unfold failedOne
  dsimp only
  split
  · exact enterOffline_cabin (h.setCbi rfl)
  · split
    · exact mailboxOutcome_cabin (offline (h.setCbi (Cbi.unsent_dormant _ i)))
    · exact offline (h.setCbi (Cbi.unsent_dormant _ i))

theorem lostOne_cabin {i : Nat} (h : CabinSound t) : CabinSound (lostOne i t) := by
  have ended := h.setCbi (Cbi.unsent_dormant (t.cbi.attemptOver 0 true) i)
  unfold lostOne
  dsimp only
  split
  · exact mailboxOutcome_cabin ended
  · exact ended

theorem endAttemptWith_cabin {act : Nat → State → State} {idle : Nat} {receiving : Bool}
    (ha : ∀ i, CabinSound (act i t)) (h : CabinSound t) : CabinSound (endAttemptWith act idle receiving t) := by
  unfold endAttemptWith
  split
  · exact h
  split
  · exact h
  split
  · exact h.setCbi (Cbi.quietEnd_dormant _ _)
  · exact ha _

theorem listenEnd_cabin (h : CabinSound t) : CabinSound (listenEnd t) := by
  unfold listenEnd
  split <;> exact h

theorem backupFail_cabin (h : CabinSound t) : CabinSound (backupFail t) := by
  unfold backupFail
  split <;> exact h

/-! ### Window ends -/

theorem settleDue_cabin (h : CabinSound t) : CabinSound (settleDue t) :=
  dormancyEntry_cabin <| listenEnd_cabin <| lampTestEnd_cabin <| totalsExpiry_cabin <| entryExpiries_cabin <|
    queryExpiry_cabin <| cancelExpiry_cabin <| resultExpiry_cabin <| offerExpiry_cabin <| repeatExpiry_cabin <|
    alarmEntry_cabin <| secondEnd_cabin h

theorem shiftWindow_cabin {w : WindowRecord} (h : CabinSound t) : CabinSound (shiftWindow w t) := by
  unfold shiftWindow
  split <;> exact h

theorem windowTimers_cabin {closed : Bool} (h : CabinSound t) : CabinSound (windowTimers closed t) := by
  have sampled : CabinSound (switchSample closed t) := by
    unfold switchSample
    split <;> exact h
  have repeated : ∀ {u : State}, CabinSound u → CabinSound (repeatTick u) := fun hu => by
    unfold repeatTick
    split <;> exact hu
  have settled : ∀ {u : State}, CabinSound u → CabinSound (settlementTimers u) := fun hu => by
    unfold settlementTimers
    split <;> exact hu
  have counted : ∀ {u : State}, CabinSound u → CabinSound (totalsTick u) := id
  exact (lampTestTick_cabin (counted (settled (repeated sampled)))).setCbi rfl

theorem windowRetries_cabin (h : CabinSound t) : CabinSound (windowRetries t) := by
  have part : ∀ (k : AnswerKind) {u : State}, CabinSound u → CabinSound (partRetry k u) := fun k u hu => by
    unfold partRetry
    split
    · exact placePart_cabin hu
    · exact hu
  have totals : ∀ {u : State}, CabinSound u → CabinSound (totalsRetry u) := fun hu => by
    unfold totalsRetry
    split
    · exact placeTotals_cabin hu
    · exact hu
  have meter : CabinSound (windowMeterState t) := by
    unfold windowMeterState
    split
    · exact enqueue_cabin h
    · exact h
  have shift : ∀ {u : State}, CabinSound u → CabinSound (windowShiftState u) := fun hu => by
    unfold windowShiftState
    split
    · exact enqueueShiftState_cabin hu
    · exact hu
  have talk : ∀ {u : State}, CabinSound u → CabinSound (windowTalkState u) := fun hu => by
    unfold windowTalkState
    split
    · exact enqueueTalkState_cabin hu
    · exact hu
  exact part _ (part _ (totals (settlementRetries_cabin (talk (shift meter)))))

theorem dormancyTick_cabin (h : CabinSound t) : CabinSound (dormancyTick t) := by
  unfold dormancyTick
  split <;> exact h

theorem windowEnd_cabin {closed : Bool} (h : CabinSound t) : CabinSound (windowEnd closed t) := by
  unfold windowEnd
  split
  · exact dormancyTick_cabin (windowRetries_cabin (windowTimers_cabin (tripWindow_cabin (shiftWindow_cabin
      (fareWindow_cabin (t := State.setOdu _ _) (settleDue_cabin h))))))
  · exact h

end Sys2Proof.Machine

/-! 07: every command keeps the routing matrix and the floor sound, and what Table 7-3 says of a sound matrix (R140, R141,
R146). -/

namespace Sys2Proof.Machine

/-! ### Starts -/

/-- Between the beginning of a start and load completion every gain is 0. -/
theorem retainedOnly_cabin (s : State) (main : Bool) (kind : StartKind) : CabinSound (s.retainedOnly main kind) := by
  have idle : ∀ a : AlarmState, Cau.initial.routing = routingOf Cau.initial false a := fun a => by cases a <;> rfl
  exact ⟨idle s.alm.state, State.Floored.of_none rfl rfl⟩

/-- The blocks set the routing once the alarm is known, and the CAU starts with no floor. -/
theorem startBlocks_cabin (img : List Byte) (s : State) : CabinSound (startBlocks (s.loaded img)) := by
  obtain ⟨-, -, -, -, -, cau⟩ := startBlocks_blocks (loaded_delivered img s)
  obtain ⟨-, -, -, -, -, delivered, -⟩ := loaded_frame img s
  obtain ⟨floor, waiting⟩ := Cau.start_idle img
  rw [← delivered] at floor waiting
  refine ⟨enqueueTalkState_routed (setRouting_routed _), State.Floored.of_none ?_ ?_⟩
  · rw [cau]; exact floor
  · rw [cau]; exact waiting

section Commands

variable {s t : State} {f : RxFrame}

theorem loadCompletion_cabin (img : List Byte) (h : CabinSound s) : CabinSound (loadCompletion img s) := by
  unfold loadCompletion
  split
  · exact startBlocks_cabin img s
  · exact h

theorem supplyLoss_cabin (h : CabinSound s) : CabinSound (supplyLoss s) := by
  unfold supplyLoss
  split
  · exact retainedOnly_cabin _ _ _
  · exact h

theorem supplyReturn_cabin (h : CabinSound s) : CabinSound (supplyReturn s) := by
  unfold supplyReturn
  split
  · exact h
  · exact retainedOnly_cabin _ _ _

theorem resetPin_cabin (h : CabinSound s) : CabinSound (resetPin s) := by
  unfold resetPin
  split
  · exact retainedOnly_cabin _ _ _
  · exact h

/-! ### Every frame and every command -/

theorem deliver_cabin {topic : Nat} (h : CabinSound t) : CabinSound (deliver topic f t) := by
  unfold deliver
  split
  · exact alarmAck_cabin h
  · exact alarmClear_cabin h
  · exact hire_cabin h
  · exact stop_cabin h
  · exact resume_cabin h
  · exact settle_cabin h
  · exact void_cabin h
  · exact bookingAssign_cabin h
  · exact bookingCancel_cabin h
  · exact tariffSelect_cabin h
  · exact extraAdd_cabin h
  · exact extraRemove_cabin h
  · exact tenderCash_cabin h
  · exact tenderCard_cabin h
  · exact payCancel_cabin h
  · exact settleDefer_cabin h
  · exact shiftOpen_cabin h
  · exact shiftClose_cabin h
  · exact journalRead_cabin h
  · exact summaryRead_cabin h
  · exact talkPress_cabin h
  · exact talkRelease_cabin h
  · exact callPress_cabin h
  · exact callRelease_cabin h
  · exact signTest_cabin h
  · exact signWrite_cabin h
  · exact statusRead_cabin h
  · exact clockSet_cabin h
  · exact payAccepted_cabin h
  · exact payResult_cabin h
  · exact payReference_cabin h
  · exact terminalTotals_cabin h
  · exact h
  · exact h

/-- A command with a frame of topic `topic` is the delivery of that topic. -/
theorem frame_cabin (topic : Nat) (f : RxFrame) (h : CabinSound s) :
    CabinSound (frameComplete topic f (deliver topic f) s) := frameComplete_cabin deliver_cabin h

theorem exec_cabin (c : Instr) (h : CabinSound s) (he : exec c s = .next t) : CabinSound t := by
  cases c <;> obtain ⟨rfl⟩ := he
  case wheelInputChange l x => exact wheelInput_cabin h
  case filterWidthElapsed l => exact filterElapsed_cabin h
  case windowEnd x => exact windowEnd_cabin h
  case secondEnd => exact secondEnd_cabin h
  case retainedSecondsTick => exact retainedTick_cabin h
  case alarmEntry => exact alarmEntry_cabin h
  case repeatTimerExpiry => exact repeatExpiry_cabin h
  case offerTimerExpiry => exact offerExpiry_cabin h
  case resultTimerExpiry => exact resultExpiry_cabin h
  case cancelTimerExpiry => exact cancelExpiry_cabin h
  case queryTimerExpiry => exact queryExpiry_cabin h
  case entryQueryTimerExpiry trip => exact entryExpiry_cabin h
  case totalsTimerExpiry => exact totalsExpiry_cabin h
  case lampTestEnd => exact lampTestEnd_cabin h
  case refreshPass => exact refreshPass_cabin h
  case scrollStep => exact scrollStep_cabin h
  case samplePeriod x y z => exact samplePeriod_cabin h
  case slotEnd => exact slotEnd_cabin h
  case chimeEnd => exact chimeEnd_cabin h
  case receiveFault x => exact receiveFault_cabin h
  case transmitAttempt => exact transmitAttempt_cabin h
  case attemptSucceeded => exact endAttemptWith_cabin (fun _ => sentOne_cabin h) h
  case attemptFailed x => exact endAttemptWith_cabin (fun _ => failedOne_cabin h) h
  case arbitrationLost => exact endAttemptWith_cabin (fun _ => lostOne_cabin h) h
  case offlineRecovery => exact offlineRecovery_cabin h
  case listenPhaseEnd => exact listenEnd_cabin h
  case dormancyEntry => exact dormancyEntry_cabin h
  case wakeByLine => exact wakeOnEdge_cabin h
  case lineIdle => exact lineIdle_cabin h
  case startMark => exact startMark_cabin h
  case mainSupplyLoss => exact supplyLoss_cabin h
  case backupSupplyFail => exact backupFail_cabin h
  case mainSupplyReturn => exact supplyReturn_cabin h
  case resetPin => exact resetPin_cabin h
  case loadCompletion img => exact loadCompletion_cabin img h
  all_goals exact frame_cabin _ _ h

end Commands

theorem step_cabin {s t : State} (h : CabinSound s) (hs : step s = .next t) : CabinSound t := by
  unfold step at hs
  split at hs
  · obtain ⟨rfl⟩ := hs
    exact h
  · rename_i rest _
    exact exec_cabin _ (s := s.setPending rest) h hs

/-! ### What a sound routing matrix says -/

/-- Intercom audio runs with a floor alone: the rear microphone to the front with the floor REAR, the front one to the rear with
the floor FRONT (Table 7-3). -/
theorem routingOf_intercom {c : Cau} {dormant : Bool} {a : AlarmState}
    (h : (routingOf c dormant a).frontSpk.rearMic ≠ 0 ∨ (routingOf c dormant a).rearSpk.frontMic ≠ 0) :
    c.floor ≠ .none := by
  intro floor
  unfold routingOf at h
  split at h
  · simp [Routing.zero, SinkGains.zero] at h
  · split at h
    · simp [Routing.zero, SinkGains.zero] at h
    · simp [floor] at h

/-- Under the alarm no speaker has a gain (Table 7-3). -/
theorem routingOf_active (c : Cau) (dormant : Bool) :
    (routingOf c dormant .active).frontSpk = ⟨0, 0, 0, 0⟩ ∧ (routingOf c dormant .active).rearSpk = ⟨0, 0, 0, 0⟩ := by
  unfold routingOf
  split <;> exact ⟨rfl, rfl⟩

/-- Settles O46: every command keeps the two halves of the invariant, and Table 7-3 says the rest. -/
theorem stepKeepsCabinPrivate : Obligations.StepKeepsCabinPrivate := by
  unfold Obligations.StepKeepsCabinPrivate
  intro s t hs h
  have sound := step_cabin hs h
  have routed := sound.routed
  unfold State.Routed at routed
  refine ⟨sound, fun audio => sound.floored.allowed ?_, fun active => ?_⟩
  · rw [routed] at audio
    exact routingOf_intercom audio
  · rw [routed, active]
    exact routingOf_active _ _

end Sys2Proof.Machine

/-! 08: the notice of an alarm that runs: its repeat, its outcome, the acknowledgement and the return to CLEAR (R145, R162 to
R165). -/

namespace Sys2Proof.Machine

/-! ### The notice by the state of mailbox 0 (R162) -/

section Notice

variable {s : State}

/-- In mailbox 0 PENDING the newer notice takes the payload of the older. -/
theorem placeNotice_refreshed (hd : s.cbi.dormant = false) (h0 : (s.cbi.box 0).state = .pending) :
    placeNotice s = s.setCbi (s.cbi.refresh 0 s.noticeFrame) := by
  have taken : s.cbi.enqueue s.noticeFrame = (s.cbi.refresh 0 s.noticeFrame, some 0) := by
    simp [Cbi.enqueue, State.noticeFrame, h0]
  unfold placeNotice
  rw [enqueue_eq _ hd, taken]
  rfl

/-- A frame of mailbox 0 that is on the line leaves the notice owed. -/
theorem placeNotice_busy (hd : s.cbi.dormant = false)
    (h0 : (s.cbi.box 0).state = .sending ∨ (s.cbi.box 0).state = .aborting) :
    placeNotice s = s.setAlm { s.alm with noticeOwed := true } := by
  have full : s.cbi.enqueue s.noticeFrame = (s.cbi, none) := by
    obtain h0 | h0 := h0 <;> simp [Cbi.enqueue, State.noticeFrame, h0]
  unfold placeNotice
  rw [enqueue_eq _ hd, full]
  rfl

/-- A mailbox 0 that is not on the line makes no notice owed. -/
theorem owed_or_busy (owed : Bool) {x : BoxState} (h : x = .empty ∨ x = .pending) :
    (owed || x == .sending || x == .aborting) = owed := by
  obtain rfl | rfl := h <;> exact (Bool.or_false _).trans (Bool.or_false owed)

/-! ### The repeat and the outcome (R162, R163) -/

/-- The timer of a repeat that has been placed. -/
def State.repeated (s : State) : State := s.setAlm { s.alm with repeatTimer := some 20 }

theorem exec_repeatTimerExpiry (hr : s.running = true) (active : s.alm.state = .active)
    (unanswered : s.alm.acknowledged = false) (due : s.alm.repeatTimer = some 0) :
    exec .repeatTimerExpiry s = .next (placeNotice s).repeated := by
  show Host.Outcome.next (repeatExpiry s) = _
  rw [repeatExpiry, if_pos (by simp [State.repeatDue, hr, active, unanswered, due])]
  rfl

/-- An outcome of mailbox 0 places the notice that is owed. -/
theorem noticeOutcome_owed (active : s.alm.state = .active) (owed : s.alm.noticeOwed = true) :
    noticeOutcome s = placeNotice (s.setAlm { s.alm with noticeOwed := false }) := by
  simp [noticeOutcome, owed, active]

theorem noticeOutcome_notOwed (owed : s.alm.noticeOwed = false) : noticeOutcome s = s := by
  simp [noticeOutcome, owed]

end Notice

theorem mailboxOutcome_alm {f : TxFrame} (owner : f.owner = .alm) (i : Nat) (o : BoxOutcome) (s : State) :
    mailboxOutcome i f o s = noticeOutcome s := by
  simp [mailboxOutcome, owner]

/-! ### The acknowledgement (R164) -/

section Request

variable {s : State} {f : RxFrame}

theorem exec_alarmAck (hd : s.delivers 2 f = true) : exec (.alarmAck f) s = .next (alarmAck f (received s)) :=
  congrArg Host.Outcome.next (frameComplete_delivers (alarmAck f) hd)

theorem alarmAck_active (active : s.alm.state = .active) :
    alarmAck f s = answer 2 f .done (s.setAlm { s.alm with acknowledged := true, repeatTimer := none }) :=
  if_neg (by simp [active])

theorem alarmAck_clear (clear : s.alm.state = .clear) : alarmAck f s = answer 2 f .refusedState s := if_pos clear

/-! ### The return to CLEAR (R145, R165) -/

theorem exec_alarmClear (hd : s.delivers 3 f = true) : exec (.alarmClear f) s = .next (alarmClear f (received s)) :=
  congrArg Host.Outcome.next (frameComplete_delivers (alarmClear f) hd)

theorem alarmClear_active (active : s.alm.state = .active) : alarmClear f s = answer 3 f .done (alarmCleared s) :=
  if_neg (by simp [active])

theorem alarmClear_clear (clear : s.alm.state = .clear) : alarmClear f s = answer 3 f .refusedState s := if_pos clear

end Request

/-- The alarm over, its notice taken back and the routing set: the return to CLEAR but for slot 1. -/
def State.alarmOver (s : State) : State :=
  setRouting ((s.setAlm { s.alm with state := .clear, repeatTimer := none, noticeOwed := false }).abortWhere isNotice)

theorem alarmCleared_inTrip {s : State} (trip : s.meter.inTrip = true) : alarmCleared s = s.alarmOver := if_pos trip

theorem alarmCleared_outside {s : State} (trip : s.meter.inTrip = false) : alarmCleared s = resetRearSlot s.alarmOver :=
  if_neg (Bool.eq_false_iff.1 trip)

/-- The radio carries the microphones under the alarm alone (Table 7-3). -/
theorem routingOf_clear_radioOut (c : Cau) (dormant : Bool) : (routingOf c dormant .clear).radioOut = ⟨0, 0, 0, 0⟩ := by
  unfold routingOf
  split <;> rfl

/-- The blocks a return to CLEAR touches, and what it makes of the rear microphone and the scan. -/
theorem alarmCleared_spec (s : State) : ∃ c : Cau,
    alarmCleared s = ((s.setAlm { s.alm with state := .clear, repeatTimer := none, noticeOwed := false }).setCbi
      (s.cbi.abortWhere isNotice)).setCau c
      ∧ c.routing.radioOut = ⟨0, 0, 0, 0⟩
      ∧ (s.meter.inTrip = false → s.cau.RearSkipped c)
      ∧ (s.meter.inTrip = true → c.rearMic = s.cau.rearMic ∧ c.scan = s.cau.scan)
      ∧ c = { s.cau with routing := c.routing, rearMic := c.rearMic, scan := c.scan } := by
  have radio := routingOf_clear_radioOut s.cau (s.cbi.abortWhere isNotice).dormant
  cases trip : s.meter.inTrip with
  | true =>
    rw [alarmCleared_inTrip trip]
    exact ⟨_, rfl, radio, nofun, fun _ => ⟨rfl, rfl⟩, rfl⟩
  | false =>
    rw [alarmCleared_outside trip]
    exact ⟨_, rfl, radio, fun _ => ⟨rfl, rfl⟩, nofun, rfl⟩

/-- A PENDING notice is taken back (R165, R174). -/
theorem Cbi.abortWhere_notice {c : Cbi} (owner : (c.box 0).frame.owner = .alm) (topic : (c.box 0).frame.topic = 1)
    (pending : (c.box 0).state = .pending) : ((c.abortWhere isNotice).box 0).state = .empty := by
  rw [Cbi.box_abortWhere, if_pos (by simp [isNotice, owner, topic, Topic.alarmNotice])]
  simp [Mailbox.abort, pending, Mailbox.empty]

/-! ### The statement -/

/-- Settles O39: the notice by the state of mailbox 0, and the two requests by the state of the alarm. -/
theorem alarmRepeatsUntilAcknowledged : Obligations.AlarmRepeatsUntilAcknowledged := by
  unfold Obligations.AlarmRepeatsUntilAcknowledged
  refine ⟨fun s hr active hd _ notice hn => ⟨fun unanswered due => ?repeats, fun i f o owner owed h0 => ?owed,
    fun i f o owner owed => ?notOwed⟩, fun s f hd => ⟨fun active => ?ack, fun clear => ?ackClear⟩,
    fun s f hd => ⟨fun active => ?clears, fun clear => ?clearClear⟩⟩
  case repeats =>
    subst hn
    rw [exec_repeatTimerExpiry hr active unanswered due]
    refine ⟨_, rfl, ?_⟩
    cases h0 : (s.cbi.box 0).state with
    | empty =>
      rw [placeNotice_taken hd h0, owed_or_busy _ (.inl rfl)]
      exact ⟨rfl, fun _ => rfl, nofun, nofun, rfl⟩
    | pending =>
      rw [placeNotice_refreshed hd h0, owed_or_busy _ (.inr rfl)]
      exact ⟨rfl, nofun, fun _ => rfl, nofun, rfl⟩
    | sending =>
      rw [placeNotice_busy hd (.inl h0)]
      exact ⟨by simp [State.repeated], nofun, nofun, fun _ => rfl, rfl⟩
    | aborting =>
      rw [placeNotice_busy hd (.inr h0)]
      exact ⟨by simp [State.repeated], nofun, nofun, fun _ => rfl, rfl⟩
  case owed =>
    subst hn
    rw [mailboxOutcome_alm owner, noticeOutcome_owed active owed]
    exact placeNotice_taken (s := s.setAlm _) hd h0
  case notOwed => rw [mailboxOutcome_alm owner, noticeOutcome_notOwed owed]
  case ack =>
    rw [exec_alarmAck hd, alarmAck_active (by simpa using active)]
    simp
  case ackClear => rw [exec_alarmAck hd, alarmAck_clear (by simpa using clear)]
  case clears =>
    obtain ⟨c, receives, -⟩ := received_eq s
    obtain ⟨a, cleared, radio, skipped, kept, cau⟩ := alarmCleared_spec (received s)
    have box : (received s).cbi.box 0 = s.cbi.box 0 := by simp [Cbi.box]
    rw [exec_alarmClear hd, alarmClear_active (by simpa using active), cleared, ← box]
    refine ⟨_, rfl, ?_, Cbi.abortWhere_notice, radio, ?_, ?_, ?_, Cbi.abortWhere_only _ _, ?_⟩
    all_goals rw [receives] at *
    · rfl
    · exact skipped
    · exact kept
    · exact cau
    · rfl
  case clearClear => rw [exec_alarmClear hd, alarmClear_clear (by simpa using clear)]

end Sys2Proof.Machine

/-! 07: the floor requests (R146 to R150, R154, R155). -/

namespace Sys2Proof.Machine

/-! ### The checks of R146 -/

theorem MeterState.inTrip_iff (m : MeterState) : m.inTrip = true ↔ m = .hired ∨ m = .stopped ∨ m = .settling := by
  cases m <;> simp [MeterState.inTrip]

section Checks

variable {s : State} {topic : Nat} {f : RxFrame} {act : State → State}

theorem floorRequest_outside (trip : ¬s.meter.inTrip = true) :
    floorRequest topic f act s = answer topic f .refusedState s := if_pos (by simpa using trip)

theorem floorRequest_alarm (trip : s.meter.inTrip = true) (active : s.alm.state = .active) :
    floorRequest topic f act s = answer topic f .refusedAlarm s := by
  simp [floorRequest, trip, active]

theorem floorRequest_done (trip : s.meter.inTrip = true) (clear : s.alm.state = .clear) :
    floorRequest topic f act s = answer topic f .done (act s) := by
  simp [floorRequest, trip, clear]

end Checks

section Requests

variable {s : State} {f : RxFrame}

theorem exec_talkPress (hd : s.delivers 52 f = true) :
    exec (.talkPress f) s = .next (floorRequest 52 f talkPressed (received s)) :=
  congrArg Host.Outcome.next (frameComplete_delivers (talkPress f) hd)

theorem exec_talkRelease (hd : s.delivers 53 f = true) :
    exec (.talkRelease f) s = .next (floorRequest 53 f talkReleased (received s)) :=
  congrArg Host.Outcome.next (frameComplete_delivers (talkRelease f) hd)

theorem exec_callPress (hd : s.delivers 54 f = true) :
    exec (.callPress f) s = .next (floorRequest 54 f callPressed (received s)) :=
  congrArg Host.Outcome.next (frameComplete_delivers (callPress f) hd)

theorem exec_callRelease (hd : s.delivers 55 f = true) :
    exec (.callRelease f) s = .next (floorRequest 55 f callReleased (received s)) :=
  congrArg Host.Outcome.next (frameComplete_delivers (callRelease f) hd)

end Requests

/-! ### Each button as one change of the floor (R147 to R150) -/

/-- The front's button as a request gives it. -/
def State.frontButton (held : Bool) (s : State) : State := s.setCau { s.cau with frontHeld := held }

/-- The rear's button as a request gives it. -/
def State.rearButton (held : Bool) (s : State) : State := s.setCau { s.cau with rearHeld := held }

/-- A floor and a rear-waiting flag that stay as they are need no change. -/
theorem changeFloor_same {s : State} {x : Floor} {w : Bool} (floor : s.cau.floor = x) (waiting : s.cau.rearWaiting = w) :
    changeFloor x w s = s := if_pos ⟨floor, waiting⟩

section Buttons

variable (s : State)

theorem talkPressed_eq : talkPressed s =
    changeFloor .front (if s.cau.floor = .rear then s.cau.rearHeld else s.cau.rearWaiting) (s.frontButton true) := by
  show (match s.cau.floor with
    | .none => changeFloor .front s.cau.rearWaiting (s.frontButton true)
    | .rear => changeFloor .front s.cau.rearHeld (s.frontButton true)
    | .front => s.frontButton true) = _
  split <;> rename_i floor
  · rw [if_neg (by simp [floor])]
  · rw [if_pos floor]
  · rw [if_neg (by simp [floor]), changeFloor_same (s := s.frontButton true) (w := s.cau.rearWaiting) floor rfl]

/-- The front gives the floor to a waiting rear, or to no one (R148, R151). -/
theorem giveUpFloor_front (floor : s.cau.floor = .front) :
    giveUpFloor s = changeFloor (if s.cau.rearWaiting then .rear else .none) false s := by
  cases waiting : s.cau.rearWaiting <;> simp [giveUpFloor, floor, waiting]

/-- The rear gives the floor to no one (R150, R151). -/
theorem giveUpFloor_rear (floor : s.cau.floor = .rear) : giveUpFloor s = changeFloor .none s.cau.rearWaiting s := by
  simp [giveUpFloor, floor]

theorem talkReleased_eq : talkReleased s =
    changeFloor (if s.cau.floor = .front then (if s.cau.rearWaiting then .rear else .none) else s.cau.floor)
      (if s.cau.floor = .front then false else s.cau.rearWaiting) (s.frontButton false) := by
  show (if s.cau.floor = .front then giveUpFloor (s.frontButton false) else s.frontButton false) = _
  split
  · rename_i floor
    exact giveUpFloor_front (s.frontButton false) floor
  · exact (changeFloor_same (s := s.frontButton false) rfl rfl).symm

theorem callPressed_eq : callPressed s =
    (if s.cau.floor = .front ∧ s.cau.rearWaiting = false then requestChime .callWaiting else id)
      (changeFloor (if s.cau.floor = .front then .front else .rear)
        (if s.cau.floor = .front then true else s.cau.rearWaiting) (s.rearButton true)) := by
  show (match s.cau.floor with
    | .none => changeFloor .rear s.cau.rearWaiting (s.rearButton true)
    | .front => if s.cau.rearWaiting then s.rearButton true
      else requestChime .callWaiting (changeFloor .front true (s.rearButton true))
    | .rear => s.rearButton true) = _
  split <;> rename_i floor
  · simp [floor]
  · split <;> rename_i waiting
    · simp [floor, waiting, changeFloor_same (s := s.rearButton true) floor waiting]
    · simp [floor, waiting]
  · simp [floor, changeFloor_same (s := s.rearButton true) (w := s.cau.rearWaiting) floor rfl]

theorem callReleased_eq : callReleased s =
    changeFloor
      (if s.cau.floor = .rear ∧ ¬(s.cau.mode = .vox ∧ s.cau.rearMic.active = true) then .none else s.cau.floor)
      (if s.cau.floor = .front then false else s.cau.rearWaiting) (s.rearButton false) := by
  show (match s.cau.floor with
    | .front => changeFloor .front false (s.rearButton false)
    | .rear => if s.cau.mode = IntercomMode.vox ∧ s.cau.rearMic.active then s.rearButton false
      else changeFloor .none s.cau.rearWaiting (s.rearButton false)
    | .none => s.rearButton false) = _
  split <;> rename_i floor
  · simp [floor]
  · split <;> rename_i holds
    · simp [floor, holds, changeFloor_same (s := s.rearButton false) (w := s.cau.rearWaiting) floor rfl]
    · simp [floor, holds]
  · simp [floor, changeFloor_same (s := s.rearButton false) (w := s.cau.rearWaiting) floor rfl]

end Buttons

/-! ### A moved floor and its TALK_STATE (R154) -/

/-- A change of the floor touches the CAU and, for a TALK_STATE, the mailboxes. -/
structure State.FloorMoved (s u : State) : Prop where
  talk : TalkReported s u
  silent : u.cau.floor = s.cau.floor → u.cau.rearWaiting = s.cau.rearWaiting → u.cbi = s.cbi
  only : s.cbi.onlyMailboxes u.cbi
  whole : u = { s with cau := u.cau, cbi := u.cbi }

/-- The floor changed by a CAU `b` that has the floor, the rear-waiting flag and the owed flag of the state. -/
theorem changeFloor_moved {s : State} (hd : s.cbi.dormant = false) {b : Cau} (floor : b.floor = s.cau.floor)
    (waiting : b.rearWaiting = s.cau.rearWaiting) (owed : b.owed = s.cau.owed) (x : Floor) (w : Bool) :
    s.FloorMoved (changeFloor x w (s.setCau b)) where
  talk := (changeFloor_talkReported x w (s.setCau b)).congr floor.symm waiting.symm owed.symm rfl rfl rfl rfl rfl
  silent sameFloor sameWaiting := by
    obtain ⟨newFloor, newWaiting, -⟩ := changeFloor_cau x w (s.setCau b)
    rw [changeFloor_same (floor.trans (sameFloor.symm.trans newFloor)) (waiting.trans (sameWaiting.symm.trans newWaiting))]
    rfl
  only := by
    obtain ⟨c, a, e, only, -⟩ := changeFloor_awake (s := s.setCau b) x w hd
    rw [e]
    exact only
  whole := by
    obtain ⟨c, a, e, -⟩ := changeFloor_awake (s := s.setCau b) x w hd
    rw [e]
    rfl

/-- Of the CAU a change of the floor sets the floor, the flag, the routing and what is owed. -/
theorem changeFloor_fields {s : State} (hd : s.cbi.dormant = false) (b : Cau) (x : Floor) (w : Bool) :
    (changeFloor x w (s.setCau b)).cau = { b with
      floor := x
      rearWaiting := w
      routing := (changeFloor x w (s.setCau b)).cau.routing
      owed := (changeFloor x w (s.setCau b)).cau.owed } := by
  obtain ⟨c, a, e, -, -, -, fields⟩ := changeFloor_awake (s := s.setCau b) x w hd
  rw [e]
  exact fields

/-- A chime requested after the floor has moved is no matter of TALK_STATE. -/
theorem State.FloorMoved.chimed {s u : State} (h : s.FloorMoved u) (k : ChimeKind) : s.FloorMoved (requestChime k u) := by
  obtain ⟨q, p, e⟩ := requestChime_eq k u
  rw [e]
  refine ⟨h.talk.congr rfl rfl rfl rfl rfl rfl rfl rfl, h.silent, h.only, ?_⟩
  rw [h.whole]

/-- A floor moved by a frame that was received, told from the state before the frame. -/
theorem State.FloorMoved.of_received {s u : State} (h : (received s).FloorMoved u) : TalkReported s u
    ∧ (u.cau.floor = s.cau.floor → u.cau.rearWaiting = s.cau.rearWaiting → u.cbi = (received s).cbi)
    ∧ (received s).cbi.onlyMailboxes u.cbi ∧ u = { s with cau := u.cau, cbi := u.cbi } := by
  obtain ⟨talk, silent, only, whole⟩ := h
  refine ⟨talk.congr (by simp) (by simp) (by simp) (by simp) rfl rfl rfl rfl, by simpa using silent, only, ?_⟩
  obtain ⟨c, receives, -⟩ := received_eq s
  rw [receives] at whole
  exact whole

/-- A button's request, from the state before its frame: the CAU it leaves, and the move. -/
theorem changeFloor_requested {s : State} (hd : (received s).cbi.dormant = false) {b : Cau} (floor : b.floor = s.cau.floor)
    (waiting : b.rearWaiting = s.cau.rearWaiting) (owed : b.owed = s.cau.owed) (x : Floor) (w : Bool) {u : State}
    (hu : u = changeFloor x w ((received s).setCau b)) :
    u.cau = { b with floor := x, rearWaiting := w, routing := u.cau.routing, owed := u.cau.owed } ∧ TalkReported s u
      ∧ (u.cau.floor = s.cau.floor → u.cau.rearWaiting = s.cau.rearWaiting → u.cbi = (received s).cbi)
      ∧ (received s).cbi.onlyMailboxes u.cbi ∧ u = { s with cau := u.cau, cbi := u.cbi } := by
  have cau : (received s).cau = s.cau := by simp
  rw [← cau] at floor waiting owed
  subst hu
  exact ⟨changeFloor_fields hd b x w, (changeFloor_moved hd floor waiting owed x w).of_received⟩

/-! ### The CALL_WAITING chime (R149, R155) -/

theorem requestChime_callWaiting {s : State} (clear : s.alm.state = .clear) (hd : s.cbi.dormant = false)
    (room : s.cau.queue.length < 4) :
    (s.cau.chime ≠ none → (requestChime .callWaiting s).cau.chime = s.cau.chime
        ∧ (requestChime .callWaiting s).cau.queue = s.cau.queue ++ [.callWaiting])
      ∧ (s.cau.chime = none → s.cau.queue = [] →
        (requestChime .callWaiting s).cau.chime = some ⟨.callWaiting, 0, 1280, 5, true⟩
          ∧ (requestChime .callWaiting s).cau.queue = []) := by
  rw [requestChime_queued _ clear hd room, State.setCau_cau]
  refine ⟨fun playing => ?_, fun silent empty => ?_⟩
  · rw [Cau.nextChime_playing (by exact playing)]
    exact ⟨rfl, rfl⟩
  · have first := Cau.nextChime_first (c := { s.cau with queue := s.cau.queue ++ [.callWaiting] }) (k := .callWaiting)
      silent (by simp [empty])
    rw [first]
    exact ⟨rfl, rfl⟩

section CallPress

variable {s : State} (hd : s.cbi.dormant = false)

/-- A press that moves the floor, before the chime it may request. -/
def State.callMoved (s : State) : State :=
  changeFloor (if s.cau.floor = .front then .front else .rear) (if s.cau.floor = .front then true else s.cau.rearWaiting)
    (s.rearButton true)

/-- A press that finds the floor FRONT and the rear not waiting requests the chime. -/
theorem callPressed_requests (floor : s.cau.floor = .front) (waiting : s.cau.rearWaiting = false) :
    callPressed s = requestChime .callWaiting s.callMoved := by
  rw [callPressed_eq, if_pos ⟨floor, waiting⟩]
  rfl

theorem callPressed_quiet (quiet : s.cau.floor ≠ .front ∨ s.cau.rearWaiting = true) : callPressed s = s.callMoved := by
  rw [callPressed_eq, if_neg fun ⟨floor, waiting⟩ => quiet.elim (absurd floor) (by simp [waiting])]
  rfl

include hd

theorem callMoved_cau : s.callMoved.cau = { s.cau with
    rearHeld := true
    floor := if s.cau.floor = .front then .front else .rear
    rearWaiting := if s.cau.floor = .front then true else s.cau.rearWaiting
    routing := s.callMoved.cau.routing
    owed := s.callMoved.cau.owed } := changeFloor_fields hd _ _ _

theorem callMoved_chimes : s.callMoved.cau.chime = s.cau.chime ∧ s.callMoved.cau.queue = s.cau.queue := by
  rw [callMoved_cau hd]
  exact ⟨rfl, rfl⟩

theorem callMoved_awake : s.callMoved.cbi.dormant = false := by
  have moved := changeFloor_moved hd (b := (s.rearButton true).cau) rfl rfl rfl
  exact (Cbi.onlyMailboxes_dormant (moved _ _).only).trans hd

/-- Whether a chime is requested or not, the press is one move of the floor. -/
theorem callPressed_moved : s.FloorMoved (callPressed s) ∧ (callPressed s).cau = { s.callMoved.cau with
    chime := (callPressed s).cau.chime
    queue := (callPressed s).cau.queue } := by
  have moved : s.FloorMoved s.callMoved := changeFloor_moved hd (b := (s.rearButton true).cau) rfl rfl rfl _ _
  rw [callPressed_eq]
  split
  · exact ⟨moved.chimed _, requestChime_chime _ _⟩
  · exact ⟨moved, rfl⟩

theorem callPressed_chimes (clear : s.alm.state = .clear) (floor : s.cau.floor = .front)
    (waiting : s.cau.rearWaiting = false) (room : s.cau.queue.length < 4) :
    (s.cau.chime ≠ none → (callPressed s).cau.chime = s.cau.chime
        ∧ (callPressed s).cau.queue = s.cau.queue ++ [.callWaiting])
      ∧ (s.cau.chime = none → s.cau.queue = [] →
        (callPressed s).cau.chime = some ⟨.callWaiting, 0, 1280, 5, true⟩ ∧ (callPressed s).cau.queue = []) := by
  obtain ⟨chime, queue⟩ := callMoved_chimes hd
  have requested := requestChime_callWaiting (s := s.callMoved) (by simpa [State.callMoved, State.rearButton] using clear)
    (callMoved_awake hd) (queue ▸ room)
  rw [chime, queue] at requested
  rw [callPressed_requests floor waiting]
  exact requested

theorem callPressed_silent (silent : s.cau.floor ≠ .front ∨ s.cau.rearWaiting = true ∨ 4 ≤ s.cau.queue.length) :
    (callPressed s).cau.chime = s.cau.chime ∧ (callPressed s).cau.queue = s.cau.queue := by
  obtain ⟨chime, queue⟩ := callMoved_chimes hd
  by_cases requests : s.cau.floor = .front ∧ s.cau.rearWaiting = false
  · obtain ⟨floor, waiting⟩ := requests
    have full : 4 ≤ s.callMoved.cau.queue.length := by simpa [queue, floor, waiting] using silent
    rw [callPressed_requests floor waiting, requestChime_dropped _ (.inr full)]
    exact ⟨chime, queue⟩
  · rw [callPressed_quiet ((not_and_or.1 requests).imp_right Bool.eq_true_of_not_eq_false)]
    exact ⟨chime, queue⟩

end CallPress

/-! ### The statement -/

/-- Settles O48: the checks, and each button as one change of the floor. -/
theorem floorFollowsTheButtons : Obligations.FloorFollowsTheButtons := by
  unfold Obligations.FloorFollowsTheButtons
  simp only [← MeterState.inTrip_iff]
  refine ⟨fun s f topic c hd request => ?refused, fun s f trip clear => ?_⟩
  case refused =>
    have checked : ∃ act, exec c s = .next (floorRequest topic f act (received s)) := by
      obtain ⟨rfl, rfl⟩ | ⟨rfl, rfl⟩ | ⟨rfl, rfl⟩ | ⟨rfl, rfl⟩ := request
      exacts [⟨_, exec_talkPress hd⟩, ⟨_, exec_talkRelease hd⟩, ⟨_, exec_callPress hd⟩, ⟨_, exec_callRelease hd⟩]
    obtain ⟨act, event⟩ := checked
    rw [event]
    exact ⟨fun trip => by rw [floorRequest_outside (by simpa using trip)],
      fun trip active => by rw [floorRequest_alarm (by simpa using trip) (by simpa using active)]⟩
  have allowed : (received s).meter.inTrip = true ∧ (received s).alm.state = .clear := by simp [trip, clear]
  have cau : (received s).cau = s.cau := by simp
  refine ⟨fun hd => ?talkPress, fun hd => ?talkRelease, fun hd => ?callPress, fun hd => ?callRelease⟩
  all_goals have awake := State.delivers_awake hd
  case talkPress =>
    rw [exec_talkPress hd, floorRequest_done allowed.1 allowed.2, talkPressed_eq, cau]
    exact ⟨_, rfl, changeFloor_requested awake (b := { s.cau with frontHeld := true }) rfl rfl rfl _ _
      (by rw [← cau]; rfl)⟩
  case talkRelease =>
    rw [exec_talkRelease hd, floorRequest_done allowed.1 allowed.2, talkReleased_eq, cau]
    exact ⟨_, rfl, changeFloor_requested awake (b := { s.cau with frontHeld := false }) rfl rfl rfl _ _
      (by rw [← cau]; rfl)⟩
  case callRelease =>
    rw [exec_callRelease hd, floorRequest_done allowed.1 allowed.2, callReleased_eq, cau]
    exact ⟨_, rfl, changeFloor_requested awake (b := { s.cau with rearHeld := false }) rfl rfl rfl _ _
      (by rw [← cau]; rfl)⟩
  case callPress =>
    rw [exec_callPress hd, floorRequest_done allowed.1 allowed.2]
    obtain ⟨moved, chimed⟩ := callPressed_moved awake
    have chimes := callPressed_chimes awake allowed.2
    have silent := callPressed_silent awake
    rw [callMoved_cau awake] at chimed
    rw [cau] at chimes silent chimed
    refine ⟨_, rfl, chimed.trans ?_, chimes, silent, moved.of_received⟩
    rw [chimed]

end Sys2Proof.Machine

/-! 07: a sample period (R137, R138, R143, R156). -/

namespace Sys2Proof.Machine

/-! ### No end is due (log 5) -/

section NoEnd

variable {s : State}

theorem slotEnd_early (early : ∀ k, s.cau.scan = some k → k.samples < 320) : slotEnd s = s := by
  unfold slotEnd
  split
  · rename_i k scan
    have running : k.samples ≠ 320 := (early k scan).ne
    simp [Config.slotSamples, running]
  · rfl

theorem chimeEnd_early (early : ∀ p, s.cau.chime = some p → 0 < p.samplesLeft) : chimeEnd s = s := by
  unfold chimeEnd
  split
  · rename_i p chime
    have playing : p.samplesLeft ≠ 0 := (early p chime).ne'
    simp [playing]
  · rfl

/-- The CAU after a period in which it takes the samples given (R137). -/
def Cau.sampled (x : Cau) (front rear radio : Sample) : Cau :=
  let h := (x.chime.map ChimePlay.sample).getD 0
  { x with
    frontSpk := mix x.routing.frontSpk front.toInt rear.toInt radio.toInt h
    rearSpk := mix x.routing.rearSpk front.toInt rear.toInt radio.toInt h
    radioOut := mix x.routing.radioOut front.toInt rear.toInt radio.toInt h
    chime := x.chime.map ChimePlay.advance
    scan := x.scan.map fun k => k.take front rear radio }

theorem exec_samplePeriod (front rear radio : Sample) (hr : s.running = true) (hd : s.cbi.dormant = false)
    (slot : ∀ k, s.cau.scan = some k → k.samples < 320) (chime : ∀ p, s.cau.chime = some p → 0 < p.samplesLeft) :
    exec (.samplePeriod front rear radio) s = .next (s.setCau (s.cau.sampled front rear radio)) := by
  show Host.Outcome.next (samplePeriod front rear radio s) = _
  rw [samplePeriod, if_pos (by simp [hr, hd]), slotEnd_early slot, chimeEnd_early chime]
  rfl

end NoEnd

/-! ### The level scan (R143) -/

theorem Scan.take_early {k : Scan} (early : k.samples < 320) (front rear radio : Sample) :
    k.take front rear radio = { k with
      samples := k.samples + 1
      sum := k.sum + (if k.slot = 0 then front.toInt.natAbs else if k.slot = 1 then rear.toInt.natAbs
        else radio.toInt.natAbs) } := by
  rw [Scan.take, if_pos (show k.samples < Config.slotSamples from early)]
  unfold magnitude
  split
  · rfl
  · split <;> rfl

/-! ### The chime generator (R156) -/

/-- The rests of Table 7-7. -/
theorem ChimeKind.note_rest {k : ChimeKind} {i : Nat} (hi : i < k.notes.length) :
    (k.note i).hz = 0 ↔ (k = .declined ∨ k = .callWaiting) ∧ i = 1 := by
  cases k with
  | paid | tariffChanged =>
    obtain rfl | rfl : i = 0 ∨ i = 1 := by
      simp only [ChimeKind.notes, List.length_cons, List.length_nil] at hi
      omega
    all_goals simp [ChimeKind.note, ChimeKind.notes]
  | declined | callWaiting =>
    obtain rfl | rfl | rfl : i = 0 ∨ i = 1 ∨ i = 2 := by
      simp only [ChimeKind.notes, List.length_cons, List.length_nil] at hi
      omega
    all_goals simp [ChimeKind.note, ChimeKind.notes]

section Play

variable {p : ChimePlay}

theorem ChimePlay.sample_rest (rest : (p.kind.note p.note).hz = 0) : p.sample = 0 := if_pos (.inr rest)

theorem ChimePlay.sample_tone (left : 0 < p.samplesLeft) (tone : (p.kind.note p.note).hz ≠ 0) :
    p.sample = if p.sign then 8000 else -8000 := if_neg (by simp [left.ne', tone])

/-- After a note's last sample the next note begins. -/
theorem ChimePlay.advance_note (last : p.samplesLeft = 1) (more : p.note + 1 < p.kind.notes.length) :
    p.advance = ⟨p.kind, p.note + 1, (p.kind.note (p.note + 1)).ms * 16, 8000 / (p.kind.note (p.note + 1)).hz,
      true⟩ := by
  simp [ChimePlay.advance, last, more, ChimePlay.atNote, Note.samples, Note.half]

/-- After the last note's last sample none is left. -/
theorem ChimePlay.advance_over (last : p.samplesLeft = 1) (ends : p.note + 1 = p.kind.notes.length) :
    p.advance = { p with samplesLeft := 0 } := by
  simp [ChimePlay.advance, last, ends]

/-- Within a note the half period runs down. -/
theorem ChimePlay.advance_within (left : 1 < p.samplesLeft) (half : 1 < p.halfLeft) :
    p.advance = { p with samplesLeft := p.samplesLeft - 1, halfLeft := p.halfLeft - 1 } := by
  simp [ChimePlay.advance, left.ne', Nat.ne_zero_of_lt left, half.not_ge]

/-- At its end the sign changes. -/
theorem ChimePlay.advance_turn (left : 1 < p.samplesLeft) (half : p.halfLeft ≤ 1) :
    p.advance = { p with
      samplesLeft := p.samplesLeft - 1
      halfLeft := 8000 / (p.kind.note p.note).hz
      sign := !p.sign } := by
  simp [ChimePlay.advance, left.ne', Nat.ne_zero_of_lt left, half, Note.half]

end Play

/-! ### The statement -/

/-- Settles O45: with no end due the period is the CAU's, and the chime moves on by where in its note it stands. -/
theorem samplePeriodMixesTheSources : Obligations.SamplePeriodMixesTheSources := by
  unfold Obligations.SamplePeriodMixesTheSources
  intro s a b c h hr hd slot playing hh
  subst hh
  refine ⟨_, exec_samplePeriod a b c hr hd slot playing, rfl, rfl, rfl, rfl, ?scan, fun idle => ?idle,
    fun p rest half chime inKind hrest hhalf => ?play, rfl⟩
  case scan => exact Option.map_congr fun k hk => Scan.take_early (slot k hk) a b c
  case idle => simp [Cau.sampled, idle]
  case play =>
    have left := playing p chime
    have silent := ChimeKind.note_rest inKind
    have moved : (s.setCau (s.cau.sampled a b c)).cau.chime = some p.advance := congrArg (Option.map _) chime
    rw [moved, chime]
    subst hrest hhalf
    rw [← silent]
    refine ⟨ChimePlay.sample_rest, ChimePlay.sample_tone left, fun last more => ?_, fun last ends => ?_,
      fun _ more => ?_, fun _ more within => ?_, fun _ more turns => ?_⟩
    · exact ⟨_, _, congrArg some (ChimePlay.advance_note last more), fun _ => ⟨rfl, rfl⟩⟩
    · exact congrArg some (ChimePlay.advance_over last ends)
    · obtain within | turns := lt_or_ge 1 p.halfLeft
      · exact ⟨_, _, congrArg some (ChimePlay.advance_within more within)⟩
      · exact ⟨_, _, congrArg some (ChimePlay.advance_turn more turns)⟩
    · exact congrArg some (ChimePlay.advance_within more within)
    · exact congrArg some (ChimePlay.advance_turn more turns)

end Sys2Proof.Machine

/-! 07: the end of a slot (R142 to R145, R151, R154) and the end of a chime (R155, R156). -/

namespace Sys2Proof.Machine

/-! ### A measurement (R144) -/

/-- The judgement is the table of R144. -/
theorem SourceLevel.judge_judgedAs (x : SourceLevel) (level : Nat) (t : Threshold) :
    x.JudgedAs (x.judge level t) t level := by
  unfold SourceLevel.judge
  refine ⟨fun loud => if_pos loud, fun below middle => ?_, fun below quiet hang => ?_, fun below quiet hang => ?_⟩
  · rw [if_neg (by omega), if_neg (by omega)]
  · have short : min (x.hang + 1) Config.hangMax = x.hang + 1 := by simp only [Config.hangMax]; omega
    have counting : (x.hang + 1 != Config.hangMax) = true := by simp only [Config.hangMax, bne_iff_ne]; omega
    rw [if_neg (by omega), if_pos quiet]
    simp only [short, counting, Bool.and_true]
  · have full : min (x.hang + 1) Config.hangMax = 8 := by simp only [Config.hangMax]; omega
    rw [if_neg (by omega), if_pos quiet]
    show (⟨level, x.active && min (x.hang + 1) Config.hangMax != Config.hangMax, min (x.hang + 1) Config.hangMax⟩
      : SourceLevel) = _
    rw [full]
    simp [Config.hangMax]

theorem Cau.source_setSource (c : Cau) (slot : Nat) (y : SourceLevel) : (c.setSource slot y).source slot = y := by
  unfold Cau.setSource Cau.source
  split
  · rfl
  · split <;> rfl

/-! ### The slots (R142, R143) -/

/-- The level of a slot that ends. -/
def State.measured (s : State) (k : Scan) : SourceLevel := (s.cau.source k.slot).judge (k.sum / 320) k.threshold

/-- The CAU once a slot's level is stored and judged, and the routing set (R141). -/
def State.judged (s : State) (k : Scan) : Cau := (setRouting (s.setCau (s.cau.setSource k.slot (s.measured k)))).cau

section Slot

variable {s : State} {k : Scan}

theorem State.slotAfter_eq (s : State) (slot : Nat) : s.slotAfter slot = if slot = 0 then
    (if s.meter = .hired ∨ s.meter = .stopped ∨ s.meter = .settling ∨ s.alm.state = .active then 1 else 2)
    else if slot = 1 then 2 else 0 := by
  have taken : s.rearSlotTaken = true ↔
      s.meter = .hired ∨ s.meter = .stopped ∨ s.meter = .settling ∨ s.alm.state = .active := by
    simp [State.rearSlotTaken, MeterState.inTrip_iff, or_assoc]
  simp only [State.slotAfter, taken]

theorem slotEnd_discarded (hr : s.running = true) (hd : s.cbi.dormant = false) (scan : s.cau.scan = some k)
    (full : k.samples = 320) (discard : k.discard = true) :
    slotEnd s = s.setCau (s.cau.beginSlot (s.slotAfter k.slot)) := by
  simp [slotEnd, scan, hr, hd, full, discard, Config.slotSamples]

theorem slotEnd_judged (hr : s.running = true) (hd : s.cbi.dormant = false) (scan : s.cau.scan = some k)
    (full : k.samples = 320) (kept : k.discard = false) {v : State}
    (hv : v = voxAction k.slot (s.cau.source k.slot) (s.setCau (s.judged k))) :
    slotEnd s = v.setCau (v.cau.beginSlot (s.slotAfter k.slot)) := by
  subst hv
  unfold slotEnd
  rw [scan]
  dsimp only
  rw [if_pos (by simp [hr, hd, full, Config.slotSamples]), if_neg (by simp [kept])]
  rfl

/-- A judged slot changes its own source and the routing. -/
theorem State.judged_fields (h : k.slot ≤ 2) : s.judged k = { s.cau with
    frontMic := if k.slot = 0 then s.measured k else s.cau.frontMic
    rearMic := if k.slot = 1 then s.measured k else s.cau.rearMic
    radio := if k.slot = 2 then s.measured k else s.cau.radio
    routing := (s.judged k).routing } := by
  obtain slot | slot | slot : k.slot = 0 ∨ k.slot = 1 ∨ k.slot = 2 := by omega
  all_goals simp [State.judged, setRouting, Cau.setSource, slot]

theorem State.judged_source (s : State) (k : Scan) : (s.judged k).source k.slot = s.measured k :=
  Cau.source_setSource s.cau k.slot (s.measured k)

end Slot

/-! ### VOX at the end of a slot (R151) -/

/-- In PTT_ONLY no source moves the floor. -/
theorem voxAction_pttOnly {s : State} (mode : s.cau.mode = .pttOnly) (slot : Nat) (before : SourceLevel) :
    voxAction slot before s = s := if_neg (by simp [mode])

/-- A source newly ACTIVE finds the floor NONE. -/
def State.voxTakes (s : State) (x y : SourceLevel) : Prop := s.cau.floor = .none ∧ x.active = false ∧ y.active = true

/-- A holder becomes SILENT with its button not held. -/
def State.voxGives (s : State) (side : Floor) (x y : SourceLevel) : Prop :=
  s.cau.floor = side ∧ x.active = true ∧ y.active = false ∧ s.cau.held side = false

theorem slotSide_early {slot : Nat} (early : slot ≤ 1) : slotSide slot = if slot = 0 then .front else .rear := by
  obtain rfl | rfl : slot = 0 ∨ slot = 1 := by omega
  all_goals rfl

theorem slotSide_someone {slot : Nat} (early : slot ≤ 1) : slotSide slot ≠ .none := by
  rw [slotSide_early early]
  split <;> simp

theorem Cau.held_early (c : Cau) (slot : Nat) :
    c.held (if slot = 0 then .front else .rear) = if slot = 0 then c.frontHeld else c.rearHeld := by
  split <;> rfl

section Vox

variable {s : State} {slot : Nat} {x : SourceLevel} (mode : s.cau.mode = .vox) (trip : s.meter.inTrip = true)
  (clear : s.alm.state = .clear) (side : slotSide slot ≠ .none)

include mode trip clear side

theorem voxAction_takes (takes : s.voxTakes x (s.cau.source slot)) :
    voxAction slot x s = changeFloor (slotSide slot) s.cau.rearWaiting s := by
  obtain ⟨floor, was, is⟩ := takes
  simp [voxAction, mode, trip, clear, side, floor, was, is]

theorem voxAction_gives (gives : s.voxGives (slotSide slot) x (s.cau.source slot)) : voxAction slot x s = giveUpFloor s := by
  obtain ⟨floor, was, is, button⟩ := gives
  simp [voxAction, mode, trip, clear, side, floor, was, is, button]

theorem voxAction_keeps (takes : ¬s.voxTakes x (s.cau.source slot))
    (gives : ¬s.voxGives (slotSide slot) x (s.cau.source slot)) : voxAction slot x s = s := by
  unfold voxAction
  dsimp only
  rw [if_pos ⟨mode, trip, clear, side⟩]
  split
  · rename_i floor
    exact if_neg fun h => takes ⟨floor, by simpa using h⟩
  · exact if_neg fun h => gives (by simpa [State.voxGives] using h)

/-- The end of a slot in VOX is one change of the floor. -/
theorem voxAction_floor : ∃ f w, voxAction slot x s = changeFloor f w s
    ∧ (s.voxTakes x (s.cau.source slot) → f = slotSide slot ∧ w = s.cau.rearWaiting)
    ∧ (s.voxGives (slotSide slot) x (s.cau.source slot) →
      (slotSide slot = .front → s.cau.rearWaiting = true → f = .rear ∧ w = false)
        ∧ (slotSide slot = .rear ∨ s.cau.rearWaiting = false → f = .none ∧ w = s.cau.rearWaiting))
    ∧ (¬s.voxTakes x (s.cau.source slot) → ¬s.voxGives (slotSide slot) x (s.cau.source slot) →
      f = s.cau.floor ∧ w = s.cau.rearWaiting) := by
  by_cases takes : s.voxTakes x (s.cau.source slot)
  · exact ⟨_, _, voxAction_takes mode trip clear side takes, fun _ => ⟨rfl, rfl⟩,
      fun gives => absurd (gives.1.symm.trans takes.1) side, fun no => absurd takes no⟩
  by_cases gives : s.voxGives (slotSide slot) x (s.cau.source slot)
  · rw [voxAction_gives mode trip clear side gives]
    obtain front | rear | none : slotSide slot = .front ∨ slotSide slot = .rear ∨ slotSide slot = .none := by
      cases slotSide slot <;> simp
    · refine ⟨_, _, giveUpFloor_front s (gives.1.trans front), (absurd · takes),
        fun _ => ⟨fun _ waits => ?_, fun alone => ?_⟩, fun _ no => absurd gives no⟩
      · exact ⟨if_pos waits, rfl⟩
      · have alone := alone.resolve_left (by simp [front])
        exact ⟨if_neg (by simp [alone]), alone.symm⟩
    · exact ⟨_, _, giveUpFloor_rear s (gives.1.trans rear), (absurd · takes),
        fun _ => ⟨fun front => absurd (rear.symm.trans front) (by decide), fun _ => ⟨rfl, rfl⟩⟩,
        fun _ no => absurd gives no⟩
    · exact absurd none side
  · exact ⟨_, _, (voxAction_keeps mode trip clear side takes gives).trans (changeFloor_same rfl rfl).symm,
      (absurd · takes), (absurd · gives), fun _ _ => ⟨rfl, rfl⟩⟩

end Vox

/-! ### The CAU through a judged slot -/

section Judged

variable {s : State} {k : Scan} (h : k.slot ≤ 2)

include h

theorem State.judged_kept : (s.judged k).floor = s.cau.floor ∧ (s.judged k).rearWaiting = s.cau.rearWaiting
    ∧ (s.judged k).owed = s.cau.owed ∧ (s.judged k).mode = s.cau.mode ∧ (s.judged k).held = s.cau.held := by
  rw [State.judged_fields h]
  exact ⟨rfl, rfl, rfl, rfl, rfl⟩

/-- With no move of the floor the next slot begins on the judged CAU. -/
theorem State.judged_begun (n : Nat) : (s.judged k).beginSlot n = { s.cau with
    frontMic := if k.slot = 0 then s.measured k else s.cau.frontMic
    rearMic := if k.slot = 1 then s.measured k else s.cau.rearMic
    radio := if k.slot = 2 then s.measured k else s.cau.radio
    routing := (s.judged k).routing
    scan := some ⟨n, 0, 0, s.cau.thresholds.getD n ⟨0, 0⟩, false⟩ } := by
  rw [State.judged_fields h]
  rfl

/-- With a change of the floor it begins on what that leaves of the judged CAU. -/
theorem changeFloor_judged_begun (hd : s.cbi.dormant = false) (f : Floor) (w : Bool) (n : Nat) {v : State}
    (hv : v = changeFloor f w (s.setCau (s.judged k))) : v.cau.beginSlot n = { s.cau with
      frontMic := if k.slot = 0 then s.measured k else s.cau.frontMic
      rearMic := if k.slot = 1 then s.measured k else s.cau.rearMic
      radio := if k.slot = 2 then s.measured k else s.cau.radio
      floor := v.cau.floor
      rearWaiting := v.cau.rearWaiting
      routing := v.cau.routing
      owed := v.cau.owed
      scan := some ⟨n, 0, 0, s.cau.thresholds.getD n ⟨0, 0⟩, false⟩ } := by
  have fields := changeFloor_fields hd (s.judged k) f w
  rw [← hv, State.judged_fields h] at fields
  rw [fields]
  rfl

end Judged

/-- In VOX the judged slot is one change of the floor, by what the source was and what it has become. -/
theorem voxAction_judged {s : State} {k : Scan} (mode : s.cau.mode = .vox) (trip : s.meter.inTrip = true)
    (clear : s.alm.state = .clear) (early : k.slot ≤ 1) {x : SourceLevel} {side : Floor} (hside : side = slotSide k.slot) :
    ∃ f w, voxAction k.slot x (s.setCau (s.judged k)) = changeFloor f w (s.setCau (s.judged k))
      ∧ (s.voxTakes x (s.measured k) → f = side ∧ w = s.cau.rearWaiting)
      ∧ (s.voxGives side x (s.measured k) → (side = .front → s.cau.rearWaiting = true → f = .rear ∧ w = false)
        ∧ (side = .rear ∨ s.cau.rearWaiting = false → f = .none ∧ w = s.cau.rearWaiting))
      ∧ (¬s.voxTakes x (s.measured k) → ¬s.voxGives side x (s.measured k) →
        f = s.cau.floor ∧ w = s.cau.rearWaiting) := by
  obtain ⟨floor, waiting, -, jmode, held⟩ := State.judged_kept (s := s) (k := k) (by omega)
  subst hside
  have vox := voxAction_floor (s := s.setCau (s.judged k)) (slot := k.slot) (x := x) (jmode.trans mode) trip clear
    (slotSide_someone early)
  simpa only [State.voxTakes, State.voxGives, State.setCau_cau, floor, waiting, held, State.judged_source] using vox

/-- A floor taken or given up is another floor. -/
theorem State.vox_moved {s : State} {x y : SourceLevel} {side f : Floor} {w : Bool} (someone : side ≠ .none)
    (whenTakes : s.voxTakes x y → f = side ∧ w = s.cau.rearWaiting)
    (whenGives : s.voxGives side x y → (side = .front → s.cau.rearWaiting = true → f = .rear ∧ w = false)
      ∧ (side = .rear ∨ s.cau.rearWaiting = false → f = .none ∧ w = s.cau.rearWaiting))
    (changes : s.voxTakes x y ∨ s.voxGives side x y) : f ≠ s.cau.floor := by
  obtain takes | gives := changes
  · rw [takes.1, (whenTakes takes).1]
    exact someone
  · obtain ⟨passes, ends⟩ := whenGives gives
    rw [gives.1]
    cases side with
    | none => exact absurd rfl someone
    | rear => simp [(ends (.inl rfl)).1]
    | front =>
      cases waits : s.cau.rearWaiting with
      | true => simp [(passes rfl waits).1]
      | false => simp [(ends (.inr waits)).1]

/-- The next slot begins, which is no matter of the floor. -/
theorem State.FloorMoved.slotBegun {s v : State} (h : s.FloorMoved v) (n : Nat) :
    s.FloorMoved (v.setCau (v.cau.beginSlot n)) := by
  refine ⟨h.talk.congr rfl rfl rfl rfl rfl rfl rfl rfl, h.silent, h.only, ?_⟩
  rw [h.whole]
  rfl

/-- A floor that has moved is in a TALK_STATE, or owed. -/
theorem State.FloorMoved.told {s u : State} (h : s.FloorMoved u) (hl : s.cbi.boxes.length = 8)
    (moved : u.cau.floor ≠ s.cau.floor) : u.cau.owed = true
      ∨ u.cbi.carries 114 [codeByte u.cau.floor.code, if u.cau.rearWaiting then 1 else 0] := by
  obtain ⟨taken, -⟩ := h.talk.1 (.inl moved) hl
  cases owed : u.cau.owed with
  | true => exact .inl rfl
  | false => exact .inr (taken (by simp [owed]))

/-! ### The end of a chime (R155, R156) -/

section Chime

variable {s : State} {p : ChimePlay} (hr : s.running = true) (chime : s.cau.chime = some p) (left : p.samplesLeft = 0)

include hr chime left

theorem chimeEnd_due : chimeEnd s = s.setCau ({ s.cau with chime := none } : Cau).nextChime := by
  simp [chimeEnd, chime, hr, left]

theorem chimeEnd_idle (queue : s.cau.queue = []) : chimeEnd s = s.setCau { s.cau with chime := none } := by
  rw [chimeEnd_due hr chime left]
  simp [Cau.nextChime, queue]

theorem chimeEnd_next {k : ChimeKind} {rest : List ChimeKind} (queue : s.cau.queue = k :: rest) :
    chimeEnd s = s.setCau { s.cau with queue := rest, chime := some (ChimePlay.atNote k 0) } := by
  rw [chimeEnd_due hr chime left]
  simp [Cau.nextChime, queue]

end Chime

/-! ### The statement -/

/-- Settles O47: a discarded slot, one judged in PTT_ONLY and one in VOX, and the end of a chime. -/
theorem slotAndChimeEnd : Obligations.SlotAndChimeEnd := by
  unfold Obligations.SlotAndChimeEnd
  refine ⟨fun s k level hr hd scan full slot hlevel n x hn hx => ?slotEnd,
    fun s p hr chime left => ⟨fun queue => ?idle, fun kind rest queue => ?next⟩⟩
  case idle => exact congrArg Host.Outcome.next (chimeEnd_idle hr chime left queue)
  case next => exact congrArg Host.Outcome.next (chimeEnd_next hr chime left queue)
  rw [← s.slotAfter_eq] at hn
  have source : x = s.cau.source k.slot := hx
  subst hlevel hn source
  refine ⟨fun discard => ?discarded, fun kept mode => ?pttOnly, fun kept mode early trip clear hl => ?vox⟩
  case discarded => exact congrArg Host.Outcome.next (slotEnd_discarded hr hd scan full discard)
  case pttOnly =>
    obtain ⟨-, -, -, jmode, -⟩ := State.judged_kept (s := s) slot
    have still := voxAction_pttOnly (s := s.setCau (s.judged k)) (jmode.trans mode) k.slot (s.cau.source k.slot)
    refine ⟨_, s.measured k, congrArg Host.Outcome.next (slotEnd_judged hr hd scan full kept still.symm),
      SourceLevel.judge_judgedAs _ _ _, State.judged_begun slot _, rfl⟩
  case vox =>
    rw [← MeterState.inTrip_iff] at trip
    obtain ⟨jfloor, jwaiting, jowed, -⟩ := State.judged_kept (s := s) slot
    obtain ⟨f, w, moves, whenTakes, whenGives, whenKeeps⟩ :=
      voxAction_judged mode trip clear early (x := s.cau.source k.slot) rfl
    have begun := changeFloor_judged_begun slot hd f w (s.slotAfter k.slot) rfl
    have moved := (changeFloor_moved hd jfloor jwaiting jowed f w).slotBegun (s.slotAfter k.slot)
    obtain ⟨floor, waiting, -⟩ := changeFloor_cau f w (s.setCau (s.judged k))
    have event := slotEnd_judged hr hd scan full kept moves.symm
    generalize changeFloor f w (s.setCau (s.judged k)) = v at *
    rw [if_neg (show k.slot ≠ 2 by omega)] at begun
    subst floor waiting
    refine ⟨_, s.measured k, congrArg Host.Outcome.next event, SourceLevel.judge_judgedAs _ _ _,
      fun side held takes gives hside hheld htakes hgives => ?_⟩
    obtain rfl : side = slotSide k.slot := hside.trans (slotSide_early early).symm
    obtain rfl : held = s.cau.held (slotSide k.slot) := by rw [hheld, slotSide_early early, Cau.held_early]
    subst htakes hgives
    exact ⟨whenTakes, fun g => (whenGives g).1, fun g => (whenGives g).2,
      fun noTake noGive => ⟨(whenKeeps noTake noGive).1, (whenKeeps noTake noGive).2,
        moved.silent (whenKeeps noTake noGive).1 (whenKeeps noTake noGive).2⟩,
      fun changes => moved.told hl (State.vox_moved (slotSide_someone early) whenTakes whenGives changes), begun,
      moved.only, moved.whole⟩

end Sys2Proof.Machine

/-! 09: the mailboxes, the standing and the selection, through the interface's own operations (R170 to R174, R176, R182). -/

namespace Sys2Proof.Machine

/-! ### Mailboxes (R173, R174) -/

/-- A mailbox `m` became `n` without taking a frame: what it holds it held, and a state topic PENDING in it was so before. -/
structure Mailbox.Within (m n : Mailbox) : Prop where
  held : n.state ≠ .empty → m.state ≠ .empty ∧ n.frame.cls = m.frame.cls
  pending : n.pendingState = true → m.pendingState = true ∧ n.frame.topic = m.frame.topic

theorem Mailbox.Within.refl (m : Mailbox) : m.Within m := ⟨fun h => ⟨h, rfl⟩, fun h => ⟨h, rfl⟩⟩

theorem Mailbox.empty_within (m : Mailbox) : m.Within Mailbox.empty := ⟨fun h => absurd rfl h, nofun⟩

theorem Mailbox.abort_within (m : Mailbox) : m.Within m.abort := by
  unfold Mailbox.abort
  split
  · exact m.empty_within
  · rename_i sending
    exact ⟨fun _ => ⟨by simp [sending], rfl⟩, by simp [Mailbox.pendingState]⟩
  · exact .refl m
  · exact .refl m

variable {c d : Cbi}

theorem MailboxesSound.length (h : MailboxesSound c) : c.boxes.length = 8 := h.1

theorem MailboxesSound.first (h : MailboxesSound c) : (c.box 0).state ≠ .empty → (c.box 0).frame.cls = clsAlarm := h.2.1

theorem MailboxesSound.others (h : MailboxesSound c) :
    ∀ i, 1 ≤ i → i < 8 → (c.box i).state ≠ .empty → (c.box i).frame.cls ≠ clsAlarm := h.2.2.1

theorem StandingSound.counter_le (h : StandingSound c) : c.faultCounter ≤ 256 := h.1

theorem InterfaceSound.mailboxes (h : InterfaceSound c) : MailboxesSound c := h.1

theorem InterfaceSound.stands (h : InterfaceSound c) : StandingSound c := h.2

/-- Mailboxes that take no frame stay sound. -/
theorem MailboxesSound.of_within (h : MailboxesSound c) (length : d.boxes.length = c.boxes.length)
    (within : ∀ i, (c.box i).Within (d.box i)) : MailboxesSound d := by
  obtain ⟨eight, first, others, single⟩ := h
  refine ⟨length.trans eight, fun held => ?_, fun i h1 h8 held => ?_, fun i j hi hi8 hj hj8 pi pj same => ?_⟩
  · obtain ⟨was, cls⟩ := (within 0).held held
    exact cls.trans (first was)
  · obtain ⟨was, cls⟩ := (within i).held held
    exact cls ▸ others i h1 h8 was
  · obtain ⟨wi, ti⟩ := (within i).pending pi
    obtain ⟨wj, tj⟩ := (within j).pending pj
    exact single i j hi hi8 hj hj8 wi wj (ti.symm.trans (same.trans tj))

theorem MailboxesSound.setBox_within {i : Nat} {m : Mailbox} (h : MailboxesSound c) (hm : (c.box i).Within m) :
    MailboxesSound (c.setBox i m) := by
  refine h.of_within (c.setBox_length i m) fun j => ?_
  rw [Cbi.box_setBox]
  split
  · rename_i here
    obtain ⟨rfl, -⟩ := here
    exact hm
  · exact .refl _

/-- A mailbox becomes PENDING: it is mailbox 0 for the ALARM class alone, and no other holds its state topic PENDING. -/
theorem MailboxesSound.setPending {i : Nat} {m : Mailbox} (h : MailboxesSound c) (cls : m.frame.cls = clsAlarm ↔ i = 0)
    (fresh : i ≠ 0 → m.frame.kind = .state → c.pendingOf m.frame.topic = none) : MailboxesSound (c.setBox i m) := by
  obtain ⟨eight, first, others, single⟩ := h
  have absent : ∀ j, 1 ≤ i → 1 ≤ j → j < 8 → m.pendingState = true → (c.box j).pendingState = true →
      (c.box j).frame.topic ≠ m.frame.topic := fun j hi h1 h8 pm pj same => by
    simp only [Mailbox.pendingState, Bool.and_eq_true, beq_iff_eq] at pm pj
    have none := List.find?_eq_none.1 (fresh (by omega) pm.2) j (mem_routineBoxes.2 ⟨h1, h8⟩)
    simp [pj.1, same] at none
  refine ⟨by simpa using eight, ?_, ?_, ?_⟩
  · rw [Cbi.box_setBox]
    split
    · rename_i here
      exact fun _ => cls.2 here.1
    · exact first
  · intro j h1 h8
    rw [Cbi.box_setBox]
    split
    · rename_i here
      exact fun _ alarm => by have := cls.1 alarm; omega
    · exact others j h1 h8
  · intro j k hj hj8 hk hk8
    simp only [Cbi.box_setBox]
    split <;> split
    · rename_i here there
      exact fun _ _ _ => here.1.symm.trans there.1
    · rename_i here _
      exact fun pm pk same => absurd same.symm (absent k (here.1 ▸ hj) hk hk8 pm pk)
    · rename_i _ there
      exact fun pj pm same => absurd same (absent j (there.1 ▸ hk) hj hj8 pm pj)
    · exact single j k hj hj8 hk hk8

/-- A SENDING mailbox goes back to PENDING where no newer mailbox of its state topic is (R176). -/
theorem MailboxesSound.setUnsent {i : Nat} (h : MailboxesSound c) (sending : (c.box i).state = .sending)
    (newest : c.superseded (c.box i).frame = false) :
    MailboxesSound (c.setBox i { c.box i with state := .pending }) := by
  have held : (c.box i).state ≠ .empty := by simp [sending]
  have inside := h.length ▸ Cbi.box_lt held
  refine h.setPending ⟨fun alarm => ?_, ?_⟩ fun _ kind => ?_
  · by_contra other
    exact h.others i (by omega) inside held alarm
  · rintro rfl
    exact h.first held
  · simpa [Cbi.superseded, show (c.box i).frame.kind = .state from kind] using newest

theorem MailboxesSound.refresh {i : Nat} {f : TxFrame} (h : MailboxesSound c) : MailboxesSound (c.refresh i f) :=
  h.setBox_within ⟨fun held => ⟨held, rfl⟩, fun pending => ⟨pending, rfl⟩⟩

theorem MailboxesSound.write {i : Nat} {f : TxFrame} (h : MailboxesSound c) (cls : f.cls = clsAlarm ↔ i = 0)
    (fresh : i ≠ 0 → f.kind = .state → c.pendingOf f.topic = none) : MailboxesSound (c.write i f) :=
  h.setPending (m := ⟨.pending, f, c.nextAge⟩) cls fresh

/-- An enqueue writes mailbox 0 for the ALARM class alone, and a state topic that is PENDING is refreshed (R173). -/
theorem MailboxesSound.enqueue {f : TxFrame} (h : MailboxesSound c) : MailboxesSound (c.enqueue f).1 := by
  unfold Cbi.enqueue
  split
  · rename_i alarm
    split
    · exact h.write ⟨fun _ => rfl, fun _ => alarm⟩ (absurd rfl)
    · exact h.refresh
    · exact h
    · exact h
  · rename_i alarm
    split
    · exact h.refresh
    · rename_i absent
      split
      · rename_i i found
        obtain ⟨low, -⟩ := Cbi.firstEmpty_some found
        exact h.write ⟨fun a => absurd a alarm, by omega⟩ fun _ kind => by rwa [if_pos kind] at absent
      · exact h

theorem MailboxesSound.abortWhere {p : TxFrame → Bool} (h : MailboxesSound c) : MailboxesSound (c.abortWhere p) := by
  refine h.of_within (by simp [Cbi.abortWhere]) fun i => ?_
  rw [Cbi.box_abortWhere]
  split
  · exact Mailbox.abort_within _
  · exact .refl _

theorem MailboxesSound.abortBox {i : Nat} {p : TxFrame → Bool} (h : MailboxesSound c) :
    MailboxesSound (c.abortBox i p) := by
  unfold Cbi.abortBox
  split
  · exact h.setBox_within (Mailbox.abort_within _)
  · exact h

/-! ### The standing (R171) -/

/-- The interface reads soundly what its mailboxes, its fault counter and its standing say. -/
theorem InterfaceSound.congr (h : InterfaceSound c)
    (same : (d.boxes, d.faultCounter, d.standing) = (c.boxes, c.faultCounter, c.standing)) : InterfaceSound d := by
  simp only [Prod.mk.injEq] at same
  obtain ⟨boxes, counter, standing⟩ := same
  simpa [InterfaceSound, MailboxesSound, StandingSound, Cbi.box, boxes, counter, standing] using h

/-- Mailboxes alone changed, and are sound. -/
theorem InterfaceSound.of_only (h : InterfaceSound c) (only : c.onlyMailboxes d) (boxes : MailboxesSound d) :
    InterfaceSound d := by
  refine ⟨boxes, ?_⟩
  rw [only]
  exact h.stands

theorem InterfaceSound.setBox {i : Nat} {m : Mailbox} (h : InterfaceSound c) (boxes : MailboxesSound (c.setBox i m)) :
    InterfaceSound (c.setBox i m) := h.of_only rfl boxes

theorem InterfaceSound.abortWhere {p : TxFrame → Bool} (h : InterfaceSound c) : InterfaceSound (c.abortWhere p) :=
  h.of_only rfl h.mailboxes.abortWhere

/-- The end of an attempt that did not succeed (R176). -/
theorem InterfaceSound.unsent {i : Nat} (h : InterfaceSound c) : InterfaceSound (c.unsent i).1 := by
  have emptied := h.setBox (h.mailboxes.setBox_within (Mailbox.empty_within (c.box i)))
  unfold Cbi.unsent
  dsimp only
  split
  · exact emptied
  · rename_i sending
    split
    · exact emptied
    · rename_i newest
      exact h.setBox (h.mailboxes.setUnsent sending (by simpa using newest))
  · exact h
  · exact h

/-- In SILENCED an attempt ends as one that did not succeed, but for an ABORTING mailbox (R182). -/
theorem InterfaceSound.quietEnd {i : Nat} (h : InterfaceSound c) : InterfaceSound (c.quietEnd i) := by
  unfold Cbi.quietEnd
  dsimp only
  split
  · rename_i sending
    refine h.setBox ?_
    split
    · exact h.mailboxes.setBox_within (Mailbox.empty_within _)
    · rename_i newest
      exact h.mailboxes.setUnsent sending (by simpa using newest)
  · exact h

/-- With mailboxes 1 to 7 emptied, mailbox 0 alone is to be sound (R172). -/
theorem MailboxesSound.of_emptied (length : c.boxes.length = 8)
    (first : (c.box 0).state ≠ .empty → (c.box 0).frame.cls = clsAlarm) : MailboxesSound (c.emptied c.filled) := by
  have zero : (c.emptied c.filled).box 0 = c.box 0 := by
    rw [Cbi.emptied_box _ _ (by omega), if_neg (by simp [Cbi.mem_filled])]
  have clear : ∀ i, 1 ≤ i → i < 8 → ((c.emptied c.filled).box i).state = .empty := fun i h1 h8 => by
    rw [Cbi.emptied_box _ _ (by omega)]
    split
    · rfl
    · rename_i unfilled
      simpa [Cbi.mem_filled, h1, h8] using unfilled
  refine ⟨by simpa using length, by rwa [zero], fun i h1 h8 held => absurd (clear i h1 h8) held, ?_⟩
  intro i _ h1 h8 _ _ pending
  simp [Mailbox.pendingState, clear i h1 h8] at pending

/-! ### The mailbox selected (R170) -/

/-- The better of two is one of the two; the new one is taken only where it may be offered. -/
theorem Cbi.better_some {own i k : Nat} {best : Option Nat} (h : c.better own best i = some k) :
    best = some k ∨ (k = i ∧ c.offers i = true) := by
  unfold Cbi.better at h
  split at h
  · rename_i offered
    split at h
    · split at h
      · exact .inr ⟨(Option.some.inj h).symm, offered⟩
      · exact .inl h
    · exact .inr ⟨(Option.some.inj h).symm, offered⟩
  · exact .inl h

/-- What is chosen among the mailboxes of a list is one of them and may be offered. -/
theorem Cbi.chosen_offered {own k : Nat} (l : List Nat) (h : l.foldl (c.better own) none = some k) :
    k ∈ l ∧ c.offers k = true := by
  induction l using List.reverseRecOn with
  | nil => simp at h
  | append_singleton l i ih =>
    rw [List.foldl_concat] at h
    obtain chosen | ⟨rfl, offered⟩ := Cbi.better_some h
    · exact ⟨by simp [(ih chosen).1], (ih chosen).2⟩
    · exact ⟨by simp, offered⟩

theorem Cbi.select_offered {own k : Nat} (h : c.select own = some k) : k < 8 ∧ c.offers k = true := by
  obtain ⟨mem, offered⟩ := Cbi.chosen_offered _ h
  exact ⟨List.mem_range.1 mem, offered⟩

theorem Cbi.offers_pending {i : Nat} (h : c.offers i = true) : (c.box i).state = .pending := by
  simp only [Cbi.offers, Bool.and_eq_true, beq_iff_eq] at h
  exact h.1

end Sys2Proof.Machine

/-! 09: the interface stays sound through the operations the blocks share (R171, R173). -/

namespace Sys2Proof.Machine

variable {t : State}

/-- The interface of the part is sound. -/
def BusSound (t : State) : Prop := InterfaceSound t.cbi

theorem BusSound.mailboxes (h : BusSound t) : MailboxesSound t.cbi := InterfaceSound.mailboxes h

theorem BusSound.stands (h : BusSound t) : StandingSound t.cbi := InterfaceSound.stands h

theorem BusSound.setCbi {c : Cbi} (h : BusSound t)
    (same : (c.boxes, c.faultCounter, c.standing) = (t.cbi.boxes, t.cbi.faultCounter, t.cbi.standing)) :
    BusSound (t.setCbi c) := InterfaceSound.congr h same

theorem BusSound.abortWhere {p : TxFrame → Bool} (h : BusSound t) : BusSound (t.abortWhere p) :=
  InterfaceSound.abortWhere h

/-! ### Shared operations -/

theorem updateLamp_bus (h : BusSound t) : BusSound (updateLamp t) := h

theorem wake_bus (h : BusSound t) : BusSound (wake t) := by
  unfold wake
  split
  · exact h.setCbi rfl
  · exact h

theorem enqueue_bus {f : TxFrame} (h : BusSound t) : BusSound (enqueue t f).1 := by
  have taken : BusSound (t.setCbi (t.cbi.enqueue f).1) :=
    InterfaceSound.of_only h (Cbi.enqueue_only _ f) h.mailboxes.enqueue
  unfold enqueue
  dsimp only
  split
  · exact wake_bus taken
  · exact taken

theorem enqueueCounted_bus {f : TxFrame} (h : BusSound t) : BusSound (enqueueCounted t f) := by
  unfold enqueueCounted
  dsimp only
  split <;> exact enqueue_bus h

theorem answer_bus {topic : Nat} {f : RxFrame} {code : ResultCode} (h : BusSound t) :
    BusSound (answer topic f code t) := enqueueCounted_bus h

theorem settleReport_bus (h : BusSound t) : BusSound (settleReport t) := enqueueCounted_bus h

theorem enqueueMeterState_bus (h : BusSound t) : BusSound (enqueueMeterState t) := by
  unfold enqueueMeterState
  dsimp only
  split <;> exact enqueue_bus h

theorem enqueueTalkState_bus (h : BusSound t) : BusSound (enqueueTalkState t) := enqueue_bus h

theorem enqueueShiftState_bus (h : BusSound t) : BusSound (enqueueShiftState t) := enqueue_bus h

theorem enqueueFareStatus_bus (h : BusSound t) : BusSound (enqueueFareStatus t) := by
  unfold enqueueFareStatus
  dsimp only
  split <;> exact enqueue_bus h

theorem setRouting_bus (h : BusSound t) : BusSound (setRouting t) := h

theorem changeFloor_bus {x : Floor} {w : Bool} (h : BusSound t) : BusSound (changeFloor x w t) := by
  unfold changeFloor
  split
  · exact h
  · exact enqueueTalkState_bus (setRouting_bus (t := t.setCau _) h)

theorem clearFloor_bus (h : BusSound t) : BusSound (clearFloor t) := changeFloor_bus (t := t.setCau _) h

theorem requestChime_bus {k : ChimeKind} (h : BusSound t) : BusSound (requestChime k t) := by
  unfold requestChime
  split
  · exact h
  · split <;> exact h

theorem report_bus {g : Counters → Counters} (h : BusSound t) : BusSound (report g t) := by
  unfold report
  split <;> exact h

theorem meterChanged_bus {old : MeterState} (h : BusSound t) : BusSound (meterChanged old t) := by
  have told := updateLamp_bus (enqueueMeterState_bus h)
  unfold meterChanged
  dsimp only
  split
  · split <;> exact clearFloor_bus told
  · exact told

theorem setHeld_bus {x : HeldState} (h : BusSound t) : BusSound (setHeld x t) :=
  meterChanged_bus (t := t.setTrc _) h

theorem endLampTest_bus (h : BusSound t) : BusSound (endLampTest t) := updateLamp_bus (t := t.setRsd _) h

/-! ### Reception -/

theorem offlineRecovery_bus (h : BusSound t) : BusSound (offlineRecovery t) := by
  unfold offlineRecovery
  split
  · exact ⟨h.mailboxes, Nat.zero_le _, .inr rfl⟩
  · exact h

theorem lineIdle_bus (h : BusSound t) : BusSound (lineIdle t) := by
  unfold lineIdle
  split
  · exact offlineRecovery_bus h
  · exact h

theorem endReception_bus {idle : Nat} {ack : Bool} (h : BusSound t) : BusSound (endReception idle ack t) := by
  unfold endReception impliedIdle
  dsimp only
  split
  · exact offlineRecovery_bus (lineIdle_bus h)
  · exact h

theorem wakeOnEdge_bus (h : BusSound t) : BusSound (wakeOnEdge t) := by
  unfold wakeOnEdge
  split
  · exact wake_bus h
  · exact h

/-- SILENCED is a standing of its own, whatever the fault counter (R171). -/
theorem duplicateStation_bus (h : BusSound t) : BusSound (duplicateStation t) := by
  have silenced : BusSound (t.setCbi { t.cbi with standing := .silenced }) :=
    ⟨h.mailboxes, h.stands.counter_le, .inl rfl⟩
  unfold duplicateStation
  dsimp only
  split
  · exact silenced
  · exact meterChanged_bus (t := stopSettlementTimers _) silenced

theorem frameComplete_bus {topic : Nat} {f : RxFrame} {d : State → State} (hd : ∀ {u}, BusSound u → BusSound (d u))
    (h : BusSound t) : BusSound (frameComplete topic f d t) := by
  have passed : BusSound (received t) := endReception_bus h
  unfold frameComplete
  split
  · exact h
  split
  · exact wakeOnEdge_bus h
  split
  · exact h
  dsimp only
  split
  · exact duplicateStation_bus passed
  split
  · exact passed
  split
  · exact hd passed
  · exact answer_bus passed
  · exact passed

theorem receiveFault_bus {x : ReceiveFault} (h : BusSound t) : BusSound (receiveFault x t) := by
  unfold receiveFault
  split
  · exact h
  split
  · exact wakeOnEdge_bus h
  split
  · exact (endReception_bus h).setCbi rfl
  · exact h

theorem startMark_bus (h : BusSound t) : BusSound (startMark t) := by
  unfold startMark
  split
  · exact h
  split
  · exact wakeOnEdge_bus h
  split
  · exact h
  · split <;> exact h

end Sys2Proof.Machine

/-! 09: the interface stays sound through every operation of the blocks (R171 to R176, R182). -/

namespace Sys2Proof.Machine

variable {t : State} {f : RxFrame}

/-! ### CAU, RSD, ODU and ALM -/

theorem giveUpFloor_bus (h : BusSound t) : BusSound (giveUpFloor t) := by
  unfold giveUpFloor
  split <;> exact changeFloor_bus h

theorem floorRequest_bus {topic : Nat} {act : State → State} (ha : BusSound (act t)) (h : BusSound t) :
    BusSound (floorRequest topic f act t) := by
  unfold floorRequest
  split
  · exact answer_bus h
  · split
    · exact answer_bus h
    · exact answer_bus ha

theorem talkPress_bus (h : BusSound t) : BusSound (talkPress f t) := by
  refine floorRequest_bus ?_ h
  unfold talkPressed
  dsimp only
  split
  · exact changeFloor_bus (t := t.setCau _) h
  · exact changeFloor_bus (t := t.setCau _) h
  · exact h

theorem talkRelease_bus (h : BusSound t) : BusSound (talkRelease f t) := by
  refine floorRequest_bus ?_ h
  unfold talkReleased
  dsimp only
  split
  · exact giveUpFloor_bus (t := t.setCau _) h
  · exact h

theorem callPress_bus (h : BusSound t) : BusSound (callPress f t) := by
  refine floorRequest_bus ?_ h
  unfold callPressed
  dsimp only
  split
  · exact changeFloor_bus (t := t.setCau _) h
  · split
    · exact h
    · exact requestChime_bus (changeFloor_bus (t := t.setCau _) h)
  · exact h

theorem callRelease_bus (h : BusSound t) : BusSound (callRelease f t) := by
  refine floorRequest_bus ?_ h
  unfold callReleased
  dsimp only
  split
  · exact changeFloor_bus (t := t.setCau _) h
  · split
    · exact h
    · exact changeFloor_bus (t := t.setCau _) h
  · exact h

theorem voxAction_bus {slot : Nat} {before : SourceLevel} (h : BusSound t) : BusSound (voxAction slot before t) := by
  unfold voxAction
  dsimp only
  split
  · split <;> split
    · exact changeFloor_bus h
    · exact h
    · exact giveUpFloor_bus h
    · exact h
  · exact h

theorem slotEnd_bus (h : BusSound t) : BusSound (slotEnd t) := by
  unfold slotEnd
  split
  · split
    · dsimp only
      split
      · exact h
      · exact voxAction_bus (t := setRouting (t.setCau _)) h
    · exact h
  · exact h

theorem chimeEnd_bus (h : BusSound t) : BusSound (chimeEnd t) := by
  unfold chimeEnd
  split
  · split <;> exact h
  · exact h

theorem samplePeriod_bus {front rear radio : Sample} (h : BusSound t) :
    BusSound (samplePeriod front rear radio t) := by
  unfold samplePeriod
  split
  · exact chimeEnd_bus (slotEnd_bus h)
  · exact h

theorem signTest_bus (h : BusSound t) : BusSound (signTest f t) := by
  unfold signTest
  split
  · exact answer_bus h
  · split
    · exact answer_bus h
    · exact answer_bus (updateLamp_bus (t := t.setRsd _) h)

theorem lampTestEnd_bus (h : BusSound t) : BusSound (lampTestEnd t) := by
  unfold lampTestEnd
  split
  · exact endLampTest_bus h
  · exact h

theorem signWrite_bus (h : BusSound t) : BusSound (signWrite f t) := by
  unfold signWrite
  dsimp only
  split
  · exact answer_bus (t := t.setRsd _) h
  · exact answer_bus (t := t.setRsd _) h

theorem scrollStep_bus (h : BusSound t) : BusSound (scrollStep t) := by
  unfold scrollStep
  split <;> exact h

theorem refreshPass_bus (h : BusSound t) : BusSound (refreshPass t) := by
  have pass : ∀ {u : State} (src : LegendSource) (ambient : Nat), BusSound u →
      BusSound (u.setRsd (u.rsd.pass src ambient)) := fun src ambient hu => by
    unfold Rsd.pass Rsd.choose
    dsimp only
    split <;> exact hu
  unfold refreshPass
  split
  · exact pass _ _ (scrollStep_bus h)
  · exact h

theorem wheelInput_bus {l : WheelLine} {level : Bool} (h : BusSound t) : BusSound (wheelInput l level t) := by
  unfold wheelInput
  split
  · split <;> exact h
  · exact h

theorem filterElapsed_bus {l : WheelLine} (h : BusSound t) : BusSound (filterElapsed l t) := by
  unfold filterElapsed
  split
  · split <;> exact h
  · exact h

theorem secondEnd_bus (h : BusSound t) : BusSound (secondEnd t) := by
  unfold secondEnd
  split <;> exact h

theorem retainedTick_bus (h : BusSound t) : BusSound (retainedTick t) := by
  unfold retainedTick
  split <;> exact h

theorem clockSet_bus (h : BusSound t) : BusSound (clockSet f t) := answer_bus (t := t.setOdu _) h

theorem placeNotice_bus (h : BusSound t) : BusSound (placeNotice t) := by
  unfold placeNotice
  dsimp only
  split <;> exact enqueue_bus h

theorem noticeOutcome_bus (h : BusSound t) : BusSound (noticeOutcome t) := by
  unfold noticeOutcome
  split
  · dsimp only
    split
    · exact placeNotice_bus (t := t.setAlm _) h
    · exact h
  · exact h

theorem alarmEntered_bus (h : BusSound t) : BusSound (alarmEntered t) := by
  have marked : ∀ {u : State}, BusSound u → BusSound (markAlarm u) := id
  have heard : ∀ {u : State}, BusSound u → BusSound (audioAlarmEntry u) := fun {u} hu =>
    clearFloor_bus (t := u.setCau _) hu
  exact heard (endLampTest_bus (report_bus (marked (placeNotice_bus (wake_bus (t := t.setAlm _) h)))))

theorem alarmEntry_bus (h : BusSound t) : BusSound (alarmEntry t) := by
  unfold alarmEntry
  split
  · exact alarmEntered_bus h
  · exact h

theorem repeatExpiry_bus (h : BusSound t) : BusSound (repeatExpiry t) := by
  unfold repeatExpiry
  split
  · exact placeNotice_bus h
  · exact h

theorem alarmAck_bus (h : BusSound t) : BusSound (alarmAck f t) := by
  unfold alarmAck
  split
  · exact answer_bus h
  · exact answer_bus (t := t.setAlm _) h

theorem alarmClear_bus (h : BusSound t) : BusSound (alarmClear f t) := by
  have cleared : BusSound (alarmCleared t) := by
    have aborted := BusSound.abortWhere (t := t.setAlm _) (p := isNotice) h
    unfold alarmCleared audioAlarmCleared
    dsimp only
    split <;> exact aborted
  unfold alarmClear
  split
  · exact answer_bus h
  · exact answer_bus cleared

/-! ### FEN -/

theorem tariffSelect_bus (h : BusSound t) : BusSound (tariffSelect f t) := by
  have selected : BusSound (tariffSelected (field f.payload 0 1) t) := by
    unfold tariffSelected
    split <;> exact h
  rw [tariffSelect_eq]
  iterate 3 (split; · exact answer_bus h)
  exact answer_bus selected

theorem extraAdd_bus (h : BusSound t) : BusSound (extraAdd f t) := by
  unfold extraAdd
  dsimp only
  iterate 3 (split; · exact answer_bus h)
  exact answer_bus (enqueueFareStatus_bus (t := t.setFen _) h)

theorem extraRemove_bus (h : BusSound t) : BusSound (extraRemove f t) := by
  unfold extraRemove
  dsimp only
  iterate 2 (split; · exact answer_bus h)
  exact answer_bus (enqueueFareStatus_bus (t := t.setFen _) h)

theorem windowFareStatus_bus (h : BusSound t) : BusSound (windowFareStatus t) := enqueue_bus h

theorem fareWindow_bus {w : WindowRecord} (h : BusSound t) : BusSound (fareWindow w t) := by
  unfold fareWindow
  split
  · extract_lets before d c charge s1 s2 s3
    have charged : BusSound s1 := h
    have limited : BusSound s2 := by
      show BusSound (if d.2 then report Counters.addRateLimited s1 else s1)
      split
      · exact report_bus charged
      · exact charged
    have changed : BusSound s3 := by
      show BusSound (if c.2 then requestChime .tariffChanged s2 else s2)
      split
      · exact requestChime_bus limited
      · exact limited
    split
    · exact windowFareStatus_bus changed
    · exact changed
  · split
    · exact windowFareStatus_bus h
    · exact h

/-! ### TRC -/

theorem hire_bus (h : BusSound t) : BusSound (hire f t) := by
  unfold hire
  iterate 6 (split; · exact answer_bus h)
  exact answer_bus (enqueueFareStatus_bus (t := State.setFen _ _) (setHeld_bus (t := t.setTrc _) h))

theorem stop_bus (h : BusSound t) : BusSound (stop f t) := by
  unfold stop
  iterate 3 (split; · exact answer_bus h)
  exact answer_bus (setHeld_bus (t := t.setTrc _) h)

theorem resume_bus (h : BusSound t) : BusSound (resume f t) := by
  unfold resume
  iterate 3 (split; · exact answer_bus h)
  exact answer_bus (setHeld_bus h)

theorem bookingAssign_bus (h : BusSound t) : BusSound (bookingAssign f t) := by
  unfold bookingAssign
  dsimp only
  iterate 4 (split; · exact answer_bus h)
  exact answer_bus (setHeld_bus (t := t.setTrc _) h)

theorem bookingCancel_bus (h : BusSound t) : BusSound (bookingCancel f t) := by
  unfold bookingCancel
  iterate 2 (split; · exact answer_bus h)
  split
  · exact answer_bus (setHeld_bus (t := t.setTrc _) h)
  · exact answer_bus h

theorem tripWindow_bus {w : WindowRecord} (h : BusSound t) : BusSound (tripWindow w t) := by
  unfold tripWindow
  split
  · exact h
  · split
    · exact report_bus h
    · exact h

theorem closeTrip_bus {o : TripOutcome} {waived : Nat} (h : BusSound t) : BusSound (closeTrip o waived t) := by
  unfold closeTrip
  split
  · exact h
  · exact setHeld_bus (t := (tripCloseArrival _ waived t).setTrc _) h

theorem closeIfPaid_bus (h : BusSound t) : BusSound (closeIfPaid t) := by
  unfold closeIfPaid
  split
  · exact closeTrip_bus h
  · exact h

theorem settle_bus (h : BusSound t) : BusSound (settle f t) := by
  unfold settle settled
  iterate 3 (split; · exact answer_bus h)
  split
  · exact answer_bus (closeTrip_bus h)
  · split
    · exact answer_bus h
    · exact answer_bus (settleReport_bus (t := State.setStu _ _) (setHeld_bus h))

theorem void_bus (h : BusSound t) : BusSound (void f t) := by
  unfold void
  iterate 3 (split; · exact answer_bus h)
  exact answer_bus (closeTrip_bus h)

/-! ### STU -/

theorem tenderCash_bus (h : BusSound t) : BusSound (tenderCash f t) := by
  unfold tenderCash
  dsimp only
  iterate 5 (split; · exact answer_bus h)
  exact answer_bus (closeIfPaid_bus (settleReport_bus (t := t.setStu _) h))

theorem placeRequest_bus (h : BusSound t) : BusSound (placeRequest t) := by
  unfold placeRequest
  split
  · exact h
  · exact enqueue_bus h

theorem placeCancel_bus (h : BusSound t) : BusSound (placeCancel t) := by
  unfold placeCancel
  split
  · exact h
  · exact enqueue_bus h

theorem placeQuery_bus (h : BusSound t) : BusSound (placeQuery t) := by
  unfold placeQuery
  split
  · exact h
  · dsimp only
    split <;> exact enqueue_bus h

theorem enterCancelling_bus {a : Attempt} (h : BusSound t) : BusSound (enterCancelling a t) :=
  placeCancel_bus (t := t.setAttempt _) h

theorem enterUncertain_bus {a : Attempt} (h : BusSound t) : BusSound (enterUncertain a t) :=
  placeQuery_bus (BusSound.abortWhere (t := t.setAttempt _) h)

theorem abortAttemptFrames_bus {a : Attempt} (h : BusSound t) : BusSound (abortAttemptFrames a t) := h.abortWhere

theorem dropAttempt_bus {e : Ending} {a : Attempt} (h : BusSound t) : BusSound (dropAttempt e a t) :=
  abortAttemptFrames_bus (t := t.setStu _) h

theorem endAttempt_bus {e : Ending} {a : Attempt} (h : BusSound t) : BusSound (endAttempt e a t) :=
  settleReport_bus (dropAttempt_bus h)

theorem approved_bus {a : Attempt} {amount tip : Nat} (h : BusSound t) : BusSound (t.approved a amount tip) :=
  abortAttemptFrames_bus (t := t.setStu _) h

theorem approveAttempt_bus {a : Attempt} {approved tip : Nat} (h : BusSound t) :
    BusSound (approveAttempt a approved tip t) := by
  have excess : BusSound (t.excessReported a.requested approved) := by
    unfold State.excessReported
    split
    · exact report_bus h
    · exact h
  have reported := settleReport_bus (approved_bus (a := a) (amount := approved) (tip := tip) excess)
  rw [approveAttempt_eq]
  split
  · exact closeIfPaid_bus (requestChime_bus reported)
  · exact reported

theorem tenderCard_bus (h : BusSound t) : BusSound (tenderCard f t) := by
  unfold tenderCard
  dsimp only
  iterate 8 (split; · exact answer_bus h)
  exact answer_bus (settleReport_bus (placeRequest_bus (t := t.setStu _) h))

theorem cancelQueued_bus {a : Attempt} (h : BusSound t) : BusSound (cancelQueued a t) := by
  unfold cancelQueued
  dsimp only
  have aborted := BusSound.abortWhere (t := t.setAttempt { a with cancelRequested := true })
    (p := isAttemptFrame Topic.payRequest a.trip a.number) h
  split
  · exact endAttempt_bus h
  · split
    · exact endAttempt_bus aborted
    · exact aborted

theorem payCancel_bus (h : BusSound t) : BusSound (payCancel f t) := by
  unfold payCancel
  iterate 3 (split; · exact answer_bus h)
  split
  · split
    · exact answer_bus h
    · exact answer_bus (cancelQueued_bus h)
  · exact answer_bus (settleReport_bus (enterCancelling_bus h))
  · exact answer_bus (settleReport_bus (enterCancelling_bus h))
  · exact answer_bus h
  · exact answer_bus h

theorem payRequestOutcome_bus {payload : List Byte} {o : BoxOutcome} (h : BusSound t) :
    BusSound (payRequestOutcome payload o t) := by
  unfold payRequestOutcome
  split
  · exact h
  split
  · split
    · split
      · exact settleReport_bus (enterCancelling_bus h)
      · exact settleReport_bus (t := t.setAttempt _) h
    · exact endAttempt_bus h
    · exact endAttempt_bus h
  · exact h

theorem settleDefer_bus (h : BusSound t) : BusSound (settleDefer f t) := by
  unfold settleDefer
  iterate 2 (split; · exact answer_bus h)
  split
  · exact answer_bus (closeTrip_bus (settleReport_bus (t := t.setStu _) h))
  · exact answer_bus h

theorem placeEntryQuery_bus {e : UnsettledEntry} (h : BusSound t) : BusSound (placeEntryQuery e t) := by
  unfold placeEntryQuery
  dsimp only
  split <;> exact enqueue_bus h

theorem placeClosingQuery_bus {e : UnsettledEntry} (h : BusSound t) : BusSound (placeClosingQuery e t) :=
  enqueue_bus h

theorem queryAllEntries_bus (h : BusSound t) : BusSound (queryAllEntries t) :=
  List.foldlRecOn _ _ h fun _ hu _ _ => placeClosingQuery_bus hu

theorem convertAll_bus (h : BusSound t) : BusSound (convertAll t) :=
  List.foldlRecOn _ _ h fun u hu e _ =>
    settleReport_bus (BusSound.abortWhere (t := resolution _ (dropEntry e u)) hu)

theorem payAccepted_bus (h : BusSound t) : BusSound (payAccepted f t) := by
  have taken : ∀ a, BusSound (accepted a t) := fun a => by
    unfold accepted
    split
    · dsimp only
      split
      · exact settleReport_bus (enterCancelling_bus h).abortWhere
      · exact settleReport_bus (BusSound.abortWhere (t := t.setAttempt _) h)
    · exact settleReport_bus (t := t.setAttempt _) h
    · exact h
    · exact h
    · exact h
  unfold payAccepted
  dsimp only
  split
  · split
    · exact h
    · exact taken _
  · split
    · exact h
    · exact report_bus h

theorem payResult_bus (h : BusSound t) : BusSound (payResult f t) := by
  have attempted : ∀ a outcome amount tip, BusSound (attemptResult a outcome amount tip t) := by
    intro a outcome amount tip
    unfold attemptResult
    split
    · exact approveAttempt_bus h
    · split
      · exact endAttempt_bus h
      · exact requestChime_bus (endAttempt_bus h)
  unfold payResult
  dsimp only
  split
  · exact report_bus h
  split
  · split
    · exact h
    · exact attempted _ _ _ _
  · split
    · exact settleReport_bus (t := resolution _ _) h
    · exact report_bus h

theorem payReference_bus (h : BusSound t) : BusSound (payReference f t) := by
  unfold payReference
  dsimp only
  split
  · exact h
  · split
    · exact h
    · split <;> exact h

theorem offerExpiry_bus (h : BusSound t) : BusSound (offerExpiry t) := by
  unfold offerExpiry
  split
  · exact endAttempt_bus h
  · exact h

theorem resultExpiry_bus (h : BusSound t) : BusSound (resultExpiry t) := by
  unfold resultExpiry
  split
  · exact settleReport_bus (enterUncertain_bus h)
  · exact h

theorem cancelExpiry_bus (h : BusSound t) : BusSound (cancelExpiry t) := by
  unfold cancelExpiry
  split
  · exact settleReport_bus (enterUncertain_bus h)
  · exact h

theorem queryExpiry_bus (h : BusSound t) : BusSound (queryExpiry t) := by
  unfold queryExpiry
  split
  · split
    · exact placeQuery_bus (t := t.setAttempt _) h
    · exact h
  · exact h

theorem entryExpiry_bus {trip : Nat} (h : BusSound t) : BusSound (entryExpiry trip t) := by
  unfold entryExpiry
  split
  · split
    · dsimp only
      split
      · exact h
      · exact placeEntryQuery_bus (t := t.mapEntry _ _) h
    · exact h
  · exact h

theorem entryExpiries_bus (h : BusSound t) : BusSound (entryExpiries t) :=
  List.foldlRecOn _ _ h fun _ hu _ _ => entryExpiry_bus hu

theorem settlementRetries_bus (h : BusSound t) : BusSound (settlementRetries t) := by
  have attempt : BusSound (retryAttempt t) := by
    unfold retryAttempt
    split
    · split
      · exact placeRequest_bus h
      split
      · exact placeCancel_bus h
      split
      · exact placeQuery_bus h
      · exact h
    · exact h
  have entry : ∀ (e : UnsettledEntry) {u : State}, BusSound u → BusSound (retryEntry e u) := fun e u hu => by
    have own : BusSound (if e.waits then placeEntryQuery e u else u) := by
      split
      · exact placeEntryQuery_bus hu
      · exact hu
    unfold retryEntry
    dsimp only
    split
    · exact placeClosingQuery_bus own
    · exact own
  rw [settlementRetries_eq]
  split
  · exact h
  · exact List.foldlRecOn _ _ attempt fun _ hu e _ => entry e hu

/-! ### SAU -/

theorem finishClosing_bus {terminal : Option (Nat × Nat)} (h : BusSound t) : BusSound (finishClosing terminal t) :=
  enqueueShiftState_bus (enqueueMeterState_bus (t := State.setTrc _ _)
    (convertAll_bus (t := State.setSau _ _) (BusSound.abortWhere (t := t.setSau _) h)))

theorem placeTotals_bus (h : BusSound t) : BusSound (placeTotals t) := enqueue_bus h

theorem runClosing_bus (h : BusSound t) : BusSound (runClosing t) := by
  unfold runClosing
  split
  · exact placeTotals_bus (t := State.setSau _ _) (queryAllEntries_bus h)
  · exact finishClosing_bus h

theorem shiftOpen_bus (h : BusSound t) : BusSound (shiftOpen f t) := by
  unfold shiftOpen
  iterate 3 (split; · exact answer_bus h)
  exact answer_bus (enqueueShiftState_bus (setHeld_bus (t := (t.setSau _).setTrc _) h))

theorem shiftClose_bus (h : BusSound t) : BusSound (shiftClose f t) := by
  have closed : BusSound (shiftClosed t) := by
    unfold shiftClosed
    dsimp only
    split
    · exact runClosing_bus (enqueueShiftState_bus (setHeld_bus (t := enterClosing t) h))
    · exact runClosing_bus (enqueueShiftState_bus (updateLamp_bus (t := (enterClosing t).setTrc _) h))
  unfold shiftClose
  iterate 3 (split; · exact answer_bus h)
  exact answer_bus closed

theorem terminalTotals_bus (h : BusSound t) : BusSound (terminalTotals f t) := by
  unfold terminalTotals
  split
  · exact finishClosing_bus h
  · exact h

theorem totalsExpiry_bus (h : BusSound t) : BusSound (totalsExpiry t) := by
  unfold totalsExpiry
  split
  · exact finishClosing_bus h
  · exact h

theorem placePart_bus {k : AnswerKind} (h : BusSound t) : BusSound (placePart k t) := by
  unfold placePart
  split
  · exact h
  · exact enqueue_bus h

theorem startAnswer_bus {k : AnswerKind} {number : Nat} {bytes : List Byte} (h : BusSound t) :
    BusSound (startAnswer k number bytes t) := by
  have aborted : BusSound (abortPart k t) := by
    unfold abortPart
    split
    · exact InterfaceSound.of_only h (Cbi.abortBox_only _ _ _) h.mailboxes.abortBox
    · exact h
  exact placePart_bus (t := State.setSau _ _) aborted

theorem journalRead_bus (h : BusSound t) : BusSound (journalRead f t) := by
  unfold journalRead
  split
  · exact answer_bus h
  · exact startAnswer_bus (answer_bus h)

theorem summaryRead_bus (h : BusSound t) : BusSound (summaryRead f t) := startAnswer_bus (answer_bus h)

theorem partOutcome_bus {k : AnswerKind} {box : Nat} {o : BoxOutcome} (h : BusSound t) :
    BusSound (partOutcome k box o t) := by
  unfold partOutcome
  split
  · exact h
  split
  · split
    · split
      · exact placePart_bus (t := t.setSau _) h
      · exact h
    · exact h
    · exact h
  · exact h

/-! ### CBI -/

theorem statusRead_bus (h : BusSound t) : BusSound (statusRead f t) := by
  unfold statusRead
  dsimp only
  split
  · exact answer_bus h
  · exact enqueueCounted_bus (answer_bus h)

/-- The mailbox of an attempt was PENDING, and keeps its frame (R170, R175). -/
theorem transmitAttempt_bus (h : BusSound t) : BusSound (transmitAttempt t) := by
  unfold transmitAttempt
  split
  · split
    · rename_i i selected
      have pending := Cbi.offers_pending (Cbi.select_offered selected).2
      have within : (t.cbi.box i).Within { t.cbi.box i with state := .sending } :=
        ⟨fun _ => ⟨by simp [pending], rfl⟩, nofun⟩
      exact InterfaceSound.congr (InterfaceSound.setBox h (h.mailboxes.setBox_within within)) rfl
    · exact h
  · exact h

theorem mailboxOutcome_bus {box : Nat} {x : TxFrame} {o : BoxOutcome} (h : BusSound t) :
    BusSound (mailboxOutcome box x o t) := by
  unfold mailboxOutcome
  cases x.owner with
  | fen | trc | cau =>
    dsimp only
    split <;> exact h
  | sau =>
    dsimp only
    unfold sauOutcome
    split
    · split <;> exact h
    split
    · exact partOutcome_bus h
    split
    · exact partOutcome_bus h
    · exact h
  | stu =>
    dsimp only
    split
    · exact payRequestOutcome_bus h
    · exact h
  | alm => exact noticeOutcome_bus h
  | odu | rsd | cbi => exact h

/-- OFFLINE is entered soundly whatever mailboxes 1 to 7 hold PENDING, for they are emptied (R172). -/
theorem enterOffline_bus (length : t.cbi.boxes.length = 8)
    (first : (t.cbi.box 0).state ≠ .empty → (t.cbi.box 0).frame.cls = clsAlarm) (standing : StandingSound t.cbi) :
    BusSound (enterOffline t) := by
  have frame := Cbi.emptied_frame t.cbi t.cbi.filled
  have emptied : InterfaceSound (t.cbi.emptied t.cbi.filled) := by
    refine ⟨MailboxesSound.of_emptied length first, ?_⟩
    rw [frame]
    exact standing
  exact List.foldlRecOn _ _ (emptied.congr rfl) fun _ hu _ _ => mailboxOutcome_bus hu

/-- The counter of a success is lower by one; its mailbox is emptied (R171, R176). -/
theorem sentOne_bus {i : Nat} (h : BusSound t) : BusSound (sentOne i t) := by
  have counted : t.cbi.faultCounter - 1 ≤ 256 := (Nat.sub_le _ _).trans h.stands.counter_le
  exact mailboxOutcome_bus ⟨h.mailboxes.setBox_within (Mailbox.empty_within (t.cbi.box i)), counted, .inr rfl⟩

/-- The counter of a failure rises to 256 at most (R171). -/
theorem InterfaceSound.failing {c : Cbi} {x : TransmitFault} (h : InterfaceSound c) : InterfaceSound (c.failing x) :=
  ⟨h.mailboxes, satAdd_le, .inr rfl⟩

theorem failedOne_bus {i : Nat} {x : TransmitFault} (h : BusSound t) : BusSound (failedOne i x t) := by
  have failing : InterfaceSound (t.cbi.failing x) := InterfaceSound.failing h
  have ended : InterfaceSound ((t.cbi.failing x).unsent i).1 := failing.unsent
  have left : BusSound (if ((t.cbi.failing x).unsent i).1.standing = .offline
      then enterOffline (t.setCbi ((t.cbi.failing x).unsent i).1) else t.setCbi ((t.cbi.failing x).unsent i).1) := by
    split
    · exact enterOffline_bus ended.mailboxes.length ended.mailboxes.first ended.stands
    · exact ended
  rw [failedOne_eq]
  split
  · rename_i entered
    refine enterOffline_bus ((Cbi.setBox_length _ _ _).trans failing.mailboxes.length) ?_ failing.stands
    rw [State.setCbi_cbi, Cbi.box_setBox]
    split
    · rename_i here
      obtain ⟨rfl, -⟩ := here
      exact fun _ => h.mailboxes.first (by simp [entered.2])
    · exact failing.mailboxes.first
  · dsimp only
    split
    · exact mailboxOutcome_bus left
    · exact left

theorem lostOne_bus {i : Nat} (h : BusSound t) : BusSound (lostOne i t) := by
  have ended : InterfaceSound (t.cbi.attemptOver 0 true) := InterfaceSound.congr h rfl
  unfold lostOne
  dsimp only
  split
  · exact mailboxOutcome_bus (t := t.setCbi _) ended.unsent
  · exact ended.unsent

theorem endAttemptWith_bus {act : Nat → State → State} {idle : Nat} {receiving : Bool}
    (ha : ∀ i, BusSound (act i t)) (h : BusSound t) : BusSound (endAttemptWith act idle receiving t) := by
  unfold endAttemptWith
  split
  · exact h
  split
  · exact h
  split
  · exact InterfaceSound.quietEnd (InterfaceSound.congr h rfl)
  · exact ha _

theorem listenEnd_bus (h : BusSound t) : BusSound (listenEnd t) := by
  unfold listenEnd
  split <;> exact h

theorem dormancyEntry_bus (h : BusSound t) : BusSound (dormancyEntry t) := by
  unfold dormancyEntry
  split
  · exact h.setCbi rfl
  · exact h

theorem backupFail_bus (h : BusSound t) : BusSound (backupFail t) := by
  unfold backupFail
  split <;> exact h

/-! ### Window ends -/

theorem settleDue_bus (h : BusSound t) : BusSound (settleDue t) :=
  dormancyEntry_bus <| listenEnd_bus <| lampTestEnd_bus <| totalsExpiry_bus <| entryExpiries_bus <|
    queryExpiry_bus <| cancelExpiry_bus <| resultExpiry_bus <| offerExpiry_bus <| repeatExpiry_bus <|
    alarmEntry_bus <| secondEnd_bus h

theorem shiftWindow_bus {w : WindowRecord} (h : BusSound t) : BusSound (shiftWindow w t) := by
  unfold shiftWindow
  split <;> exact h

theorem windowTimers_bus {closed : Bool} (h : BusSound t) : BusSound (windowTimers closed t) := by
  have sampled : BusSound (switchSample closed t) := by
    unfold switchSample
    split <;> exact h
  have repeated : ∀ {u : State}, BusSound u → BusSound (repeatTick u) := fun hu => by
    unfold repeatTick
    split <;> exact hu
  have settled : ∀ {u : State}, BusSound u → BusSound (settlementTimers u) := fun hu => by
    unfold settlementTimers
    split <;> exact hu
  have counted : ∀ {u : State}, BusSound u → BusSound (totalsTick u) := id
  have tested : ∀ {u : State}, BusSound u → BusSound (lampTestTick u) := id
  exact (tested (counted (settled (repeated sampled)))).setCbi rfl

theorem windowRetries_bus (h : BusSound t) : BusSound (windowRetries t) := by
  have part : ∀ (k : AnswerKind) {u : State}, BusSound u → BusSound (partRetry k u) := fun k u hu => by
    unfold partRetry
    split
    · exact placePart_bus hu
    · exact hu
  have totals : ∀ {u : State}, BusSound u → BusSound (totalsRetry u) := fun hu => by
    unfold totalsRetry
    split
    · exact placeTotals_bus hu
    · exact hu
  have meter : BusSound (windowMeterState t) := by
    unfold windowMeterState
    split
    · exact enqueue_bus h
    · exact h
  have shift : ∀ {u : State}, BusSound u → BusSound (windowShiftState u) := fun hu => by
    unfold windowShiftState
    split
    · exact enqueueShiftState_bus hu
    · exact hu
  have talk : ∀ {u : State}, BusSound u → BusSound (windowTalkState u) := fun hu => by
    unfold windowTalkState
    split
    · exact enqueueTalkState_bus hu
    · exact hu
  exact part _ (part _ (totals (settlementRetries_bus (talk (shift meter)))))

theorem dormancyTick_bus (h : BusSound t) : BusSound (dormancyTick t) := by
  unfold dormancyTick
  split <;> exact h

theorem windowEnd_bus {closed : Bool} (h : BusSound t) : BusSound (windowEnd closed t) := by
  unfold windowEnd
  split
  · exact dormancyTick_bus (windowRetries_bus (windowTimers_bus (tripWindow_bus (shiftWindow_bus
      (fareWindow_bus (t := State.setOdu _ _) (settleDue_bus h))))))
  · exact h

end Sys2Proof.Machine

/-! 09: every command keeps the mailboxes and the standing sound (R171, R173). -/

namespace Sys2Proof.Machine

variable {s t : State} {f : RxFrame}

/-! ### Starts -/

/-- Eight EMPTY mailboxes (R186). -/
theorem MailboxesSound.of_initial : MailboxesSound Cbi.initial := by
  have empty : ∀ i, Cbi.initial.box i = Mailbox.empty := fun i => by
    simp only [Cbi.box, Cbi.initial, emptyBoxes, List.getD_eq_getElem?_getD, List.getElem?_replicate]
    split <;> rfl
  refine ⟨rfl, fun held => absurd rfl held, fun i _ _ held => absurd (by rw [empty]; rfl) held, ?_⟩
  intro i _ _ _ _ _ pending
  rw [empty] at pending
  exact absurd pending nofun

theorem InterfaceSound.of_initial : InterfaceSound Cbi.initial := ⟨.of_initial, Nat.zero_le _, .inl rfl⟩

theorem InterfaceSound.of_start (img : List Byte) : InterfaceSound (Cbi.start img) := by
  unfold Cbi.start
  split
  · exact ⟨MailboxesSound.of_initial, Nat.zero_le _, .inr rfl⟩
  · exact .of_initial

theorem startTrips_bus (h : BusSound t) : BusSound (startTrips t) := by
  unfold startTrips
  split
  · dsimp only
    split
    · exact report_bus (t := t.setTrc _) h
    · exact h
  · exact h

theorem startAttempt_bus (h : BusSound t) : BusSound (startAttempt t) := by
  unfold startAttempt
  split
  · exact h
  · split
    · exact dropAttempt_bus h
    · exact enterUncertain_bus h
    · exact enterUncertain_bus h
    · exact enterUncertain_bus h
    · exact h

theorem startSettlement_bus (h : BusSound t) : BusSound (startSettlement t) := by
  have taken : ∀ x, BusSound (startAttempt (t.setStu x)) := fun x => startAttempt_bus (t := t.setStu x) h
  unfold startSettlement
  split
  · dsimp only
    split
    · exact settleReport_bus (taken _)
    · exact taken _
  · exact h

theorem startShift_bus (h : BusSound t) : BusSound (startShift t) := by
  unfold startShift
  split
  · exact runClosing_bus (enqueueShiftState_bus (t := t.setSau _) h)
  · exact enqueueShiftState_bus h

theorem startAlarm_bus (h : BusSound t) : BusSound (startAlarm t) := by
  unfold startAlarm
  dsimp only
  split
  · exact placeNotice_bus (t := (t.setAlm _).setAlm _) h
  · exact h

theorem startBlocks_bus (h : BusSound t) : BusSound (startBlocks t) :=
  enqueueTalkState_bus <| setRouting_bus <| startAlarm_bus <| startShift_bus <| startSettlement_bus <|
    enqueueMeterState_bus <| updateLamp_bus <| startTrips_bus h

theorem retainedOnly_bus (s : State) (main : Bool) (kind : StartKind) : BusSound (s.retainedOnly main kind) :=
  InterfaceSound.of_initial

theorem loadCompletion_bus (img : List Byte) (h : BusSound s) : BusSound (loadCompletion img s) := by
  unfold loadCompletion
  split
  · exact startBlocks_bus (InterfaceSound.of_start img)
  · exact h

theorem supplyLoss_bus (h : BusSound s) : BusSound (supplyLoss s) := by
  unfold supplyLoss
  split
  · exact retainedOnly_bus _ _ _
  · exact h

theorem supplyReturn_bus (h : BusSound s) : BusSound (supplyReturn s) := by
  unfold supplyReturn
  split
  · exact h
  · exact retainedOnly_bus _ _ _

theorem resetPin_bus (h : BusSound s) : BusSound (resetPin s) := by
  unfold resetPin
  split
  · exact retainedOnly_bus _ _ _
  · exact h

/-! ### Every frame and every command -/

theorem deliver_bus {topic : Nat} (h : BusSound t) : BusSound (deliver topic f t) := by
  unfold deliver
  split
  · exact alarmAck_bus h
  · exact alarmClear_bus h
  · exact hire_bus h
  · exact stop_bus h
  · exact resume_bus h
  · exact settle_bus h
  · exact void_bus h
  · exact bookingAssign_bus h
  · exact bookingCancel_bus h
  · exact tariffSelect_bus h
  · exact extraAdd_bus h
  · exact extraRemove_bus h
  · exact tenderCash_bus h
  · exact tenderCard_bus h
  · exact payCancel_bus h
  · exact settleDefer_bus h
  · exact shiftOpen_bus h
  · exact shiftClose_bus h
  · exact journalRead_bus h
  · exact summaryRead_bus h
  · exact talkPress_bus h
  · exact talkRelease_bus h
  · exact callPress_bus h
  · exact callRelease_bus h
  · exact signTest_bus h
  · exact signWrite_bus h
  · exact statusRead_bus h
  · exact clockSet_bus h
  · exact payAccepted_bus h
  · exact payResult_bus h
  · exact payReference_bus h
  · exact terminalTotals_bus h
  · exact h
  · exact h

/-- A command with a frame of topic `topic` is the delivery of that topic. -/
theorem frame_bus (topic : Nat) (f : RxFrame) (h : BusSound s) :
    BusSound (frameComplete topic f (deliver topic f) s) := frameComplete_bus deliver_bus h

theorem exec_bus (c : Instr) (h : BusSound s) (he : exec c s = .next t) : BusSound t := by
  cases c <;> obtain ⟨rfl⟩ := he
  case wheelInputChange l x => exact wheelInput_bus h
  case filterWidthElapsed l => exact filterElapsed_bus h
  case windowEnd x => exact windowEnd_bus h
  case secondEnd => exact secondEnd_bus h
  case retainedSecondsTick => exact retainedTick_bus h
  case alarmEntry => exact alarmEntry_bus h
  case repeatTimerExpiry => exact repeatExpiry_bus h
  case offerTimerExpiry => exact offerExpiry_bus h
  case resultTimerExpiry => exact resultExpiry_bus h
  case cancelTimerExpiry => exact cancelExpiry_bus h
  case queryTimerExpiry => exact queryExpiry_bus h
  case entryQueryTimerExpiry trip => exact entryExpiry_bus h
  case totalsTimerExpiry => exact totalsExpiry_bus h
  case lampTestEnd => exact lampTestEnd_bus h
  case refreshPass => exact refreshPass_bus h
  case scrollStep => exact scrollStep_bus h
  case samplePeriod x y z => exact samplePeriod_bus h
  case slotEnd => exact slotEnd_bus h
  case chimeEnd => exact chimeEnd_bus h
  case receiveFault x => exact receiveFault_bus h
  case transmitAttempt => exact transmitAttempt_bus h
  case attemptSucceeded => exact endAttemptWith_bus (fun _ => sentOne_bus h) h
  case attemptFailed x => exact endAttemptWith_bus (fun _ => failedOne_bus h) h
  case arbitrationLost => exact endAttemptWith_bus (fun _ => lostOne_bus h) h
  case offlineRecovery => exact offlineRecovery_bus h
  case listenPhaseEnd => exact listenEnd_bus h
  case dormancyEntry => exact dormancyEntry_bus h
  case wakeByLine => exact wakeOnEdge_bus h
  case lineIdle => exact lineIdle_bus h
  case startMark => exact startMark_bus h
  case mainSupplyLoss => exact supplyLoss_bus h
  case backupSupplyFail => exact backupFail_bus h
  case mainSupplyReturn => exact supplyReturn_bus h
  case resetPin => exact resetPin_bus h
  case loadCompletion img => exact loadCompletion_bus img h
  all_goals exact frame_bus _ _ h

/-- Settles O56: each command keeps the interface sound, and a step is one command or none. -/
theorem stepKeepsInterfaceSound : Obligations.StepKeepsInterfaceSound := by
  unfold Obligations.StepKeepsInterfaceSound
  intro s t h hs
  unfold step at hs
  split at hs
  · obtain ⟨rfl⟩ := hs
    exact h
  · rename_i rest _
    exact exec_bus _ (s := s.setPending rest) h hs

end Sys2Proof.Machine

/-! 09: a transmit attempt (R170 to R172, R175, R181 to R184), and the length of its coded frame (R168). -/

namespace Sys2Proof.Machine

/-! ### The lowest header (R170) -/

variable {c : Cbi} {own i : Nat}

/-- Of two mailboxes one goes before the other at most. -/
theorem Mailbox.before_asymm {a b : Mailbox} (h : a.before own b = true) : b.before own a = false := by
  simp only [Mailbox.before, Bool.or_eq_true, decide_eq_true_eq, Bool.and_eq_true, beq_iff_eq, Bool.or_eq_false_iff,
    decide_eq_false_iff_not, Bool.and_eq_false_imp] at *
  omega

/-- A mailbox that goes before every other one offered, met among the mailboxes of a list, is chosen and stays so. -/
theorem Cbi.chosen_of_before (offered : c.offers i = true) (l : List Nat)
    (lowest : ∀ j ∈ l, j ≠ i → c.offers j = true → (c.box i).before own (c.box j) = true) (mem : i ∈ l) :
    l.foldl (c.better own) none = some i := by
  induction l using List.reverseRecOn with
  | nil => simp at mem
  | append_singleton l k ih =>
    have lower : ∀ j ∈ l, j ≠ i → c.offers j = true → (c.box i).before own (c.box j) = true := fun j hj =>
      lowest j (by simp [hj])
    rw [List.foldl_concat]
    by_cases last : k = i
    · subst last
      cases chosen : l.foldl (c.better own) none with
      | none => simp [Cbi.better, offered]
      | some j =>
        obtain ⟨inside, pending⟩ := Cbi.chosen_offered l chosen
        by_cases same : j = k
        · subst same
          simp [Cbi.better]
        · simp [Cbi.better, offered, lower j inside same pending]
    · rw [ih lower (by simpa [Ne.symm last] using mem)]
      cases other : c.offers k with
      | false => simp [Cbi.better, other]
      | true => simp [Cbi.better, other, Mailbox.before_asymm (lowest k (by simp) last other)]

theorem Cbi.select_of_before (h8 : i < 8) (offered : c.offers i = true)
    (lowest : ∀ j, j < 8 → j ≠ i → c.offers j = true → (c.box i).before own (c.box j) = true) :
    c.select own = some i :=
  Cbi.chosen_of_before offered _ (fun j hj => lowest j (List.mem_range.1 hj)) (List.mem_range.2 h8)

theorem Cbi.select_none (h : ∀ j, j < 8 → c.offers j = false) : c.select own = none := by
  cases selected : c.select own with
  | none => rfl
  | some k =>
    obtain ⟨h8, offered⟩ := Cbi.select_offered selected
    simp [h k h8] at offered

/-! ### The attempt -/

theorem State.mayTransmit_iff (s : State) : s.mayTransmit = true ↔ s.busOn = true ∧ s.cbi.dormant = false
    ∧ s.cbi.idleCount = 10 ∧ s.cbi.inFrame = false ∧ s.cbi.inFlight = none ∧ s.cbi.listen = none := by
  simp [State.mayTransmit, Config.idleBits, and_assoc]

theorem Standing.allows_iff (x : Standing) (cls : Nat) :
    x.allows cls = true ↔ x = .normal ∨ (x = .limited ∧ cls ≤ 1) := by
  cases x with
  | limited => exact decide_eq_true_iff.trans (by simp [clsSettle])
  | normal | offline | silenced => simp [Standing.allows]

theorem Cbi.offers_iff (c : Cbi) (i : Nat) : c.offers i = true ↔ (c.box i).state = .pending
    ∧ (c.standing = .normal ∨ (c.standing = .limited ∧ (c.box i).frame.cls ≤ 1)) := by
  simp [Cbi.offers, Standing.allows_iff]

theorem transmitAttempt_begins {s : State} (may : s.mayTransmit = true) (selected : s.cbi.select s.ownNumber = some i) :
    transmitAttempt s = beginAttempt i s := by
  simp [transmitAttempt, may, selected]

/-- Settles O53, by what the selection finds: the mailbox before all others, or none to offer. -/
theorem attemptOffersTheLowestHeader : Obligations.AttemptOffersTheLowestHeader := by
  unfold Obligations.AttemptOffersTheLowestHeader
  refine ⟨?begins, State.mayTransmit_iff, Cbi.offers_iff, ?none⟩
  case begins =>
    rintro s p i may peers - h8 offered _ rfl lowest
    have number : s.ownNumber = p.own := by simp [State.ownNumber, peers]
    have selected : s.cbi.select s.ownNumber = some i := by
      rw [number]
      refine Cbi.select_of_before h8 offered fun j hj other pending => ?_
      simpa [Mailbox.before, headerOf] using lowest j hj other pending
    refine ⟨beginAttempt i s, congrArg Host.Outcome.next (transmitAttempt_begins may selected), ?_, rfl⟩
    rw [← number]
    rfl
  case none =>
    intro s stopped
    show Host.Outcome.next (transmitAttempt s) = _
    obtain silent | nothing := stopped
    · simp [transmitAttempt, silent]
    · simp [transmitAttempt, Cbi.select_none nothing]

/-! ### The coded frame (R168) -/

@[simp] theorem bitsOf_length (n v : Nat) : (bitsOf n v).length = n := by
  induction n generalizing v with
  | zero => rfl
  | succ n ih => simp [bitsOf, ih]

@[simp] theorem byteBits_length (bs : List Byte) : (byteBits bs).length = 8 * bs.length := by
  induction bs with
  | nil => rfl
  | cons b bs ih =>
    rw [byteBits, List.flatMap_cons, List.length_append, ← byteBits, ih]
    simp
    omega

/-- One sync bit for every four bits. -/
theorem insertSync_length (l : List Bool) : (insertSync l).length = l.length + l.length / 4 := by
  induction l using insertSync.induct with
  | case1 a b c d rest ih =>
    simp only [insertSync, List.length_cons, ih]
    omega
  | case2 rest short =>
    have few : rest.length < 4 := by
      by_contra many
      match rest with
      | a :: b :: c :: d :: more => exact short a b c d more rfl
      | [] | [_] | [_, _] | [_, _, _] => simp at many
    rw [insertSync.eq_2 _ short, Nat.div_eq_of_lt few, Nat.add_zero]

theorem codedPart_length (header : Nat) (payload : List Byte) :
    (codedPart header payload).length = 45 + 10 * payload.length := by
  simp only [codedPart, insertSync_length, checkedBits, List.length_append, bitsOf_length, byteBits_length]
  omega

/-- Settles O58: the start mark, the coded part, the acknowledge slot and the end mark. -/
theorem codedFrameLength : Obligations.CodedFrameLength := by
  unfold Obligations.CodedFrameLength
  intro header payload
  have coded := codedPart_length header payload
  have opening : ([false] ++ codedPart header payload).length = 46 + 10 * payload.length := by
    simp [coded]
    omega
  refine ⟨?_, rfl, ?_⟩
  · simp [frameBits, coded, Config.endMarkBits]
    omega
  · rw [frameBits, List.append_assoc, ← opening, List.drop_left]
    rfl

end Sys2Proof.Machine

/-! 09: answers (R173, R179) and STATUS_READ (R180). -/

namespace Sys2Proof.Machine

variable {s : State} {f : RxFrame} {topic : Nat} {code : ResultCode}

/-! ### The answer to a request (R179) -/

/-- A request of class ALARM is answered in SETTLE. -/
theorem answerFrame_routed (f : RxFrame) (topic : Nat) (code : ResultCode) :
    (answerFrame f topic code).cls ≠ clsAlarm := by
  unfold answerFrame
  dsimp only
  split
  · simp [clsSettle, clsAlarm]
  · rename_i other
    exact fun alarm => other (BitVec.eq_of_toNat_eq alarm)

/-- An event frame takes the first EMPTY mailbox of 1 to 7. -/
theorem Cbi.enqueue_event_placed {c : Cbi} {x : TxFrame} {i : Nat} (cls : x.cls ≠ clsAlarm) (kind : x.kind = .event)
    (empty : c.firstEmpty = some i) : c.enqueue x = (c.write i x, some i) := by
  simp [Cbi.enqueue, cls, kind, empty]

theorem Cbi.enqueue_event_full {c : Cbi} {x : TxFrame} (cls : x.cls ≠ clsAlarm) (kind : x.kind = .event)
    (full : c.firstEmpty = none) : c.enqueue x = (c, none) := by
  simp [Cbi.enqueue, cls, kind, full]

theorem answer_placed {i : Nat} (awake : s.cbi.dormant = false) (empty : s.cbi.firstEmpty = some i) :
    answer topic f code s = s.setCbi (s.cbi.write i (answerFrame f topic code)) := by
  have placed := Cbi.enqueue_event_placed (answerFrame_routed f topic code) rfl empty
  simp [answer, enqueueCounted, enqueue_eq _ awake, placed]

theorem answer_dropped (awake : s.cbi.dormant = false) (full : s.cbi.firstEmpty = none) :
    answer topic f code s = s.setCbi { s.cbi with droppedAnswers := min (s.cbi.droppedAnswers + 1) 65535 } := by
  have dropped := Cbi.enqueue_event_full (answerFrame_routed f topic code) rfl full
  rw [answer, enqueueCounted, enqueue_eq _ awake, dropped]
  rfl

/-- Settles O57: the first EMPTY mailbox, or the count of dropped answers. -/
theorem answersArePlacedOrCounted : Obligations.AnswersArePlacedOrCounted := by
  unfold Obligations.AnswersArePlacedOrCounted
  exact fun s topic f code awake => ⟨fun i empty => answer_placed awake empty, answer_dropped awake⟩

/-- Of the interface an answer counts itself where it is dropped. -/
theorem answer_droppedAnswers (awake : s.cbi.dormant = false) : (answer topic f code s).cbi.droppedAnswers =
    if s.cbi.firstEmpty.isSome then s.cbi.droppedAnswers else min (s.cbi.droppedAnswers + 1) 65535 := by
  cases first : s.cbi.firstEmpty with
  | some i => rw [answer_placed awake first]; rfl
  | none => rw [answer_dropped awake first]; rfl

/-! ### STATUS_READ (R180) -/

/-- The pages that Table 11-2 gives, each as long as it says and beginning with its number. -/
theorem State.statusPage_shape (s : State) {b : Byte} (page : b.toNat ≤ 2) :
    (s.statusPage b.toNat).length = (if b.toNat = 0 then 12 else if b.toNat = 1 then 11 else 7)
      ∧ (s.statusPage b.toNat).head? = some b := by
  obtain rfl | rfl | rfl : b = 0 ∨ b = 1 ∨ b = 2 := by bv_omega
  · simp [State.statusPage, codeByte]
  · simp [State.statusPage, codeByte]
  · simp [State.statusPage, codeByte]

theorem exec_statusRead {b : Byte} (hd : s.delivers 58 f = true) (hp : f.payload = [b]) :
    exec (.statusRead f) s = .next (if 2 < b.toNat then answer 58 f .refusedFormat (received s)
      else enqueueCounted (answer 58 f .done (received s))
        ((answer 58 f .done (received s)).statusFrame b.toNat)) := by
  have page : field f.payload 0 1 = b.toNat := field_one (by simp [hp])
  show Host.Outcome.next (frameComplete 58 f (statusRead f) s) = _
  rw [frameComplete_delivers (statusRead f) hd, statusRead, page]
  rfl

/-- What the pages say of the interface, and of the other blocks, as an answer leaves it (R180). -/
theorem answer_leaves (awake : s.cbi.dormant = false) :
    s.cbi.onlyMailboxes (answer topic f code s).cbi
      ∧ answer topic f code s = s.setCbi (answer topic f code s).cbi := by
  obtain ⟨c, answered, only⟩ := answer_awake topic f code awake
  rw [answered]
  exact ⟨only, rfl⟩

section Pages

variable (awake : s.cbi.dormant = false)

include awake

theorem answer_statusPage_zero : (answer topic f code s).statusPage 0 =
    [0, codeByte s.meter.code, codeByte s.trc.reason.code, codeByte s.sau.shift.code,
      codeByte s.odu.sensor.code, codeByte s.odu.motion.code, codeByte s.cbi.standing.code]
    ++ be 2 s.cbi.faultCounter
    ++ [codeByte s.stu.unsettled.length, codeByte s.pld.image.code,
      codeByte ((if s.trc.restricted then 128 else 0) + (if s.alm.state = .active then 64 else 0)
        + (if s.alm.acknowledged then 32 else 0) + (if s.sau.retainedLost then 16 else 0))] := by
  obtain ⟨only, -⟩ := answer_leaves (topic := topic) (f := f) (code := code) awake
  have standing : (answer topic f code s).cbi.standing = s.cbi.standing := by rw [only]
  have counter : (answer topic f code s).cbi.faultCounter = s.cbi.faultCounter := by rw [only]
  simp [State.statusPage, statusFlags, flagAt, State.meter, standing, counter, codeByte]

theorem answer_statusPage_one : (answer topic f code s).statusPage 1 = [1] ++ be 2 s.cbi.receiveFaults
    ++ be 2 (if s.cbi.firstEmpty.isSome then s.cbi.droppedAnswers else min (s.cbi.droppedAnswers + 1) 65535)
    ++ be 2 s.cbi.faultCounter ++ [codeByte s.cbi.standing.code, codeByte s.cbi.idleGaps] ++ be 2 s.odu.speed := by
  have dropped := answer_droppedAnswers (topic := topic) (f := f) (code := code) awake
  obtain ⟨only, -⟩ := answer_leaves (topic := topic) (f := f) (code := code) awake
  have standing : (answer topic f code s).cbi.standing = s.cbi.standing := by rw [only]
  have counter : (answer topic f code s).cbi.faultCounter = s.cbi.faultCounter := by rw [only]
  have faults : (answer topic f code s).cbi.receiveFaults = s.cbi.receiveFaults := by rw [only]
  have gaps : (answer topic f code s).cbi.idleGaps = s.cbi.idleGaps := by rw [only]
  simp [State.statusPage, dropped, standing, counter, faults, gaps, codeByte]

end Pages

/-- Settles O49: the answer first, then the page as it stands. -/
theorem statusReadAnswersAPage : Obligations.StatusReadAnswersAPage := by
  unfold Obligations.StatusReadAnswersAPage
  intro s f b hd hp
  have awake := State.delivers_awake hd
  have event := exec_statusRead hd hp
  refine ⟨fun high => by rw [event, if_pos high], fun low => ?_⟩
  rw [if_neg (by omega)] at event
  obtain ⟨only, answered⟩ := answer_leaves (topic := 58) (f := f) (code := .done) awake
  obtain ⟨d, placed, also⟩ := enqueueCounted_awake (s := answer 58 f .done (received s))
    ((answer 58 f .done (received s)).statusFrame b.toNat) ((Cbi.onlyMailboxes_dormant only).trans awake)
  obtain ⟨length, head⟩ := (answer 58 f .done (received s)).statusPage_shape low
  obtain ⟨r, heard, -⟩ := received_eq s
  refine ⟨_, _, rfl, event, rfl, length, head, fun _ => ?zero, fun _ => ?one, fun _ => ?two, ?only, ?whole⟩
  case zero =>
    have page := answer_statusPage_zero (topic := 58) (f := f) (code := .done) awake
    simpa [State.meter] using page
  case one =>
    have page := answer_statusPage_one (topic := 58) (f := f) (code := .done) awake
    simpa using page
  case two =>
    have cau : (answer 58 f .done (received s)).cau = s.cau := by
      rw [answered, heard]
      rfl
    simp [State.statusPage, codeByte, cau]
  case only =>
    rw [placed]
    exact Cbi.onlyMailboxes_trans only also
  case whole =>
    rw [placed, answered, heard]
    rfl

end Sys2Proof.Machine

/-! 09: the receiver (R169, R172, R183). -/

namespace Sys2Proof.Machine

variable {s : State}

/-! ### The idle line (R169, R172) -/

theorem offlineRecovery_online (online : s.cbi.standing ≠ .offline) : offlineRecovery s = s := by
  simp [offlineRecovery, online]

theorem offlineRecovery_early (gaps : s.cbi.idleGaps < 128) : offlineRecovery s = s := by
  have few : ¬Config.recoveryGaps ≤ s.cbi.idleGaps := Nat.not_le.2 gaps
  simp [offlineRecovery, few]

/-- The recovery, as it falls due with the gap just counted. -/
theorem offlineRecovery_due (bus : s.busOn = true) (offline : s.cbi.standing = .offline) (gaps : s.cbi.idleGaps = 128) :
    offlineRecovery s = s.setCbi { s.cbi with faultCounter := 0, standing := .normal, idleGaps := 0 } := by
  simp [offlineRecovery, bus, offline, gaps, Config.recoveryGaps]

theorem lineIdle_online (bus : s.busOn = true) (awake : s.cbi.dormant = false) (free : s.cbi.inFlight = none)
    (online : s.cbi.standing ≠ .offline) :
    lineIdle s = s.setCbi { s.cbi with idleCount := 10, inFrame := false } := by
  rw [lineIdle, if_pos (by simp [bus, awake, free]), offlineRecovery_online online]
  dsimp only
  rw [if_neg online]
  rfl

theorem lineIdle_offline (bus : s.busOn = true) (awake : s.cbi.dormant = false) (free : s.cbi.inFlight = none)
    (offline : s.cbi.standing = .offline) (gaps : s.cbi.idleGaps < 128) :
    lineIdle s = s.setCbi { s.cbi with idleCount := 10, inFrame := false, idleGaps := s.cbi.idleGaps + 1 } := by
  rw [lineIdle, if_pos (by simp [bus, awake, free]), offlineRecovery_early gaps]
  dsimp only
  rw [if_pos offline]
  rfl

/-- Where no idle line can be commanded, none is implied. -/
theorem lineIdle_stopped (stopped : ¬(s.busOn = true ∧ s.cbi.dormant = false ∧ s.cbi.inFlight = none)) :
    lineIdle s = s := by
  rw [lineIdle, if_neg]
  simpa [and_assoc] using stopped

/-! ### The end of a reception (R169, R182, R183) -/

theorem impliedIdle_commanded (h : s.cbi.inFrame = true ∨ s.cbi.idleCount = 10) : impliedIdle s = s := by
  obtain h | h := h <;> simp [impliedIdle, h, Config.idleBits]

theorem impliedIdle_between (between : s.cbi.inFrame = false) (busy : s.cbi.idleCount ≠ 10) :
    impliedIdle s = offlineRecovery (lineIdle s) := by
  simp [impliedIdle, between, busy, Config.idleBits]

/-- With a frame in reception, an idle line commanded, or a standing other than OFFLINE, an implied idle line leaves nothing
that the end of the reception does not set. -/
theorem endReception_heard (idle : Nat) (ack : Bool)
    (heard : s.cbi.inFrame = true ∨ s.cbi.idleCount = 10 ∨ s.cbi.standing ≠ .offline) :
    endReception idle ack s = s.setCbi { s.cbi with
      inFrame := false
      idleCount := idle
      ackDriven := ack
      dormancyTimer := if s.cbi.inFrame then s.cbi.dormancyTimer else 0 } := by
  have implied : ∃ n b, impliedIdle s = s.setCbi { s.cbi with idleCount := n, inFrame := b } := by
    by_cases commanded : s.cbi.inFrame = true ∨ s.cbi.idleCount = 10
    · exact ⟨_, _, impliedIdle_commanded commanded⟩
    · have online : s.cbi.standing ≠ .offline :=
        (heard.resolve_left (commanded ∘ .inl)).resolve_left (commanded ∘ .inr)
      simp only [not_or, Bool.not_eq_true] at commanded
      obtain ⟨between, busy⟩ := commanded
      rw [impliedIdle_between between busy]
      by_cases line : s.busOn = true ∧ s.cbi.dormant = false ∧ s.cbi.inFlight = none
      · obtain ⟨bus, awake, free⟩ := line
        rw [lineIdle_online bus awake free online, offlineRecovery_online]
        · exact ⟨_, _, rfl⟩
        · exact online
      · rw [lineIdle_stopped line, offlineRecovery_online online]
        exact ⟨_, _, rfl⟩
  obtain ⟨n, b, implied⟩ := implied
  rw [endReception, implied]
  rfl

/-- OFFLINE counts the idle gap of an implied idle line, and at the 128th recovers (R172). -/
theorem endReception_offline (idle : Nat) (ack : Bool) (bus : s.busOn = true) (awake : s.cbi.dormant = false)
    (free : s.cbi.inFlight = none) (between : s.cbi.inFrame = false) (busy : s.cbi.idleCount ≠ 10)
    (offline : s.cbi.standing = .offline) (gaps : s.cbi.idleGaps < 128) :
    endReception idle ack s = s.setCbi { s.cbi with
      idleCount := idle
      ackDriven := ack
      dormancyTimer := 0
      faultCounter := if s.cbi.idleGaps = 127 then 0 else s.cbi.faultCounter
      standing := if s.cbi.idleGaps = 127 then .normal else .offline
      idleGaps := if s.cbi.idleGaps = 127 then 0 else s.cbi.idleGaps + 1 } := by
  rw [endReception, impliedIdle_between between busy, lineIdle_offline bus awake free offline gaps]
  by_cases last : s.cbi.idleGaps = 127
  · rw [offlineRecovery_due]
    · simp only [if_pos last, between]
      rfl
    · exact bus
    · exact offline
    · simp [last]
  · rw [offlineRecovery_early]
    · simp only [if_neg last, between, ← offline]
      rfl
    · simp
      omega

/-! ### Faults and start marks -/

theorem receiveFault_counts (bus : s.busOn = true) (awake : s.cbi.dormant = false) (fault : ReceiveFault)
    (heard : s.cbi.inFrame = true ∨ s.cbi.idleCount = 10 ∨ (7 ≤ s.cbi.idleCount ∧ s.cbi.standing ≠ .offline)) :
    receiveFault fault s = s.setCbi { s.cbi with
      inFrame := false
      idleCount := 0
      ackDriven := decide (fault = .formatEndMark ∧ s.cbi.standing ≠ .silenced)
      dormancyTimer := if s.cbi.inFrame then s.cbi.dormancyTimer else 0
      receiveFaults := min (s.cbi.receiveFaults + 1) 65535 } := by
  have taken : s.cbi.inFrame = true ∨ Config.endMarkBits ≤ s.cbi.idleCount := by
    obtain frame | idle | ⟨gap, -⟩ := heard
    · exact .inl frame
    · exact .inr (by rw [idle]; decide)
    · exact .inr gap
  have ack : (fault == .formatEndMark && s.cbi.standing != .silenced)
      = decide (fault = .formatEndMark ∧ s.cbi.standing ≠ .silenced) := by
    rw [Bool.eq_iff_iff]
    simp
  rw [receiveFault, if_neg (by simp [bus]), if_neg (by simp [awake]), if_pos (by simpa using taken),
    endReception_heard 0 _ (heard.imp_right (.imp_right And.right)), ack]
  rfl

/-- Settles O50, by what the line shows and the state of the receiver. -/
theorem receiverFollowsTheLine : Obligations.ReceiverFollowsTheLine := by
  unfold Obligations.ReceiverFollowsTheLine
  refine ⟨fun s heard => endReception_heard 7 _ heard, fun s bus awake free between busy offline gaps => ?gap,
    fun s bus awake => ⟨fun fault frame other => ?inFrame, fun fault heard => ?fault, fun fault between early => ?early,
      fun free online => ?online, fun free offline gaps => ?offline, fun free between idle => ?mark⟩⟩
  case gap =>
    rw [received, endReception_offline _ _ bus awake free between busy offline gaps, offline]
    rfl
  case inFrame =>
    refine congrArg Host.Outcome.next ((receiveFault_counts bus awake fault (.inl frame)).trans ?_)
    simp [frame, other]
  case fault => exact congrArg Host.Outcome.next (receiveFault_counts bus awake fault heard)
  case early =>
    have short : ¬Config.endMarkBits ≤ s.cbi.idleCount := Nat.not_le.2 early
    refine congrArg Host.Outcome.next ?_
    rw [receiveFault, if_neg (by simp [bus]), if_neg (by simp [awake]), if_neg (by simp [between, short])]
  case online => exact congrArg Host.Outcome.next (lineIdle_online bus awake free online)
  case offline => exact congrArg Host.Outcome.next (lineIdle_offline bus awake free offline gaps)
  case mark =>
    refine congrArg Host.Outcome.next ?_
    rw [startMark, if_neg (by simp [bus]), if_neg (by simp [awake]), if_neg (by simp [between, free]),
      if_pos (show s.cbi.idleCount = Config.idleBits from idle)]

end Sys2Proof.Machine

/-! 09: the acceptance table, and what a complete frame matches (R177, R178, R179). -/

namespace Sys2Proof.Machine

variable {s : State} {f : RxFrame} {topic : Nat}

/-! ### Table 11-1 -/

/-- The received topics of Table 11-1: number, class, least and greatest payload length. -/
def receivedTopics : List (Nat × Nat × Nat × Nat) :=
  [(2, 0, 0, 0), (3, 0, 0, 0), (32, 2, 0, 0), (33, 2, 0, 0), (34, 2, 0, 0), (35, 2, 0, 0), (36, 2, 0, 0), (38, 2, 9, 9),
    (39, 2, 8, 8), (40, 2, 1, 1), (41, 2, 1, 1), (42, 2, 1, 1), (44, 1, 6, 6), (45, 1, 3, 3), (46, 1, 0, 0), (47, 1, 0, 0),
    (48, 2, 0, 0), (49, 2, 0, 0), (50, 3, 1, 1), (51, 3, 0, 0), (52, 2, 0, 0), (53, 2, 0, 0), (54, 2, 0, 0), (55, 2, 0, 0),
    (56, 2, 0, 0), (57, 3, 0, 12), (58, 2, 1, 1), (59, 2, 4, 4), (64, 1, 3, 3), (65, 1, 10, 10), (66, 1, 9, 9),
    (68, 1, 9, 9), (72, 3, 4, 4)]

theorem receivedTopics_known : ∀ row ∈ receivedTopics,
    (topicInfo row.1).map (fun i => (i.cls, i.least, i.most)) = some row.2 := by
  decide

theorem topicInfo_listed_low : ∀ t < 73,
    (topicInfo t).all (fun i => (t, i.cls, i.least, i.most) ∈ receivedTopics) = true := by
  decide

theorem topicInfo_high {t : Nat} (h : 73 ≤ t) : topicInfo t = none := by
  unfold topicInfo
  repeat' rw [if_neg (by omega)]

theorem mem_receivedTopics {t cls least most : Nat} : (t, cls, least, most) ∈ receivedTopics
    ↔ ∃ i, topicInfo t = some i ∧ i.cls = cls ∧ i.least = least ∧ i.most = most := by
  constructor
  · intro row
    obtain ⟨i, info, same⟩ := Option.map_eq_some_iff.1 (receivedTopics_known _ row)
    simp only [Prod.mk.injEq] at same
    exact ⟨i, info, same⟩
  · rintro ⟨i, info, rfl, rfl, rfl⟩
    have low : t < 73 := by
      by_contra high
      simp [topicInfo_high (Nat.not_lt.1 high)] at info
    simpa [info] using topicInfo_listed_low t low

theorem wellFormedFor_iff (e : AcceptEntry) : wellFormedFor e topic f = true ↔ topic ∈ e.topics
    ∧ ∃ least most, least ≤ f.payload.length ∧ f.payload.length ≤ most
      ∧ (topic, f.cls.toNat, least, most) ∈ receivedTopics := by
  simp only [wellFormedFor, Bool.and_eq_true, List.contains_iff_mem, Option.any_eq_true, beq_iff_eq, decide_eq_true_eq,
    mem_receivedTopics]
  refine and_congr_right fun _ => ⟨?_, ?_⟩
  · rintro ⟨i, info, ⟨cls, least⟩, most⟩
    exact ⟨_, _, least, most, i, info, cls, rfl, rfl⟩
  · rintro ⟨_, _, least, most, i, info, cls, rfl, rfl⟩
    exact ⟨i, info, ⟨cls, least⟩, most⟩

/-! ### Matching and delivery (R178) -/

/-- Two numbers agree in the bits of a mask. -/
theorem mask_agrees_iff {a b mask : Nat} :
    a &&& mask = b &&& mask ↔ ∀ i, mask.testBit i = true → a.testBit i = b.testBit i := by
  refine ⟨fun same i covered => ?_, fun agree => Nat.eq_of_testBit_eq fun i => ?_⟩
  · have bit := congrArg (Nat.testBit · i) same
    simpa [Nat.testBit_and, covered] using bit
  · cases covered : mask.testBit i with
    | false => simp [Nat.testBit_and, covered]
    | true => simp [Nat.testBit_and, covered, agree i covered]

theorem AcceptEntry.accepts_iff (e : AcceptEntry) (topic source : Nat) : e.accepts topic source = true ↔
    e.active = true ∧ e.source = source ∧ ∀ i, e.mask.testBit i = true → topic.testBit i = e.topic.testBit i := by
  simp [AcceptEntry.accepts, mask_agrees_iff, and_assoc]

theorem verdict_delivered_iff (e : AcceptEntry) : verdict e topic f = .delivered ↔ wellFormedFor e topic f = true := by
  unfold verdict
  split
  · simp [*]
  · split <;> simp [*]

theorem verdict_malformed {e : AcceptEntry} (malformed : wellFormedFor e topic f = false) :
    verdict e topic f = if reportBlock topic then .malformedReport else .malformedRequest := by
  simp [verdict, malformed]

theorem State.delivers_iff : s.delivers topic f = true ↔ s.busOn = true ∧ s.cbi.dormant = false ∧ s.receptive = true
    ∧ s.ownSource f = false ∧ ∃ e, s.entryFor topic f = some e ∧ wellFormedFor e topic f = true := by
  simp [State.delivers, Option.any_eq_true, verdict_delivered_iff, and_assoc]

/-! ### A complete frame that is not delivered (R178, R179) -/

section Undelivered

variable (d : State → State) (bus : s.busOn = true) (awake : s.cbi.dormant = false) (receptive : s.receptive = true)
  (other : s.ownSource f = false)

include bus awake receptive other

theorem frameComplete_unmatched (unmatched : s.entryFor topic f = none) : frameComplete topic f d s = received s := by
  have source : (received s).ownSource f = false := by simpa [State.ownSource] using other
  have entry : (received s).entryFor topic f = none := by simpa [State.entryFor] using unmatched
  simp [frameComplete, bus, awake, receptive, source, entry]

theorem frameComplete_malformed {e : AcceptEntry} (matched : s.entryFor topic f = some e)
    (malformed : wellFormedFor e topic f = false) : frameComplete topic f d s =
      if reportBlock topic then received s else answer topic f .refusedFormat (received s) := by
  have source : (received s).ownSource f = false := by simpa [State.ownSource] using other
  have entry : (received s).entryFor topic f = some e := by simpa [State.entryFor] using matched
  cases report : reportBlock topic <;>
    simp [frameComplete, bus, awake, receptive, source, entry, verdict_malformed malformed, report]

end Undelivered

theorem reportBlock_iff (t : Nat) : reportBlock t = true ↔ (64 ≤ t ∧ t ≤ 68) ∨ t = 72 := by
  simp [reportBlock]

theorem State.entryFor_some {e : AcceptEntry} (h : s.entryFor topic f = some e) :
    e ∈ s.cbi.acceptance ∧ e.accepts topic f.src.toNat = true :=
  ⟨List.mem_of_find?_eq_some h, List.find?_some (p := fun x : AcceptEntry => x.accepts topic f.src.toNat) h⟩

theorem State.entryFor_none (h : s.entryFor topic f = none) {e : AcceptEntry} (mem : e ∈ s.cbi.acceptance) :
    e.active = false ∨ e.source ≠ f.src.toNat
      ∨ ∃ i, e.mask.testBit i = true ∧ topic.testBit i ≠ e.topic.testBit i := by
  have refused := List.find?_eq_none.1 h e mem
  rw [AcceptEntry.accepts_iff] at refused
  by_contra matched
  push Not at matched
  exact refused ⟨by simpa using matched.1, matched.2.1, matched.2.2⟩

/-- Settles O51: the frame not delivered, Table 11-1, delivery and matching, and Table 9-4. -/
theorem unmatchedFramesChangeNothing : Obligations.UnmatchedFramesChangeNothing := by
  unfold Obligations.UnmatchedFramesChangeNothing
  refine ⟨fun s topic f bus awake receptive other => ⟨fun unmatched => ?none, fun e matched malformed => ?malformed⟩,
    fun e topic f => wellFormedFor_iff e, fun s topic f => State.delivers_iff, fun s topic f e matched => ?matched,
    fun s topic f unmatched e mem => State.entryFor_none unmatched mem, ?table⟩
  case none => exact congrArg Host.Outcome.next (frameComplete_unmatched _ bus awake receptive other unmatched)
  case malformed =>
    refine congrArg Host.Outcome.next ((frameComplete_malformed _ bus awake receptive other matched malformed).trans ?_)
    simp only [reportBlock_iff]
  case matched =>
    obtain ⟨mem, accepts⟩ := State.entryFor_some matched
    exact ⟨mem, (e.accepts_iff _ _).1 accepts⟩
  case table =>
    rintro p _ _ rfl rfl
    unfold acceptanceOf
    split <;> rfl

end Sys2Proof.Machine

/-! 10: the state after reset (R188, R193, R194). It is a fixed point of the beginning of a start, and its retained records are
those of a cold start, so the soundness of both, proved for the starts, is its own. -/

namespace Sys2Proof.Machine

/-- The beginning of a start, COLD by the lost integrity marker, leaves the state after reset as it is (R188, R193; logs 1
and 2). -/
theorem beginStart_reset : beginStart State.reset = State.reset := rfl

/-- A cold start finds the retained records at their cold values, and restores the integrity marker alone (R194; log 3). -/
theorem coldRecords_reset : coldRecords State.reset = State.reset.setRtm ⟨false, true⟩ := rfl

/-- The empty record is balanced, and there are no tables (R19 to R21). -/
theorem FareSound.of_initial : FareSound Fen.initial :=
  (fareSound_iff _).2 ⟨FareRecord.empty_balanced, fun t ht => by simp [Fen.initial] at ht, Nat.zero_le _⟩

theorem State.reset_lamp : LampSound State.reset := by
  rw [← beginStart_reset]
  exact retainedOnly_lamp _ _ _

theorem State.reset_cabin : CabinSound State.reset := by
  rw [← beginStart_reset]
  exact retainedOnly_cabin _ _ _

/-! The accounts do not read the integrity marker, which is all that `coldRecords_reset` leaves between the two states. -/

theorem State.reset_ledger : LedgerSound State.reset := by
  have cold : LedgerSound (State.reset.setRtm ⟨false, true⟩) := coldRecords_reset ▸ coldRecords_ledger State.reset
  exact cold

theorem State.reset_lifetime : LifetimeInRange State.reset.sau.lifetime := by
  have cold : LifetimeInRange (State.reset.setRtm ⟨false, true⟩).sau.lifetime :=
    coldRecords_reset ▸ coldRecords_lifetime State.reset
  exact cold

theorem State.reset_money : MoneySound State.reset := by
  have cold : MoneySound (State.reset.setRtm ⟨false, true⟩) := coldRecords_reset ▸ coldRecords_money State.reset
  exact cold

/-- Settles O13: the FEN and the CBI are at their initial values, the lamp and the cabin as a start begins them, and the accounts
at their cold values. -/
theorem resetIsSound : Obligations.ResetIsSound := by
  unfold Obligations.ResetIsSound
  exact ⟨FareSound.of_initial, InterfaceSound.of_initial, State.reset_lamp, State.reset_cabin, State.reset_ledger,
    State.reset_lifetime, State.reset_money⟩

end Sys2Proof.Machine

/-! 11: the lengths of the serialized trip record and shift summary, and their part counts (R196, Tables 11-4 and 11-5). Each field
has a width of its own, so a stream's length is the sum of its fields' widths. -/

namespace Sys2Proof.Machine

/-! ### Lists and references -/

theorem padded_length {n : Nat} {bs : List Byte} (fits : bs.length ≤ n) : (padded n bs).length = n := by
  simp [padded, fits]

/-- The places of a list that has room for `most` entries of `width` bytes take all their bytes, whatever its count is. -/
theorem padded_entries_length {α : Type} {entry : α → List Byte} {width most : Nat} {l : List α}
    (each : ∀ x ∈ l, (entry x).length = width) (few : l.length ≤ most) :
    (padded (most * width) (l.flatMap entry)).length = most * width := by
  refine padded_length ?_
  calc (l.flatMap entry).length
      = (l.map fun x => (entry x).length).sum := List.length_flatMap
    _ ≤ l.length * width := by
        simpa using List.sum_le_card_nsmul (l.map fun x => (entry x).length) width (by simp +contextual [each])
    _ ≤ most * width := Nat.mul_le_mul_right width few

/-- A reference takes its width, absent or present. -/
theorem referenceBytes_length {n : Nat} {r : Option (List Byte)} (sized : ∀ ref, r = some ref → ref.length = n) :
    (referenceBytes n r).length = n := by
  refine padded_length ?_
  cases r with
  | none => exact Nat.zero_le n
  | some ref => exact (sized ref rfl).le

/-! ### The entries of a trip record (Table 11-4) -/

@[simp] theorem TariffChange.bytes_length (c : TariffChange) : c.bytes.length = 3 := by
  simp [TariffChange.bytes]

@[simp] theorem Extra.bytes_length (e : Extra) : e.bytes.length = 4 := by
  simp [Extra.bytes]

theorem Tender.bytes_length {t : Tender} (sized : ∀ ref, t.reference = some ref → ref.length = 6) :
    t.bytes.length = 13 := by
  simp [Tender.bytes, referenceBytes_length sized]

theorem TripRecord.bytes_length {r : TripRecord} (changes : r.changes.length ≤ 4) (extras : r.extras.length ≤ 8)
    (tenders : r.tenders.length ≤ 3) (booking : ∀ ref, r.reference = some ref → ref.length = 8)
    (receipts : ∀ t ∈ r.tenders, ∀ ref, t.reference = some ref → ref.length = 6) : r.bytes.length = 131 := by
  have changePlaces : (padded 12 (r.changes.flatMap TariffChange.bytes)).length = 12 :=
    padded_entries_length (fun c _ => c.bytes_length) changes
  have extraPlaces : (padded 32 (r.extras.flatMap Extra.bytes)).length = 32 :=
    padded_entries_length (fun e _ => e.bytes_length) extras
  have tenderPlaces : (padded 39 (r.tenders.flatMap Tender.bytes)).length = 39 :=
    padded_entries_length (fun t mem => Tender.bytes_length (receipts t mem)) tenders
  unfold TripRecord.bytes
  simp [referenceBytes_length booking, changePlaces, extraPlaces, tenderPlaces]

/-! ### The blocks of a summary (Table 11-5) -/

@[simp] theorem Counters.bytes_length (c : Counters) : c.bytes.length = 119 := by
  unfold Counters.bytes
  simp

@[simp] theorem beInt_length (n : Nat) (v : Int) : (beInt n v).length = n := be_length n _

/-- The reconciliation fields take their places where there is no reconciliation too. -/
@[simp] theorem reconciliationBytes_length (r : Option Reconciliation) : (reconciliationBytes r).length = 26 := by
  cases r with
  | none => simp [reconciliationBytes]
  | some r => simp [reconciliationBytes]

@[simp] theorem Lifetime.bytes_length (l : Lifetime) : l.bytes.length = 27 := by
  simp [Lifetime.bytes]

@[simp] theorem summaryBytes_length (x : Summary) (l : Lifetime) : (summaryBytes x l).length = 182 := by
  unfold summaryBytes
  simp

/-! ### The parts -/

/-- Parts of 8 bytes, the last with the bytes that remain: the number of eighths, rounded up. -/
theorem partCount_of_length {bs : List Byte} {n : Nat} (h : bs.length = n) : partCount bs = (n + 7) / 8 := by
  subst h
  rfl

/-- Settles O33: the widths of the fields, summed, and eighths of the sum. -/
theorem serializedLengths : Obligations.SerializedLengths := by
  unfold Obligations.SerializedLengths
  refine ⟨fun r changes extras tenders booking receipts => ?record, fun x l => ?summary⟩
  case record =>
    have length := TripRecord.bytes_length changes extras tenders booking receipts
    exact ⟨length, partCount_of_length length⟩
  case summary =>
    have length := summaryBytes_length x l
    exact ⟨length, partCount_of_length length⟩

end Sys2Proof.Machine

/-! 95: one step, by the shape of the queue: the command at the front, or none. -/

namespace Sys2Proof.Machine

/-- The command at the front leaves the queue before it runs, so what it does finds only the rest waiting. -/
theorem step_of_pending_cons {s : State} {c : Instr} {rest : List Instr} (waiting : s.pending = c :: rest) :
    step s = exec c (s.setPending rest) := by
  simp only [step, waiting]

/-- Log 4: with no command waiting the block idles. -/
theorem step_of_pending_nil {s : State} (idle : s.pending = []) : step s = .next s := by
  simp only [step, idle]

/-- Settles O1, by the shape of the queue. -/
theorem stepRunsFrontCommand : Obligations.StepRunsFrontCommand := by
  unfold Obligations.StepRunsFrontCommand
  exact ⟨fun _ _ _ waiting => step_of_pending_cons waiting, fun _ idle => step_of_pending_nil idle⟩

end Sys2Proof.Machine
